-- ==== Sys2Proof/Word.lean ====
section
/-! DEFINITION. The two things the manual handles as bits on a wire: bytes (chapter 12) and configuration words (R187). Every
other quantity of the manual is a number, and is a natural number here. -/

namespace Sys2Proof

/-- One byte of a message (chapter 12). -/
abbrev Byte := BitVec 8

/-- One word of the configuration image (R187). -/
abbrev Word16 := BitVec 16

end Sys2Proof
end

