-- ==== Sys2Proof/Config.lean ====
section
/-! DEFINITION. What stays fixed while the part runs: the values taken from the configuration image (R187), the part's own
constants, and the values that the manual leaves open. -/

namespace Sys2Proof

/-- DESIGN CHOICE (log entry 7): what a field of `size` bytes carries when its number `value` does not fit. The manual
gives no rule, so this has no body: nothing can be proved about it. Only the bytes of a response or a record depend on it. -/
opaque Config.oversize (size value : Nat) : Nat

/-- DESIGN CHOICE (log entry 10): whether the apply procedure, at its return to FREE for the time `turn`, takes a waiting SETTLE
before a waiting local request. R132 lets either be first, so this has no body. -/
opaque Config.frameFirst (turn : Nat) : Bool

/-- DESIGN CHOICE (log entry 25): whether the end reason of job `job` at time `now` is FUNDS when its plan is complete and its funds
are out at once. R35 names both reasons, so this has no body. -/
opaque Config.endsForFunds (job now : Nat) : Bool

/-- DESIGN CHOICE (log entry 74): the class that HOLD_GIVE carries for a hold whose account has left the table. R92 gives the class of
the account, so this has no body. -/
opaque Config.goneClass (account : Nat) : Fin 4

/-- DESIGN CHOICE (log entry 74): whether a hold's account that has left the table counts as BLOCKED. R94 tests the account, so this
has no body. -/
opaque Config.goneBlocked (account : Nat) : Bool

/-- DESIGN CHOICE (log entry 80): the request code of a write transaction that ends before its request code. R182 answers it UNKNOWN
and gives it no code, so this has no body. -/
opaque Config.absentCode : Byte

namespace Config

/-- The time of one ask, top-up or quick-phase attempt, ms (R24, R31, R126). -/
def attemptMs : Nat := 400

/-- The time between sends in the slow phase, ms (R126). -/
def slowMs : Nat := 30000

/-- The write deadline of a value card, ms (R75). -/
def writeDeadlineMs : Nat := 2000

/-- The time between sweep visits, ms (R97). -/
def sweepMs : Nat := 250

/-- The most a job may hold, cents (R20, R90). -/
def maxHold : Nat := 100000

/-- The largest number of a 32-bit count (R6, R178). -/
def max32 : Nat := 4294967295

/-- The largest number of a 24-bit count (R124, R171). -/
def max24 : Nat := 16777215

/-- The largest number of a 16-bit count. -/
def max16 : Nat := 65535

/-- Places in the write queue (R161), the outbound queue (R146) and the inbound queue (R145). -/
def queuePlaces : Nat := 8

/-- Places in the path list (R47). -/
def pathPlaces : Nat := 6

/-- Slots of the hold table (R85), the account table (R107), the deferred list (R124), the journal ring (R172). -/
def holdSlots : Nat := 64

def accountSlots : Nat := 512

def deferredSlots : Nat := 16

def journalSlots : Nat := 256

/-- Slots of an account's run (R108). -/
def probeRun : Nat := 16

end Config

/-- The values the blocks use, as the clamps leave them (R187). Lists are in the order of section 12.7. -/
structure Values where
  /-- as read, not clamped (R187) -/
  station : Nat
  /-- base price of media m in colour mode c at place 2m + c, mils (R1) -/
  base : List Nat
  backPct : Nat
  b1 : Nat
  b2 : Nat
  t2 : Nat
  t3 : Nat
  /-- discount percentage of class k at place k (R3) -/
  disc : List Nat
  minCharge : Nat
  minGrant : Nat
  holdStep : Nat
  /-- seconds (R97) -/
  lifetime : Nat
  /-- hours (R97) -/
  grace : Nat
  /-- seconds (R188) -/
  idleTimeout : Nat
  floatLimit : Nat
  floatPool : Nat
  /-- windows, ms (R46) -/
  w1 : Nat
  w2 : Nat
  w3 : Nat
  /-- dwell limit of media m at place m, ms (R46) -/
  dwell : List Nat
deriving DecidableEq, Repr

end Sys2Proof
end

