-- ==== Sys2Proof/Syntax.lean ====
section
/-! DEFINITION. The commands: one constructor for each row of spec/opcode_table.json, with the fields that the row's
message or event carries (chapter 12). -/

namespace Sys2Proof

/-- The steps of the part (spec/opcode_table.json). Numbers are as the wire carries them; the rule of each command says
what it does with a number outside its range. -/
inductive Instr where
  /-- POWER_ON (R190). -/
  | powerOn
  /-- POWER_LOSS (R166). `programmed` says which of its two values the record being programmed is found with: the new one
  when true, the old one when false. -/
  | powerLoss (programmed : Bool)
  /-- RESET_PIN_ASSERT (R191). -/
  | resetPinAssert
  /-- RESET_PIN_RELEASE (R191). -/
  | resetPinRelease
  /-- CONFIG_LOAD_DONE (R188): the words read over the config line, word 0 first. -/
  | configLoadDone (image : List Word16)
  /-- WRITE_COMPLETE (R161). -/
  | writeComplete
  /-- PANEL_READ (R182). -/
  | panelRead
  /-- PANEL_REQUEST_UNKNOWN (R182), with the request code as it was received. -/
  | panelRequestUnknown (code : Nat)
  /-- STATUS (R183). -/
  | status
  /-- START (R28), its fields by section 12.5. -/
  | start (media colour sides originals copies collated : Nat)
  /-- RESUME (R40). -/
  | resume
  /-- END (R34). -/
  | endJob
  /-- CANCEL (R34, R26). -/
  | cancel
  /-- JOB_READ (R20). -/
  | jobRead
  /-- QUOTE (R18). -/
  | quote (media colour sides sheets cls : Nat)
  /-- JOURNAL_READ (R176). -/
  | journalRead (first : Nat)
  /-- JOURNAL_RELEASE (R177). -/
  | journalRelease (upTo : Nat)
  /-- METER_READ (R179). -/
  | meterRead (index : Nat)
  /-- JAM_LOG_READ (R60). -/
  | jamLogRead
  /-- ACCOUNT_READ (R122). -/
  | accountRead (account : Nat)
  /-- HOLD_READ (R105). -/
  | holdRead (index : Nat)
  /-- DEFERRED_READ (R129). -/
  | deferredRead (index : Nat)
  /-- HEARD_READ (R155). -/
  | heardRead
  /-- ALERT_READ (R184). -/
  | alertRead
  /-- ALERT_ACK (R185), with the flag bits of section 12.5. -/
  | alertAck (flags : Byte)
  /-- ALERT_ENABLE (R185), with the flag bits and the master enable of section 12.5. -/
  | alertEnable (flags : Byte) (master : Nat)
  /-- RESET_STATION (R191). -/
  | resetStation
  /-- SHEET_FED (R49). -/
  | sheetFed (media colour sides : Nat)
  /-- SENSOR_ON (R52), with the sensor code of section 12.6. -/
  | sensorOn (sensor : Nat)
  /-- SENSOR_OFF (R53, R54). -/
  | sensorOff (sensor : Nat)
  /-- DOOR_OPEN (R56). -/
  | doorOpen
  /-- DOOR_CLOSED (R56). -/
  | doorClosed
  /-- ENGINE_FAULT (R56). -/
  | engineFault (code : Nat)
  /-- ENGINE_MESSAGE_GARBLED (R45). -/
  | engineMessageGarbled
  /-- SHEET_DEADLINE_EXPIRY (R55): the deadline of the entry at this place of the path list, 0 for the head. -/
  | sheetDeadlineExpiry (place : Nat)
  /-- CARD_IN (R70), with the card record of section 12.2, its check byte last. -/
  | cardIn (record : List Byte)
  /-- CARD_OUT (R72). -/
  | cardOut
  /-- WRITE_DONE (R76). -/
  | writeDone (serial count : Nat)
  /-- WRITE_FAIL (R77). -/
  | writeFail (serial : Nat)
  /-- CARD_MESSAGE_DISCARDED (R68). -/
  | cardMessageDiscarded
  /-- WRITE_DEADLINE_EXPIRY (R77). -/
  | writeDeadlineExpiry
  /-- ASK_TIMER_EXPIRY (R24). -/
  | askTimerExpiry
  /-- CANCELLED_ASK_EXPIRY (R26). -/
  | cancelledAskExpiry
  /-- TOPUP_TIMER_EXPIRY (R31). -/
  | topupTimerExpiry
  /-- KEEP_ALIVE_DUE (R33). -/
  | keepAliveDue
  /-- RUN_OUT_DUE (R35). -/
  | runOutDue
  /-- IDLE_TIMEOUT (R41). -/
  | idleTimeout
  /-- HOLD_GIVE (R24): the frame's source and its fields. -/
  | holdGive (source holdId job amount cls lifetime : Nat)
  /-- HOLD_DENY (R24): the frame's source and its fields. -/
  | holdDeny (source job reason : Nat)
  /-- HOLD_GONE (R37): the frame's source and its fields. -/
  | holdGone (source holdId job : Nat)
  /-- HOLD_ASK (R90): the hold table takes its next frame, a HOLD_ASK, from the inbound queue. -/
  | holdAsk
  /-- HOLD_MORE (R94): as HOLD_ASK. -/
  | holdMore
  /-- HOLD_KEEP (R96): as HOLD_ASK. -/
  | holdKeep
  /-- SWEEP_VISIT (R97). -/
  | sweepVisit
  /-- ACCT_PUT (R111): the account table takes its next frame, an ACCT_PUT, from the inbound queue. -/
  | acctPut
  /-- ACCT_TOPUP (R112): as ACCT_PUT. -/
  | acctTopup
  /-- ACCT_QUERY (R113): as ACCT_PUT. -/
  | acctQuery
  /-- ACCT_ANSWER (R110): a received frame, its source and its fields. -/
  | acctAnswer (source account result available periodSpent : Nat)
  /-- PERIOD_CLOSE (R116): as ACCT_PUT. -/
  | periodClose
  /-- ANNOUNCE (R120): as ACCT_PUT. -/
  | announce
  /-- SETTLE (R132): the apply procedure takes its next frame from the inbound queue. -/
  | settle
  /-- SETTLE_QUICK_TIMER_EXPIRY (R126): of the entry in flight for this home. -/
  | settleQuickTimerExpiry (home : Nat)
  /-- SETTLE_SLOW_TIMER_EXPIRY (R126): of the entry in flight for this home. -/
  | settleSlowTimerExpiry (home : Nat)
  /-- SETTLE_ACK (R128): the settlement unit's sending side takes its next frame from the inbound queue. -/
  | settleAck
  /-- TALLY (R142): a received frame, its source and its fields. -/
  | tally (source job funding id charge impressions : Nat)
  /-- LINE_QUIET_REST (R143). -/
  | lineQuietRest
  /-- CONTENTION_LOST (R144). -/
  | contentionLost
  /-- SEND_RESULT (R147): whether some station drove the answer slot. -/
  | sendResult (answered : Bool)
  /-- FRAME_RECEIVED (R145): the bytes of the transmission that has ended, header first. -/
  | frameReceived (bytes : List Byte)
deriving DecidableEq, Repr

end Sys2Proof
end

