-- ==== Sys2Proof/Machine/State.lean ====
section
/-! DEFINITION. Everything the manual says the part holds, as plain data, one structure for each block of 00_scope.md
section 3, and the state right after reset. -/

namespace Sys2Proof.Machine

open Sys2Proof

/-- Why a command can stop the part. There is no such reason: every command of the manual has a next state, so no
constructor is declared and no fault can be raised (safe). -/
inductive Fault where
deriving DecidableEq, Repr

/-- Why a command has no meaning. -/
inductive Refusal where
  /-- Raised only by an arm of `exec` for a row that has no meaning yet (safe). No arm raises it. -/
  | notModelled (mnemonic : String)
deriving DecidableEq, Repr

/-- A table of numbered entries in ONE canonical form: numbers strictly rising, an unlisted number reading as the default. -/
abbrev Table (α : Type) := List (Nat × α)

/-! ### Jobs and sheets (chapters 1 to 3) -/

/-- Colour mode (section 12.6). -/
inductive Colour where
  | mono
  | colour
deriving DecidableEq, Repr

/-- The states of the job record (chapter 2). -/
inductive JobState where
  | idle
  | authorize
  | ready
  | running
  | jammed
  | paused
  | draining
  | settling
deriving DecidableEq, Repr

/-- Funding kind (R20). -/
inductive Funding where
  | accountLocal
  | accountRemote
  | float
  | value
deriving DecidableEq, Repr

/-- Cause of funds exhausted (R20). -/
inductive FundsCause where
  | funds
  | holdLost
deriving DecidableEq, Repr

/-- End reason (R42). -/
inductive EndReason where
  | done
  | panelEnd
  | panelCancel
  | funds
  | holdLost
  | cardGone
  | jamLimit
  | idleTimeout
  | reset
deriving DecidableEq, Repr

/-- A plan (R28). -/
structure Plan where
  media : Nat
  colour : Colour
  twoSided : Bool
  originals : Nat
  copies : Nat
  collated : Bool
deriving DecidableEq, Repr

/-- The job's accumulators (R6). -/
structure Accumulators where
  /-- G, cu -/
  gross : Nat := 0
  /-- delivered impressions n -/
  delivered : Nat := 0
  mono : Nat := 0
  colour : Nat := 0
  /-- reserve sum, cu -/
  reserved : Nat := 0
  /-- unbilled cu -/
  unbilled : Nat := 0
  /-- unpermitted impressions -/
  unpermitted : Nat := 0
deriving DecidableEq, Repr

/-- The job record (R20), with the timers of R24 and R31. The defaults are the record in IDLE. -/
structure Job where
  state : JobState := .idle
  number : Nat := 0
  funding : Option Funding := none
  /-- account number or card serial -/
  payer : Nat := 0
  home : Option Nat := none
  holdId : Option Nat := none
  /-- H, cents; absent until funded -/
  limit : Option Nat := none
  /-- hold lifetime, s -/
  lifetime : Option Nat := none
  cls : Nat := 0
  plan : Option Plan := none
  /-- R_plan, cu -/
  planReserve : Nat := 0
  /-- A -/
  assigned : Nat := 0
  /-- D -/
  position : Nat := 0
  acc : Accumulators := {}
  spoiled : Nat := 0
  jams : Nat := 0
  consecutiveJams : Nat := 0
  askAttempts : Nat := 0
  topupOutstanding : Bool := false
  topupAttempts : Nat := 0
  exhausted : Option FundsCause := none
  drainMark : Bool := false
  /-- keep-alive due time, ms -/
  keepDue : Option Nat := none
  /-- last activity time, ms -/
  lastActivity : Nat := 0
  /-- run-out due time, ms -/
  runOutDue : Option Nat := none
  endReason : Option EndReason := none
  /-- F, cents -/
  charge : Option Nat := none
  /-- end of the ask attempt in flight, ms (R24) -/
  askDue : Option Nat := none
  /-- the frame that the ask attempt in flight enqueued (R24) -/
  askFrame : Option Nat := none
  /-- end of the top-up attempt in flight, ms (R31) -/
  topupDue : Option Nat := none
  /-- the frame that the top-up attempt in flight enqueued (R31) -/
  topupFrame : Option Nat := none
deriving DecidableEq, Repr

/-- The three sensors (chapter 3). -/
inductive Sensor where
  | reg
  | fuse
  | exit
deriving DecidableEq, Repr

/-- The stages of a path list entry, in order (R47). -/
inductive Stage where
  | fed
  | atReg
  | toFuse
  | atFuse
  | toExit
  | atExit
deriving DecidableEq, Repr

/-- An entry of the path list (R47). -/
structure Sheet where
  /-- job number of the owner -/
  owner : Option Nat
  index : Option Nat
  media : Nat
  colour : Colour
  twoSided : Bool
  reserve : Nat
  stage : Stage
  /-- ms -/
  deadline : Nat
deriving DecidableEq, Repr

/-- Kinds of jam (section 3.5). -/
inductive JamKind where
  | overfeed
  | stray
  | late
  | stuck
  | door
  | engine
deriving DecidableEq, Repr

/-- An entry of the jam log (R59). -/
structure JamEntry where
  kind : JamKind
  sensor : Option Sensor
  code : Option Nat
  job : Option Nat
  /-- first spoiled index, with its copy and page -/
  first : Option (Nat × Nat × Nat)
  spoiled : Nat
  /-- seconds count -/
  time : Nat
deriving DecidableEq, Repr

/-- The path monitor (R47, R48, R59). -/
structure PathMonitor where
  /-- the path list, head first -/
  sheets : List Sheet := []
  regCovered : Bool := false
  fuseCovered : Bool := false
  exitCovered : Bool := false
  doorOpen : Bool := false
  jammed : Bool := false
  /-- the jam log, oldest first -/
  log : List JamEntry := []
deriving DecidableEq, Repr

/-! ### Cards (chapter 4) -/

/-- A value card's record (R69). -/
structure ValueCard where
  serial : Nat
  balance : Nat
  cls : Nat
  count : Nat
deriving DecidableEq, Repr

/-- A valid card record (R69). -/
inductive CardRecord where
  | account (number home : Nat)
  | value (card : ValueCard)
deriving DecidableEq, Repr

/-- The card session (R73). -/
inductive Session where
  | closed
  | held (card : ValueCard) (job : Nat)
  | gone (card : ValueCard) (job : Nat)
  /-- `due` is the write deadline, ms -/
  | writing (card : ValueCard) (job : Nat) (removed : Bool) (charge newBalance due : Nat)
deriving DecidableEq, Repr

/-- The card interface (R72, R73). -/
structure CardInterface where
  session : Session := .closed
  /-- count of returns expected -/
  returns : Nat := 0
deriving DecidableEq, Repr

/-- Messages from the part to the reader (R68). -/
inductive CardMessage where
  | retain
  | eject
  | writeValue (serial balance count : Nat)
  | release
deriving DecidableEq, Repr

/-! ### Records of the ledger store (chapter 9) -/

/-- States of a hold record (R85). -/
inductive HoldState where
  | active
  | lapsed
  | settling
deriving DecidableEq, Repr

/-- A hold record (R85). -/
structure HoldRecord where
  id : Nat
  account : Nat
  station : Nat
  job : Nat
  amount : Nat
  state : HoldState
  /-- touched time, seconds count -/
  touched : Nat
deriving DecidableEq, Repr

/-- Kind of an account, with the figure that only that kind has (R106). -/
inductive Credit where
  | charge (limit : Nat)
  | prepaid (balance : Int)
deriving DecidableEq, Repr

/-- An account record (R106). -/
structure Account where
  number : Nat
  credit : Credit
  cls : Nat
  blocked : Bool
  spent : Nat
  lastSpent : Nat
  impressions : Nat
  overdrawn : Bool
  closedPeriod : Nat
  lastApply : Nat
deriving DecidableEq, Repr

/-- An account slot that is not EMPTY (R107). -/
inductive AccountSlot where
  | vacated
  | used (account : Account)
deriving DecidableEq, Repr

/-- Status of a journal record (R171). -/
inductive JournalStatus where
  | paid
  | deferred
  | unpaid
  | orphan
  | dropped
deriving DecidableEq, Repr

/-- Cause of a LAPSE_DROPPED record (R171). -/
inductive DropCause where
  | evicted
  | sweep
deriving DecidableEq, Repr

/-- The fields of a JOB record (R171). -/
structure JobEntry where
  job : Nat
  funding : Funding
  payer : Nat
  home : Option Nat
  holdId : Option Nat
  charge : Nat
  mono : Nat
  colour : Nat
  spoiled : Nat
  jams : Nat
  unpermitted : Nat
  unbilledCents : Nat
  endReason : Option EndReason
  status : JournalStatus
deriving DecidableEq, Repr

/-- What a journal record says beside its sequence (R171). -/
inductive JournalBody where
  | job (entry : JobEntry)
  | orphan (station job holdId account charge impressions : Nat)
  | lapseDropped (station job holdId account amount : Nat) (cause : DropCause)
deriving DecidableEq, Repr

/-- A journal record (R171). -/
structure JournalRecord where
  sequence : Nat
  body : JournalBody
deriving DecidableEq, Repr

/-- An entry of the deferred list (R124). -/
structure DeferredEntry where
  number : Nat
  home : Nat
  holdId : Nat
  account : Nat
  job : Nat
  charge : Nat
  impressions : Nat
  attempts : Nat
deriving DecidableEq, Repr

/-- The job checkpoint (R168). -/
structure Checkpoint where
  job : Nat
  funding : Funding
  payer : Nat
  home : Option Nat
  holdId : Option Nat
  limit : Nat
  cls : Nat
  gross : Nat
  delivered : Nat
  mono : Nat
  colour : Nat
  position : Nat
  unbilled : Nat
  unpermitted : Nat
  spoiled : Nat
  jams : Nat
deriving DecidableEq, Repr

/-- A present apply record (R131). Its kind is HOLD when `holdId` is present and FLOAT when it is absent. -/
structure ApplyRecord where
  sequence : Nat
  holdId : Option Nat
  station : Nat
  job : Nat
  account : Nat
  charge : Nat
  impressions : Nat
deriving DecidableEq, Repr

/-- The period record (R116). -/
structure Period where
  current : Nat := 0
  walking : Bool := false
deriving DecidableEq, Repr

/-- The counters region (R160). -/
inductive Counter where
  | jobNumber
  | holdId
  | journalSequence
  | applySequence
  | releaseMark
deriving DecidableEq, Repr

/-- The ledger store's memory (R160). The defaults are a store never written. -/
structure Ledger where
  accounts : Table AccountSlot := []
  holds : Table HoldRecord := []
  journal : Table JournalRecord := []
  deferred : Table DeferredEntry := []
  meters : Table Nat := []
  /-- float high-water marks by station (R130) -/
  marks : Table Nat := []
  checkpoint : Option Checkpoint := none
  apply : Option ApplyRecord := none
  period : Period := {}
  jobNumber : Nat := 0
  holdId : Nat := 0
  journalSequence : Nat := 0
  applySequence : Nat := 0
  /-- export mark (R173) -/
  releaseMark : Nat := 0
deriving DecidableEq, Repr

/-- One record of the store by name (R160). -/
inductive RecordName where
  | account (slot : Nat)
  | hold (slot : Nat)
  | journal (position : Nat)
  | deferred (slot : Nat)
  | meter (index : Nat)
  | mark (station : Nat)
  | checkpoint
  | apply
  | period
  | counter (c : Counter)
deriving DecidableEq, Repr

/-- A new value for one record, or its removal (R161). -/
inductive Write where
  | account (slot : Nat) (value : AccountSlot)
  | hold (slot : Nat) (value : Option HoldRecord)
  | journal (position : Nat) (value : JournalRecord)
  | deferred (slot : Nat) (value : Option DeferredEntry)
  | meter (index : Nat) (value : Nat)
  | mark (station : Nat) (value : Nat)
  | checkpoint (value : Option Checkpoint)
  | apply (value : Option ApplyRecord)
  | period (value : Period)
  | counter (c : Counter) (value : Nat)
deriving DecidableEq, Repr

/-! ### Settlement (chapter 7) and the shop line (chapter 8) -/

/-- Results of SETTLE_ACK (section 12.6). -/
inductive AckResult where
  | applied
  | duplicate
  | orphan
deriving DecidableEq, Repr

/-- Results of ACCT_ANSWER (section 6.4). -/
inductive AccountResult where
  | created
  | ok
  | overdrawn
  | unknownAccount
  | wrongKind
  | inUse
  | range
  | tableFull
deriving DecidableEq, Repr

/-- Reasons of HOLD_DENY that this part gives (section 12.6). -/
inductive DenyReason where
  | unknownAccount
  | blocked
  | noCredit
  | holdTableFull
deriving DecidableEq, Repr

/-- Who waits for a settlement's result (R137, R138, R126, R169). -/
inductive Requester where
  | remote
  | job
  | cancelledAsk (job : Nat)
  | entry (number : Nat)
  | checkpoint
deriving DecidableEq, Repr

/-- A settlement as the apply procedure takes it (R132). -/
structure Settlement where
  /-- serving station -/
  source : Nat
  /-- 0 for a float settlement -/
  holdId : Nat
  account : Nat
  job : Nat
  charge : Nat
  impressions : Nat
  requester : Requester
deriving DecidableEq, Repr

/-- States of the apply procedure (R132). -/
inductive ApplyStage where
  | free
  | recording
  | debiting
  | closing
deriving DecidableEq, Repr

/-- A frame's kind and payload (R142, section 12.1). -/
inductive Message where
  | settleAck (holdId job result : Nat)
  | holdGive (holdId job amount cls lifetime : Nat)
  | holdDeny (job reason : Nat)
  | holdGone (holdId job : Nat)
  | acctAnswer (account result available periodSpent : Nat)
  | settle (holdId account job charge impressions : Nat)
  | holdMore (holdId job increment : Nat)
  | holdAsk (account job wanted : Nat)
  | holdKeep (holdId job : Nat)
  /-- `kind` 0 CHARGE, 1 PREPAID; `value` as the 32 bits stand in the frame -/
  | acctPut (account kind cls state value : Nat)
  | acctTopup (account amount : Nat)
  | acctQuery (account : Nat)
  | periodClose (period : Nat)
  | announce (period : Nat)
  | tally (job funding id charge impressions : Nat)
deriving DecidableEq, Repr

/-- A frame of the outbound queue (R146). `ticket` is the model's own, and tells one frame from another. -/
structure OutFrame where
  ticket : Nat
  dest : Nat
  message : Message
  attempts : Nat := 0
deriving DecidableEq, Repr

/-- A frame of the inbound queue (R148). -/
structure InFrame where
  source : Nat
  dest : Nat
  message : Message
deriving DecidableEq, Repr

/-- Line states (chapter 8). -/
inductive LineState where
  | active
  | guarded
  | withdrawn
  | silent
deriving DecidableEq, Repr

/-- The line controller (R158). -/
structure Line where
  state : LineState := .active
  score : Nat := 0
  rests : Nat := 0
  outbound : List OutFrame := []
  inbound : List InFrame := []
  inboundFull : Nat := 0
  dropped : Nat := 0
  /-- heard table: station and the ms of its last good frame; unlisted is never (R154) -/
  heard : Table Nat := []
  /-- ticket of the frame that is being sent (R143) -/
  sending : Option Nat := none
  /-- whether this station drove the answer slot of the last transmission (R145) -/
  answered : Bool := false
  /-- the model's own: ticket of the next frame -/
  nextTicket : Nat := 0
deriving DecidableEq, Repr

/-- An entry in flight (R126). -/
structure Flight where
  home : Nat
  number : Nat
  slow : Bool
  /-- sends made in the quick phase -/
  sends : Nat
  /-- ms of the next timed event -/
  due : Nat
deriving DecidableEq, Repr

/-- The cancelled-ask record (R26). -/
structure CancelledAsk where
  job : Nat
  home : Nat
  account : Nat
  /-- end of the attempt in flight, ms; absent for a local home -/
  due : Option Nat
  frame : Option Nat
deriving DecidableEq, Repr

/-- The settlement unit's volatile state (R82, R124, R126, R129, R132). -/
structure SettlementUnit where
  flights : List Flight := []
  /-- reserved deferred slots -/
  reserved : Nat := 0
  cancelled : Option CancelledAsk := none
  stage : ApplyStage := .free
  /-- the settlement being applied, when `stage` is not free -/
  current : Option Settlement := none
  /-- the apply sequence taken for it -/
  sequence : Nat := 0
  /-- local requests that wait, oldest first (R132) -/
  requests : List Settlement := []
  /-- how often a SETTLE and a local request have waited at the return to FREE: the model's own, read by the free value
  `Config.frameFirst` (log entry 10) -/
  turns : Nat := 0
  applied : Nat := 0
  duplicate : Nat := 0
  orphan : Nat := 0
  floatOutstanding : Nat := 0
  /-- TALLY of a checkpoint settled at start-up (R192) -/
  heldTally : Option Message := none
deriving DecidableEq, Repr

/-! ### Work that waits on the store (R161, R164) -/

/-- What an owner does at the write-done of a post (R161). -/
inductive Note where
  /-- answer HOLD_GIVE to the asker (R92, R89, R94) -/
  | grant (source slot holdId job : Nat)
  /-- answer an office frame (R110) -/
  | answer (dest account : Nat) (result : AccountResult)
  /-- a slot write of the close walk (R117) -/
  | walk
  /-- the apply record is stored (R135) -/
  | applyRecorded
  /-- the debit is stored (R135) -/
  | debited
  /-- the clearing of the apply record, or the last write of an orphan, is stored (R134, R135) -/
  | applyClosed (result : AckResult)
  /-- a deferred entry is stored (R125, R126); `forJob` when it completes the open job's hand-off (R123) -/
  | entryStored (number : Nat) (forJob : Bool)
deriving DecidableEq, Repr

/-- A post of the write queue (R161), with the notes of every post it carries (R162). -/
structure Post where
  write : Write
  notes : List Note
deriving DecidableEq, Repr

/-- The blocks that can wait on a post (R164), and the start-up loader. -/
inductive Owner where
  | hold
  | account
  | settlement
  | journal
  | loader
deriving DecidableEq, Repr

/-- One step of a block's work, up to and with one post. -/
inductive Task where
  /-- R89, R90 -/
  | ask (source account job wanted : Nat)
  /-- R94, R95 -/
  | more (source holdId job increment : Nat)
  /-- R96 -/
  | keep (source holdId job : Nat)
  /-- R88, R90: take an id and make the record -/
  | newHold (source account job grant : Nat)
  /-- post the hold id counter (R88) -/
  | putHoldId (id : Nat)
  /-- post a hold record (R85) -/
  | putHold (slot : Nat) (value : HoldRecord) (notes : List Note)
  /-- the sweep's visit ends: the pointer advances (R97, R104) -/
  | advanceSweep
  /-- post a hold record's removal (R91, R99) -/
  | dropHold (slot : Nat)
  /-- hand a record to the journal (R172, R174) -/
  | journal (body : JournalBody)
  /-- post the sequence counter (R172 step 2) -/
  | journalCount (body : JournalBody)
  /-- post the record (R172 step 3) -/
  | journalPut (sequence : Nat) (body : JournalBody)
  /-- post an account slot (R109, R111, R112) -/
  | putAccount (slot : Nat) (value : AccountSlot) (notes : List Note)
  /-- vacate an account's slot, unless a hold names it (R101, R109, R111) -/
  | vacate (slot account source : Nat)
  /-- a PERIOD_CLOSE or ANNOUNCE with this number (R116, R119) -/
  | close (number : Nat)
  /-- post the period record and start a walk (R116) -/
  | startWalk (number : Nat)
  /-- visit slots (R117) -/
  | walk
  /-- carry the slot at the walk pointer (R117) -/
  | carry
  /-- post the period record with the flag clear (R117) -/
  | endWalk
  /-- take the oldest local request if the procedure is FREE (R132) -/
  | nextRequest
  /-- decide a settlement (R133, R134, R135) -/
  | decide (settlement : Settlement)
  /-- mark a hold settling (R100) -/
  | markSettling (holdId : Nat)
  /-- remove a hold (R100) -/
  | removeHold (holdId : Nat) (notes : List Note)
  /-- set a float high-water mark (R130) -/
  | putMark (station job : Nat) (notes : List Note)
  /-- post the apply sequence counter (R131) -/
  | putApplySequence (sequence : Nat)
  /-- post the apply record (R135) -/
  | putApply (record : ApplyRecord)
  /-- post the apply record absent (R135) -/
  | clearApply (notes : List Note)
  /-- hand the debit to the account table (R114, R135) -/
  | debit
  /-- post a deferred entry (R125); the attempts and the number are given at the post -/
  | putEntry (home holdId account job charge impressions : Nat) (forJob reserved : Bool) (float : Option Nat)
  /-- bring the oldest eligible entry for a home into flight (R126) -/
  | intoFlight (home : Nat)
  /-- send the entry in flight for a home (R126) -/
  | send (home : Nat)
  /-- post an entry's raised attempts (R126) -/
  | countSend (number : Nat)
  /-- post an entry's removal, and count its result (R128) -/
  | removeEntry (number : Nat) (result : AckResult)
  /-- enqueue a finished job's TALLY (R180) -/
  | tally (message : Message)
  /-- report the hand-off complete (R123, R43) -/
  | handedOff
  /-- start-up: wait until every write so far is stored -/
  | quiet
  /-- start-up step 3 (R139) -/
  | recoverApply
  /-- start-up: the debit of step 3 (R139) -/
  | recoverDebit (record : ApplyRecord)
  /-- start-up step 4 (R169) -/
  | recoverCheckpoint
  /-- start-up: a settled checkpoint's record and clearing (R169 steps 4 and 5) -/
  | settleCheckpoint (status : JournalStatus)
  /-- start-up: step 4 of R169, the TALLY -/
  | holdTally (message : Message)
  /-- start-up: clear the checkpoint (R169 step 5) -/
  | clearCheckpoint
  /-- start-up step 5 (R103) -/
  | recoverHolds
  /-- start-up: held sums and sweep pointer (R103) -/
  | holdsInService
  /-- start-up step 6 (R82) -/
  | recoverFloat
  /-- start-up step 7 (R121) -/
  | recoverWalk
  /-- start-up step 8 (R192) -/
  | enterService
deriving DecidableEq, Repr

/-- A block's work: its steps still to make. -/
structure Work where
  owner : Owner
  tasks : List Task
  /-- the first step has been taken -/
  begun : Bool := false
  /-- ms at which its present wait began; absent while it is not waiting (R164, R170) -/
  since : Option Nat := none
deriving DecidableEq, Repr

/-- The ledger store (R160, R161, R164, R165). -/
structure Store where
  /-- the memory -/
  stored : Ledger := {}
  /-- the write queue, oldest first; its first post is being programmed, but while `starting` -/
  queue : List Post := []
  /-- pending values of running records, oldest first (R165) -/
  pending : List Write := []
  /-- work that waits, in the order its waits began (R164) -/
  work : List Work := []
  /-- the model's own, set only within a completion: the write-dones are being sent, and programming of the next post has not begun
  (R161 items 3 and 4) -/
  starting : Bool := false
deriving DecidableEq, Repr

/-! ### The other blocks -/

/-- The hold table's volatile state (R97). -/
structure HoldTable where
  pointer : Nat := 0
  /-- ms of the next visit -/
  due : Option Nat := none
deriving DecidableEq, Repr

/-- The account table's volatile state (R86, R116, R117). -/
structure AccountTable where
  /-- held amount by account number; 0 for every account from reset to R103 step 3 (DESIGN CHOICE, log entry 54) -/
  held : Table Nat := []
  pointer : Nat := 0
  /-- slot writes of the walk still queued -/
  queued : Nat := 0
  pendingClose : Option Nat := none
deriving DecidableEq, Repr

/-- The journal's volatile state (R173, R174). -/
structure Journal where
  reserved : Nat := 0
  lost : Nat := 0
deriving DecidableEq, Repr

/-- The alert flags, by their bit (section 12.5). -/
inductive Alert where
  | jobState
  | jam
  | cardReject
  | funds
  | line
  | journalLow
  | config
deriving DecidableEq, Repr

/-- Reject reasons (R184). -/
inductive Reject where
  | cardCheck
  | cardKind
  | cardField
  | cardEmpty
  | busy
  | outOfService
  | stationFull
  | homeSilent
  /-- a hold denial, its code as received -/
  | denied (code : Nat)
deriving DecidableEq, Repr

/-- Result codes of the panel port (section 12.5). -/
inductive PanelResult where
  | none
  | ok
  | busy
  | range
  | full
  | unknown
  | outOfService
  | notFound
deriving DecidableEq, Repr

/-- A response (R182, section 12.5). -/
structure Response where
  /-- code of the request it belongs to -/
  code : Nat
  result : PanelResult
  body : List Byte
deriving DecidableEq, Repr

/-- The panel port (R182, R184, R191). -/
structure Panel where
  flags : Byte := 0
  enables : Byte := 0x40
  master : Bool := true
  reject : Option Reject := none
  response : Option Response := none
  /-- the waiting response, when read, begins a soft reset (R191) -/
  resetWaits : Bool := false
deriving DecidableEq, Repr

/-- Configuration outcome (R188). -/
inductive ConfigOutcome where
  | good
  | clamped
  | bad
deriving DecidableEq, Repr

/-- What the start-up loader keeps (R187, R188). -/
structure Configuration where
  image : List Word16
  values : Values
  outcome : ConfigOutcome
  /-- values changed by a clamp -/
  clamped : Nat
deriving DecidableEq, Repr

/-- Where the part stands between supply and service (R183, R190, R191). -/
inductive Phase where
  /-- no supply -/
  | off
  /-- a soft reset drains the queue, or waits for the reset pin; `load` when start-up is to load the image -/
  | draining (load : Bool)
  /-- start-up step 2 -/
  | loading
  /-- start-up steps 3 to 8 -/
  | recovering
  | serving
deriving DecidableEq, Repr

/-- What has left the part, oldest first, as its bytes: the model's own record of its outputs (log entry 38). -/
structure Outputs where
  /-- the messages sent to the reader (section 12.9, R193) -/
  card : List (List Byte) := []
  /-- the responses read at the panel port (section 12.5, R193) -/
  panel : List (List Byte) := []
  /-- the frames sent whole on the shop line (section 12.1, R141) -/
  line : List (List Byte) := []
deriving DecidableEq, Repr

/-- The part. -/
structure Part where
  phase : Phase
  /-- the reset pin is asserted -/
  resetPin : Bool := false
  /-- time base, ms -/
  now : Nat := 0
  config : Configuration
  job : Job := {}
  /-- the PERMIT output is asserted -/
  permit : Bool := false
  path : PathMonitor := {}
  card : CardInterface := {}
  holds : HoldTable := {}
  accounts : AccountTable := {}
  settlement : SettlementUnit := {}
  line : Line := {}
  store : Store := {}
  journal : Journal := {}
  panel : Panel := {}
  /-- the ALERT output is driven -/
  alertOut : Bool := false
  outputs : Outputs := {}
deriving DecidableEq, Repr

/-- The state: the part, and the commands that wait, first in, first out. -/
structure State where
  pending : List Instr
  part : Part
deriving DecidableEq, Repr

/-- DESIGN CHOICE (log entry 4): what the loader holds before its first load, which no rule states: an image of zero
words, each value at the end of its range nearest 0, the outcome BAD. -/
def unloaded : Configuration where
  image := List.replicate 64 0
  values :=
    { station := 0, base := List.replicate 16 0, backPct := 0, b1 := 1, b2 := 1, t2 := 0, t3 := 0
      disc := List.replicate 4 0, minCharge := 0, minGrant := 10, holdStep := 100, lifetime := 60, grace := 1
      idleTimeout := 15, floatLimit := 0, floatPool := 0, w1 := 50, w2 := 50, w3 := 50, dwell := List.replicate 8 100 }
  outcome := .bad
  clamped := 0

/-- A new part right after its supply has been applied (R190 step 1): every volatile state at its reset value, the store
never written (R160), the configuration load running (R190 step 2; log entry 3). -/
def State.reset : State where
  pending := []
  part := { phase := .loading, config := unloaded }

end Sys2Proof.Machine
end

