-- ==== Sys2Proof/Machine/Bytes.lean ====
section
/-! DEFINITION. Byte order, check bytes and the CRC of the line (00_scope.md section 4.5, R44, R68, R107, R141, chapter 12). -/

namespace Sys2Proof.Machine

open Sys2Proof

/-- The low `size` bytes of a number, most significant first (section 4.5). -/
def bytesOf : Nat → Nat → List Byte
  | 0, _ => []
  | size + 1, value => BitVec.ofNat 8 (value / 256 ^ size) :: bytesOf size value

/-- A field of a layout of chapter 12. A number that does not fit its field gives the open value `Config.oversize`
(log entry 7). -/
def field (size value : Nat) : List Byte :=
  bytesOf size (if value < 256 ^ size then value else Config.oversize size value)

/-- A signed field, in two's complement (section 4.5). -/
def signedField (size : Nat) (value : Int) : List Byte :=
  bytesOf size (value % (256 ^ size : Int)).toNat

/-- A field whose state may be absent, which then reads 0 (R193). -/
def optionField (size : Nat) (value : Option Nat) : List Byte := field size (value.getD 0)

/-- The number that bytes stand for, most significant first. -/
def numberOf (bytes : List Byte) : Nat := bytes.foldl (fun n b => n * 256 + b.toNat) 0

/-- `size` bytes of a layout from an offset, as a number. -/
def numberAt (bytes : List Byte) (offset size : Nat) : Nat := numberOf ((bytes.drop offset).take size)

/-- The 8-bit sum of bytes. -/
def byteSum (bytes : List Byte) : Nat := (bytes.foldl (fun n b => n + b.toNat) 0) % 256

/-- The byte that makes the 8-bit sum 0 (R44, R68, section 12.5). -/
def checkByte (bytes : List Byte) : Byte := BitVec.ofNat 8 (256 - byteSum bytes)

/-- Bytes with their check byte. -/
def withCheck (bytes : List Byte) : List Byte := bytes ++ [checkByte bytes]

/-- One bit of the CRC: x^16 + x^12 + x^5 + 1 (R107). -/
def crcBit (register : BitVec 16) (bit : Bool) : BitVec 16 :=
  if register.msb != bit then (register <<< 1) ^^^ 0x1021 else register <<< 1

/-- One byte of the CRC, most significant bit first (R107). -/
def crcByte (register : BitVec 16) (byte : Byte) : BitVec 16 :=
  [7, 6, 5, 4, 3, 2, 1, 0].foldl (fun r i => crcBit r (byte.getLsbD i)) register

/-- The CRC of R107: the register starts at all ones, with no final inversion. -/
def crc (bytes : List Byte) : BitVec 16 := bytes.foldl crcByte 0xFFFF

/-- The home index of an account (R107). -/
def homeIndex (account : Nat) : Nat := (crc (bytesOf 3 account)).toNat % Config.accountSlots

/-- A count that stops at its limit. -/
def saturate (limit value : Nat) : Nat := min limit value

end Sys2Proof.Machine
end

