-- ==== Sys2Proof/Machine/Operands.lean ====
section
/-! DEFINITION. The codes, frames, card records and card line messages of chapter 12: each field read from and written to
its bytes (R69, R70, R141, R142, R193). -/

namespace Sys2Proof.Machine

open Sys2Proof

/-! ### Codes (section 12.6) -/

def colourOf (code : Nat) : Option Colour :=
  match code with
  | 0 => some .mono
  | 1 => some .colour
  | _ => none

def twoSidedOf (sides : Nat) : Option Bool :=
  match sides with
  | 1 => some false
  | 2 => some true
  | _ => none

def yesNoOf (code : Nat) : Option Bool :=
  match code with
  | 0 => some false
  | 1 => some true
  | _ => none

def sensorOf (code : Nat) : Option Sensor :=
  match code with
  | 0 => some .reg
  | 1 => some .fuse
  | 2 => some .exit
  | _ => none

def Sensor.code : Sensor → Nat
  | .reg => 0
  | .fuse => 1
  | .exit => 2

def Colour.code : Colour → Nat
  | .mono => 0
  | .colour => 1

def Funding.code : Funding → Nat
  | .accountLocal => 1
  | .accountRemote => 2
  | .float => 3
  | .value => 4

def JobState.code : JobState → Nat
  | .idle => 0
  | .authorize => 1
  | .ready => 2
  | .running => 3
  | .jammed => 4
  | .paused => 5
  | .draining => 6
  | .settling => 7

def EndReason.code : EndReason → Nat
  | .done => 1
  | .panelEnd => 2
  | .panelCancel => 3
  | .funds => 4
  | .holdLost => 5
  | .cardGone => 6
  | .jamLimit => 7
  | .idleTimeout => 8
  | .reset => 9

def JournalStatus.code : JournalStatus → Nat
  | .paid => 1
  | .deferred => 2
  | .unpaid => 3
  | .orphan => 4
  | .dropped => 5

def DropCause.code : DropCause → Nat
  | .evicted => 1
  | .sweep => 2

def DenyReason.code : DenyReason → Nat
  | .unknownAccount => 1
  | .blocked => 2
  | .noCredit => 3
  | .holdTableFull => 4

def AckResult.code : AckResult → Nat
  | .applied => 1
  | .duplicate => 2
  | .orphan => 3

/-- A result other than the three counts as DUPLICATE (R128). -/
def ackResultOf (code : Nat) : AckResult :=
  match code with
  | 1 => .applied
  | 3 => .orphan
  | _ => .duplicate

def AccountResult.code : AccountResult → Nat
  | .created => 1
  | .ok => 2
  | .overdrawn => 3
  | .unknownAccount => 4
  | .wrongKind => 5
  | .inUse => 6
  | .range => 7
  | .tableFull => 8

def JamKind.code : JamKind → Nat
  | .overfeed => 1
  | .stray => 2
  | .late => 3
  | .stuck => 4
  | .door => 5
  | .engine => 6

def LineState.code : LineState → Nat
  | .active => 0
  | .guarded => 1
  | .withdrawn => 2
  | .silent => 3

def Session.code : Session → Nat
  | .closed => 0
  | .held _ _ => 1
  | .gone _ _ => 2
  | .writing _ _ _ _ _ _ => 3

def ConfigOutcome.code : ConfigOutcome → Nat
  | .good => 0
  | .clamped => 1
  | .bad => 2

def HoldState.code : HoldState → Nat
  | .active => 0
  | .lapsed => 1
  | .settling => 2

def ApplyStage.code : ApplyStage → Nat
  | .free => 0
  | .recording => 1
  | .debiting => 2
  | .closing => 3

/-- Source code of a reject reason, then its reason code (section 12.6). -/
def Reject.code : Reject → Nat × Nat
  | .cardCheck => (1, 1)
  | .cardKind => (1, 2)
  | .cardField => (1, 3)
  | .cardEmpty => (1, 4)
  | .busy => (2, 1)
  | .outOfService => (2, 2)
  | .stationFull => (2, 3)
  | .homeSilent => (3, 1)
  | .denied code => (4, code)

def PanelResult.code : PanelResult → Nat
  | .none => 0
  | .ok => 1
  | .busy => 2
  | .range => 3
  | .full => 4
  | .unknown => 5
  | .outOfService => 6
  | .notFound => 7

def boolBit (b : Bool) : Nat := if b then 1 else 0

/-! ### Frames (R141, R142, section 12.1) -/

/-- Kind rank (R142). -/
def Message.rank : Message → Nat
  | .settleAck _ _ _ => 1
  | .holdGive _ _ _ _ _ => 2
  | .holdDeny _ _ => 3
  | .holdGone _ _ => 4
  | .acctAnswer _ _ _ _ => 5
  | .settle _ _ _ _ _ => 6
  | .holdMore _ _ _ => 7
  | .holdAsk _ _ _ => 8
  | .holdKeep _ _ => 9
  | .acctPut _ _ _ _ _ => 10
  | .acctTopup _ _ => 11
  | .acctQuery _ => 12
  | .periodClose _ => 13
  | .announce _ => 14
  | .tally _ _ _ _ _ => 15

/-- Payload length of a rank (R142). -/
def payloadLength (rank : Nat) : Option Nat :=
  [none, some 5, some 11, some 3, some 4, some 12, some 14, some 8, some 9, some 4, some 8, some 7, some 3, some 2, some 2,
    some 14].getD rank none

/-- Payload bytes (section 12.1). -/
def Message.payload : Message → List Byte
  | .settleAck h j r => field 2 h ++ field 2 j ++ field 1 r
  | .holdGive h j a c l => field 2 h ++ field 2 j ++ field 4 a ++ field 1 c ++ field 2 l
  | .holdDeny j r => field 2 j ++ field 1 r
  | .holdGone h j => field 2 h ++ field 2 j
  | .acctAnswer a r v s => field 3 a ++ field 1 r ++ field 4 v ++ field 4 s
  | .settle h a j f i => field 2 h ++ field 3 a ++ field 2 j ++ field 4 f ++ field 3 i
  | .holdMore h j i => field 2 h ++ field 2 j ++ field 4 i
  | .holdAsk a j w => field 3 a ++ field 2 j ++ field 4 w
  | .holdKeep h j => field 2 h ++ field 2 j
  | .acctPut a k c s v => field 3 a ++ field 1 (k * 128 + c * 32 + s * 8) ++ field 4 v
  | .acctTopup a m => field 3 a ++ field 4 m
  | .acctQuery a => field 3 a
  | .periodClose n => field 2 n
  | .announce n => field 2 n
  | .tally j f i c n => field 2 j ++ field 1 f ++ field 4 i ++ field 4 c ++ field 3 n

/-- The message of a known rank and length (R141, section 12.1). -/
def messageOf (rank : Nat) (p : List Byte) : Option Message :=
  if payloadLength rank = some p.length then
    match rank with
    | 1 => some (.settleAck (numberAt p 0 2) (numberAt p 2 2) (numberAt p 4 1))
    | 2 => some (.holdGive (numberAt p 0 2) (numberAt p 2 2) (numberAt p 4 4) (numberAt p 8 1) (numberAt p 9 2))
    | 3 => some (.holdDeny (numberAt p 0 2) (numberAt p 2 1))
    | 4 => some (.holdGone (numberAt p 0 2) (numberAt p 2 2))
    | 5 => some (.acctAnswer (numberAt p 0 3) (numberAt p 3 1) (numberAt p 4 4) (numberAt p 8 4))
    | 6 => some (.settle (numberAt p 0 2) (numberAt p 2 3) (numberAt p 5 2) (numberAt p 7 4) (numberAt p 11 3))
    | 7 => some (.holdMore (numberAt p 0 2) (numberAt p 2 2) (numberAt p 4 4))
    | 8 => some (.holdAsk (numberAt p 0 3) (numberAt p 3 2) (numberAt p 5 4))
    | 9 => some (.holdKeep (numberAt p 0 2) (numberAt p 2 2))
    | 10 =>
      some (.acctPut (numberAt p 0 3) (numberAt p 3 1 / 128) (numberAt p 3 1 / 32 % 4) (numberAt p 3 1 / 8 % 4)
        (numberAt p 4 4))
    | 11 => some (.acctTopup (numberAt p 0 3) (numberAt p 3 4))
    | 12 => some (.acctQuery (numberAt p 0 3))
    | 13 => some (.periodClose (numberAt p 0 2))
    | 14 => some (.announce (numberAt p 0 2))
    | 15 => some (.tally (numberAt p 0 2) (numberAt p 2 1) (numberAt p 3 4) (numberAt p 7 4) (numberAt p 11 3))
    | _ => none
  else none

/-- Header, length, payload and check of a frame on the line (R141, section 12.1). -/
def frameBytes (source dest : Nat) (m : Message) : List Byte :=
  let body := bytesOf 2 (m.rank * 4096 + dest * 128 + source * 4) ++ bytesOf 1 m.payload.length ++ m.payload
  body ++ bytesOf 2 (crc body).toNat

/-- How a transmission is judged (R141). `message` is absent for a good frame that is not known. -/
inductive Judgement where
  | bad
  | good (source dest : Nat) (message : Option Message)
deriving DecidableEq, Repr

/-- Judge a transmission by its form and its check (R141). What follows the end of the check is not part of the frame. -/
def judge (bytes : List Byte) : Judgement :=
  let header := numberAt bytes 0 2
  let rank := header / 4096
  let dest := header / 128 % 32
  let source := header / 4 % 32
  let length := numberAt bytes 2 1
  if bytes.length < 5 + length ∨ rank = 0 ∨ dest = 31 ∨ source = 0 ∨ 30 < source ∨ 16 < length then .bad
  else if numberAt bytes (3 + length) 2 ≠ (crc (bytes.take (3 + length))).toNat then .bad
  else .good source dest (messageOf rank ((bytes.drop 3).take length))

/-! ### Card records and card line messages (R68, R69, R70, sections 12.2 and 12.9) -/

/-- Length of the record of a kind (section 12.2). -/
def recordLength (kind : Nat) : Option Nat :=
  match kind with
  | 1 => some 6
  | 2 => some 12
  | _ => none

/-- Test 1 of R70, with the length test of section 12.2. -/
def recordChecks (bytes : List Byte) : Bool :=
  match bytes with
  | [] => false
  | kind :: _ =>
    byteSum bytes == 0 &&
      match recordLength kind.toNat with
      | some n => bytes.length == n
      | none => true

/-- The validation of R70: its tests in order, the first that fails giving the reason. -/
def validateCard (bytes : List Byte) : Except Reject CardRecord :=
  if !recordChecks bytes then .error .cardCheck
  else
    match numberAt bytes 0 1 with
    | 1 =>
      let number := numberAt bytes 1 3
      let home := numberAt bytes 4 1
      if number = 0 ∨ home = 0 ∨ 30 < home then .error .cardField else .ok (.account number home)
    | 2 =>
      let card : ValueCard :=
        { serial := numberAt bytes 1 4, balance := numberAt bytes 5 3, cls := numberAt bytes 8 1, count := numberAt bytes 9 2 }
      if Config.maxHold < card.balance ∨ 3 < card.cls then .error .cardField
      else if card.balance = 0 then .error .cardEmpty
      else .ok (.value card)
    | _ => .error .cardKind

/-- A message to the reader as its bytes (section 12.9). -/
def CardMessage.bytes : CardMessage → List Byte
  | .retain => withCheck (bytesOf 1 5)
  | .eject => withCheck (bytesOf 1 6)
  | .writeValue serial balance count => withCheck (bytesOf 1 7 ++ field 4 serial ++ field 3 balance ++ field 2 count)
  | .release => withCheck (bytesOf 1 8)

/-- What a read transaction carries out after the panel processor's byte (section 12.5). -/
def Response.bytes (r : Response) : List Byte :=
  withCheck (field 1 r.code ++ field 1 r.result.code ++ field 1 r.body.length ++ r.body)

end Sys2Proof.Machine
end

