-- ==== Sys2Proof/Decode.lean ====
section
/-! DEFINITION. Which command a message on a line spells (R44, R45, R68, R182 test 2, sections 12.5, 12.8 and 12.9). The rows of
the table have no bits, so no word of the table spells a command. -/

namespace Sys2Proof

open Sys2Proof.Machine

/-- The command that a word of the table spells: none, since no row gives bits. -/
def decodeTableWord (_nbits _w : Nat) : Option Instr := none

/-! ### The engine line (R44, R45, section 12.8) -/

/-- Length of an engine message with its check byte, by its kind code (section 12.8). -/
def engineLength (kind : Nat) : Option Nat :=
  match kind with
  | 1 => some 5
  | 2 => some 3
  | 3 => some 3
  | 4 => some 2
  | 5 => some 2
  | 6 => some 3
  | _ => none

/-- The event that the fields of a checked engine message give, or garbled (R44, R45). -/
def engineFields (kind : Nat) (bytes : List Byte) : Instr :=
  let a := numberAt bytes 1 1
  let b := numberAt bytes 2 1
  let c := numberAt bytes 3 1
  match kind with
  | 1 => if a ≤ 7 ∧ b ≤ 1 ∧ (c = 1 ∨ c = 2) then .sheetFed a b c else .engineMessageGarbled
  | 2 => if a ≤ 2 then .sensorOn a else .engineMessageGarbled
  | 3 => if a ≤ 2 then .sensorOff a else .engineMessageGarbled
  | 4 => .doorOpen
  | 5 => .doorClosed
  | 6 => .engineFault a
  | _ => .engineMessageGarbled

/-- The event of one engine line message (R44, R45). -/
def decodeEngine (bytes : List Byte) : Instr :=
  let kind := numberAt bytes 0 1
  if engineLength kind = some bytes.length ∧ byteSum bytes = 0 then engineFields kind bytes else .engineMessageGarbled

/-! ### The card line (R68, section 12.9) -/

/-- The event of one card line message from the reader (R68). A message whose length is not that of its kind and fields cannot be
a message of the reader, and is discarded (log entry 26). -/
def decodeCard (bytes : List Byte) : Instr :=
  if byteSum bytes ≠ 0 then .cardMessageDiscarded
  else
    match numberAt bytes 0 1 with
    | 1 =>
      if bytes.length = numberAt bytes 1 1 + 3 then .cardIn ((bytes.drop 2).take (numberAt bytes 1 1))
      else .cardMessageDiscarded
    | 2 => if bytes.length = 2 then .cardOut else .cardMessageDiscarded
    | 3 => if bytes.length = 8 then .writeDone (numberAt bytes 1 4) (numberAt bytes 5 2) else .cardMessageDiscarded
    | 4 => if bytes.length = 6 then .writeFail (numberAt bytes 1 4) else .cardMessageDiscarded
    | _ => .cardMessageDiscarded

/-! ### The panel port (R182, section 12.5) -/

/-- Length of a request's fields, by its code (section 12.5). -/
def requestLength (code : Nat) : Option Nat :=
  [none, some 0, some 8, some 0, some 0, some 0, some 0, some 7, some 4, some 4, some 1, some 0, some 3, some 1, some 1, some 0,
    some 0, some 1, some 2, some 0].getD code none

/-- The request that a code and its fields give (section 12.5). -/
def requestFields (code : Nat) (f : List Byte) : Instr :=
  match code with
  | 1 => .status
  | 2 => .start (numberAt f 0 1) (numberAt f 1 1) (numberAt f 2 1) (numberAt f 3 2) (numberAt f 5 2) (numberAt f 7 1)
  | 3 => .resume
  | 4 => .endJob
  | 5 => .cancel
  | 6 => .jobRead
  | 7 => .quote (numberAt f 0 1) (numberAt f 1 1) (numberAt f 2 1) (numberAt f 3 3) (numberAt f 6 1)
  | 8 => .journalRead (numberAt f 0 4)
  | 9 => .journalRelease (numberAt f 0 4)
  | 10 => .meterRead (numberAt f 0 1)
  | 11 => .jamLogRead
  | 12 => .accountRead (numberAt f 0 3)
  | 13 => .holdRead (numberAt f 0 1)
  | 14 => .deferredRead (numberAt f 0 1)
  | 15 => .heardRead
  | 16 => .alertRead
  | 17 => .alertAck (BitVec.ofNat 8 (numberAt f 0 1))
  | 18 => .alertEnable (BitVec.ofNat 8 (numberAt f 0 1)) (numberAt f 1 1)
  | 19 => .resetStation
  | _ => .panelRequestUnknown code

/-- The request of a write transaction, without its first byte (R182 test 2). One that ends before its request code is an unknown request
of a code that the manual does not give: a free value (DESIGN CHOICE, log entry 80). -/
def decodeRequest (bytes : List Byte) : Instr :=
  let code := if bytes.isEmpty then Config.absentCode.toNat else numberAt bytes 0 1
  let length := numberAt bytes 1 1
  if byteSum bytes = 0 ∧ bytes.length = length + 3 ∧ requestLength code = some length then
    requestFields code ((bytes.drop 2).take length)
  else .panelRequestUnknown code

/-- The command of a panel port transaction, by its first byte (section 12.5); another first byte starts neither sort. -/
def decodePanel (bytes : List Byte) : Option Instr :=
  match numberAt bytes 0 1 with
  | 0x57 => some (decodeRequest (bytes.drop 1))
  | 0x52 => some .panelRead
  | _ => none

end Sys2Proof
end

