-- ==== Sys2Proof/Machine/Charge.lean ====
section
/-! DEFINITION. The charge unit: side prices, tiers, reserves, charging at delivery, the final charge and quotes (chapter 1). -/

namespace Sys2Proof.Machine

open Sys2Proof

/-- The place of a colour mode in a table indexed by media and colour (section 12.7, R179). -/
def colourBit : Colour → Nat
  | .mono => 0
  | .colour => 1

/-- Front price pF, mils (R4). -/
def frontPrice (v : Values) (media : Nat) (c : Colour) : Nat := v.base.getD (2 * media + colourBit c) 0

/-- Back price pB, mils (R4). -/
def backPrice (v : Values) (media : Nat) (c : Colour) (twoSided : Bool) : Nat :=
  if twoSided then frontPrice v media c * v.backPct / 100 else 0

/-- The prices of a sheet's impressions, front before back (R4, R5). -/
def sidePrices (v : Values) (media : Nat) (c : Colour) (twoSided : Bool) : List Nat :=
  if twoSided then [frontPrice v media c, backPrice v media c true] else [frontPrice v media c]

/-- Impressions of a sheet (R4). -/
def sheetImpressions (twoSided : Bool) : Nat := if twoSided then 2 else 1

/-- Full reserve of a sheet, cu (R7). -/
def fullReserve (v : Values) (media : Nat) (c : Colour) (twoSided : Bool) : Nat :=
  (frontPrice v media c + backPrice v media c twoSided) * 100

/-- Tier percent t(n) of an ordinal (R5). -/
def tierPercent (v : Values) (n : Nat) : Nat :=
  if n ≤ v.b1 then 100 else if n ≤ v.b2 then v.t2 else v.t3

/-- Contribution of an impression, cu (R5). -/
def contribution (v : Values) (price ordinal : Nat) : Nat := price * tierPercent v ordinal

/-- The room of a job, cu (R8). -/
def room (limit gross reserved : Nat) : Nat := 1000 * limit - gross - reserved

/-- What paying a sheet's impressions comes to (R11, R12). -/
structure Payment where
  /-- reserve left -/
  left : Nat
  paid : Nat := 0
  unbilled : Nat := 0
  unpermitted : Nat := 0
deriving DecidableEq, Repr

/-- Pay one impression from the reserve left (R11 step 3, R12). -/
def payImpression (pay : Payment) (amount : Nat) : Payment :=
  { left := pay.left - min amount pay.left
    paid := pay.paid + min amount pay.left
    unbilled := pay.unbilled + (amount - min amount pay.left)
    unpermitted := if 0 < amount ∧ pay.left = 0 then pay.unpermitted + 1 else pay.unpermitted }

/-- The contributions of a sheet's impressions, which take the ordinals after `delivered` (R11 step 1). -/
def contributions (v : Values) (delivered : Nat) : List Nat → List Nat
  | [] => []
  | price :: rest => contribution v price (delivered + 1) :: contributions v (delivered + 1) rest

/-- Pay a sheet from its reserve (R11 steps 2 and 3). -/
def paySheet (v : Values) (delivered reserve : Nat) (prices : List Nat) : Payment :=
  (contributions v delivered prices).foldl payImpression { left := reserve }

/-- Charge a delivered sheet to the job's accumulators (R11, R12, R6). -/
def chargeSheet (v : Values) (acc : Accumulators) (sheet : Sheet) : Accumulators :=
  let prices := sidePrices v sheet.media sheet.colour sheet.twoSided
  let pay := paySheet v acc.delivered sheet.reserve prices
  let count := prices.length
  { gross := acc.gross + pay.paid
    delivered := saturate Config.max32 (acc.delivered + count)
    mono := if sheet.colour = .mono then saturate Config.max32 (acc.mono + count) else acc.mono
    colour := if sheet.colour = .colour then saturate Config.max32 (acc.colour + count) else acc.colour
    reserved := acc.reserved - sheet.reserve
    unbilled := saturate Config.max32 (acc.unbilled + pay.unbilled)
    unpermitted := saturate Config.max32 (acc.unpermitted + pay.unpermitted) }

/-- Discounted gross N, cu (R14). -/
def discounted (v : Values) (gross cls : Nat) : Nat := gross - gross * v.disc.getD cls 0 / 100

/-- Charge C in cents of a discounted gross (R15). -/
def roundCents (n : Nat) : Nat := (n + 499) / 1000

/-- Final charge F, cents (R16). -/
def finalCharge (v : Values) (gross delivered cls limit : Nat) : Nat :=
  if delivered = 0 then 0 else min (max (roundCents (discounted v gross cls)) v.minCharge) limit

/-- Gross of a fresh job of `sheets` sheets, every impression paid in full (R18). -/
def quoteGross (v : Values) (media : Nat) (c : Colour) (twoSided : Bool) : Nat → Nat
  | 0 => 0
  | sheets + 1 =>
    quoteGross v media c twoSided sheets +
      (contributions v (sheets * sheetImpressions twoSided) (sidePrices v media c twoSided)).sum

/-- Final charge of a quote (R18). -/
def quoteCharge (v : Values) (media : Nat) (c : Colour) (twoSided : Bool) (sheets cls : Nat) : Nat :=
  finalCharge v (quoteGross v media c twoSided sheets) (sheets * sheetImpressions twoSided) cls Config.maxHold

end Sys2Proof.Machine
end

