-- ==== Sys2Proof/Machine/Flags.lean ====
section
/-! DEFINITION. The alert flags, their enables and the ALERT output (R184, R185, R186). -/

namespace Sys2Proof.Machine

open Sys2Proof

/-- The bit of an alert flag (section 12.5). -/
def Alert.bit : Alert → Nat
  | .jobState => 0
  | .jam => 1
  | .cardReject => 2
  | .funds => 3
  | .line => 4
  | .journalLow => 5
  | .config => 6

/-- The flag as a mask. -/
def Alert.mask (a : Alert) : Byte := 1#8 <<< a.bit

/-- The seven flag bits; bit 7 of a request is unused (section 12.5, R193). -/
def alertBits : Byte := 0x7F

/-- Whether a flag is set. -/
def Panel.isSet (panel : Panel) (a : Alert) : Bool := panel.flags &&& a.mask != 0

/-- Raise a flag; one already set stays set (R184). -/
def Panel.raise (panel : Panel) (a : Alert) : Panel := { panel with flags := panel.flags ||| a.mask }

/-- Raise CARD_REJECT with its reason, which replaces an earlier one (R184). -/
def Panel.rejectWith (panel : Panel) (r : Reject) : Panel := { panel.raise .cardReject with reject := some r }

/-- ALERT_ACK: clear the named flags; clearing CARD_REJECT makes the reason absent (R185). -/
def Panel.acknowledge (panel : Panel) (flags : Byte) : Panel :=
  { panel with
    flags := panel.flags &&& ~~~flags
    reject := if flags &&& Alert.cardReject.mask != 0 then none else panel.reject }

/-- ALERT_ENABLE: the enables become exactly the flags named (R185). -/
def Panel.enable (panel : Panel) (flags : Byte) (master : Bool) : Panel :=
  { panel with enables := flags &&& alertBits, master := master }

/-- Whether the ALERT output is driven low (R186). -/
def Panel.drives (panel : Panel) : Bool := panel.master && (panel.flags &&& panel.enables != 0)

end Sys2Proof.Machine
end

