-- ==== Sys2Proof/Machine/Image.lean ====
section
/-! DEFINITION. The check and the clamps of the configuration image (R1, R2, R3, R46, R81, R97, R187, R188, section 12.7). -/

namespace Sys2Proof.Machine

open Sys2Proof

/-- A number brought into a range. -/
def clampTo (low high value : Nat) : Nat := max low (min high value)

/-- A word of the image as a number (section 12.7). -/
def imageWord (image : List Word16) (i : Nat) : Nat := (image.getD i 0).toNat

/-- The 16-bit sum of the 64 words (R187). -/
def imageSum (image : List Word16) : Nat := ((image.take 64).foldl (fun n w => n + w.toNat) 0) % 65536

/-- B1 after its clamp (R2 step 1). -/
def clampB1 (raw : Nat) : Nat := clampTo 1 65535 raw

/-- B2 after its clamp, given B1 (R2 step 2). -/
def clampB2 (b1 raw : Nat) : Nat := max b1 (clampTo 1 65535 raw)

/-- t3 after its clamp, given t2 (R2 step 4). -/
def clampT3 (t2 raw : Nat) : Nat := min t2 (clampTo 0 100 raw)

/-- Hold step after its clamp, given minGrant (R188). -/
def clampHoldStep (minGrant raw : Nat) : Nat := max minGrant (clampTo 100 20000 raw)

/-- Every value of the image after its clamp (R187, R188). -/
def clampValues (image : List Word16) : Values :=
  let w := imageWord image
  let b1 := clampB1 (w 18)
  let t2 := clampTo 0 100 (w 20)
  let minGrant := clampTo 10 1000 (w 27)
  { station := w 0
    base := (List.range 16).map (fun i => clampTo 0 9999 (w (1 + i)))
    backPct := clampTo 0 100 (w 17)
    b1 := b1
    b2 := clampB2 b1 (w 19)
    t2 := t2
    t3 := clampT3 t2 (w 21)
    disc := (List.range 4).map (fun i => clampTo 0 50 (w (22 + i)))
    minCharge := clampTo 0 500 (w 26)
    minGrant := minGrant
    holdStep := clampHoldStep minGrant (w 28)
    lifetime := clampTo 60 900 (w 29)
    grace := clampTo 1 72 (w 30)
    idleTimeout := clampTo 15 600 (w 31)
    floatLimit := clampTo 0 5000 (w 32)
    floatPool := clampTo 0 50000 (w 33)
    w1 := clampTo 50 5000 (w 34)
    w2 := clampTo 50 5000 (w 35)
    w3 := clampTo 50 5000 (w 36)
    dwell := (List.range 8).map (fun i => clampTo 100 10000 (w (37 + i))) }

/-- The clamped values in the order of the words 1 to 44 that carry them (section 12.7). -/
def valueWords (v : Values) : List Nat :=
  v.base ++ [v.backPct, v.b1, v.b2, v.t2, v.t3] ++ v.disc ++
    [v.minCharge, v.minGrant, v.holdStep, v.lifetime, v.grace, v.idleTimeout, v.floatLimit, v.floatPool, v.w1, v.w2, v.w3] ++
    v.dwell

/-- How many values a clamp changed (R188). -/
def clampedCount (image : List Word16) : Nat :=
  ((List.range' 1 44).zip (valueWords (clampValues image))).countP (fun e => imageWord image e.1 != e.2)

/-- The station numbers that serve (R188). -/
def servableStation (n : Nat) : Bool := decide (1 ≤ n) && decide (n ≤ 30)

/-- The configuration outcome (R188). -/
def configOutcome (image : List Word16) : ConfigOutcome :=
  if imageSum image != 0 || !servableStation (imageWord image 0) then .bad
  else if clampedCount image = 0 then .good
  else .clamped

/-- What the loader keeps from an image (R187, R188). -/
def loadImage (image : List Word16) : Configuration where
  image := image
  values := clampValues image
  outcome := configOutcome image
  clamped := clampedCount image

end Sys2Proof.Machine
end

