-- ==== Sys2Proof/Machine/Tables.lean ====
section
/-! DEFINITION. Tables: entries by number, in the one canonical form that State's regions keep. -/

namespace Sys2Proof.Machine

variable {α : Type}

/-- The entry with a number, if it is listed. -/
def tableGet (t : Table α) (k : Nat) : Option α :=
  match t with
  | [] => none
  | (i, v) :: rest => if i = k then some v else tableGet rest k

/-- The table with one entry set. -/
def tablePut (t : Table α) (k : Nat) (v : α) : Table α :=
  match t with
  | [] => [(k, v)]
  | (i, w) :: rest =>
    if k < i then (k, v) :: (i, w) :: rest
    else if k = i then (k, v) :: rest
    else (i, w) :: tablePut rest k v

/-- The table with one entry unlisted. -/
def tableErase (t : Table α) (k : Nat) : Table α :=
  match t with
  | [] => []
  | (i, w) :: rest => if k = i then rest else (i, w) :: tableErase rest k

/-- Set an entry, or unlist it. -/
def tableSet (t : Table α) (k : Nat) (v : Option α) : Table α :=
  match v with
  | none => tableErase t k
  | some w => tablePut t k w

/-- A number of a table whose unlisted entries read 0. -/
def countGet (t : Table Nat) (k : Nat) : Nat := (tableGet t k).getD 0

/-- Set a number of such a table; a 0 is not listed. -/
def countSet (t : Table Nat) (k n : Nat) : Table Nat :=
  if n = 0 then tableErase t k else tablePut t k n

/-- The canonical form: entry numbers strictly rising. -/
abbrev Rising (t : Table α) : Prop := t.Pairwise (fun a b => a.1 < b.1)

/-- The canonical form of a table whose unlisted entries read 0: rising, and no 0 listed. -/
abbrev RisingNonzero (t : Table Nat) : Prop := Rising t ∧ t.all (fun e => e.2 != 0) = true

/-- The lowest number below `bound`, from `start`, that is not listed. -/
def lowestFree (t : Table α) (start bound : Nat) : Option Nat :=
  (List.range' start (bound - start)).find? (fun i => (tableGet t i).isNone)

/-- The first listed number and entry that satisfy a test. -/
def tableFind (t : Table α) (test : α → Bool) : Option (Nat × α) := t.find? (fun e => test e.2)

/-- How many listed entries satisfy a test. -/
def tableCount (t : Table α) (test : α → Bool) : Nat := t.countP (fun e => test e.2)

end Sys2Proof.Machine
end

