-- ==== Sys2Proof/Machine/Ledger.lean ====
section
/-! DEFINITION. The ledger store: regions and records, the write queue, coalescing, pending values and reads (R160 to R167). -/

namespace Sys2Proof.Machine

/-- The record that a write names (R161). -/
def Write.name : Write → RecordName
  | .account slot _ => .account slot
  | .hold slot _ => .hold slot
  | .journal position _ => .journal position
  | .deferred slot _ => .deferred slot
  | .meter index _ => .meter index
  | .mark station _ => .mark station
  | .checkpoint _ => .checkpoint
  | .apply _ => .apply
  | .period _ => .period
  | .counter c _ => .counter c

/-- Set one counter record (R160). -/
def setCounter (l : Ledger) (c : Counter) (n : Nat) : Ledger :=
  match c with
  | .jobNumber => { l with jobNumber := n }
  | .holdId => { l with holdId := n }
  | .journalSequence => { l with journalSequence := n }
  | .applySequence => { l with applySequence := n }
  | .releaseMark => { l with releaseMark := n }

/-- The memory with one record programmed (R161). -/
def program (l : Ledger) (w : Write) : Ledger :=
  match w with
  | .account slot value => { l with accounts := tablePut l.accounts slot value }
  | .hold slot value => { l with holds := tableSet l.holds slot value }
  | .journal position value => { l with journal := tablePut l.journal position value }
  | .deferred slot value => { l with deferred := tableSet l.deferred slot value }
  | .meter index value => { l with meters := countSet l.meters index value }
  | .mark station value => { l with marks := countSet l.marks station value }
  | .checkpoint value => { l with checkpoint := value }
  | .apply value => { l with apply := value }
  | .period value => { l with period := value }
  | .counter c value => setCounter l c value

/-- The canonical form of the memory: every region rising, no meter or mark listed at what an unlisted one reads as. -/
abbrev Ledger.wf (l : Ledger) : Prop :=
  Rising l.accounts ∧ Rising l.holds ∧ Rising l.journal ∧ Rising l.deferred ∧ RisingNonzero l.meters ∧
    RisingNonzero l.marks

/-- Posts that may replace a waiting one (R162). -/
def coalesces (w : Write) : Bool :=
  match w with
  | .hold _ _ => false
  | .apply _ => false
  | .checkpoint none => false
  | _ => true

/-- The post that is being programmed: the oldest, but between a completion and the next programming (R161 items 3 and 4). -/
def Store.programming (s : Store) : List Post := if s.starting then [] else s.queue.take 1

/-- The posts that wait, not yet being programmed (R161, R162). -/
def Store.waiting (s : Store) : List Post := if s.starting then s.queue else s.queue.tail

/-- Whether a write would replace a waiting post (R162). -/
def Store.merges (s : Store) (w : Write) : Bool :=
  coalesces w && s.waiting.any (fun post => decide (post.write.name = w.name))

/-- Whether a post can be made now (R164). -/
def Store.hasPlace (s : Store) (w : Write) : Bool :=
  decide (s.queue.length < Config.queuePlaces) || s.merges w

/-- Replace the waiting post of a record in place; its write-done answers both (R162). -/
def replaceWaiting (posts : List Post) (w : Write) (notes : List Note) : List Post :=
  match posts with
  | [] => []
  | post :: rest =>
    if post.write.name = w.name then { write := w, notes := post.notes ++ notes } :: rest
    else post :: replaceWaiting rest w notes

/-- Make a post: in place of a waiting one, or at the tail (R161, R162). A write of the close walk too takes the place of a waiting
post of its slot, and so may go ahead of the period record that R116 and R166 place before it (DEDUCED, log entry 57);
and a raised export mark may go ahead of the sequence it marks (R173; DEDUCED, log entry 66). -/
def Store.post (s : Store) (w : Write) (notes : List Note) : Store :=
  if s.merges w then { s with queue := s.programming ++ replaceWaiting s.waiting w notes }
  else { s with queue := s.queue ++ [{ write := w, notes := notes }] }

/-- Keep a running record's value as its pending value, replacing the one it had (R165). -/
def keepPending (pending : List Write) (w : Write) : List Write :=
  match pending with
  | [] => [w]
  | v :: rest => if v.name = w.name then w :: rest else v :: keepPending rest w

/-- Pending values join the queue as places are free, oldest first (R164, R165). -/
def joinPending (pending : List Write) (queue : List Post) : List Post × List Write :=
  match pending with
  | [] => (queue, [])
  | w :: rest =>
    if queue.length < Config.queuePlaces then joinPending rest (queue ++ [{ write := w, notes := [] }])
    else (queue, w :: rest)

/-- Give free places to the pending values (R164). -/
def Store.fill (s : Store) : Store :=
  { s with queue := (joinPending s.pending s.queue).1, pending := (joinPending s.pending s.queue).2 }

/-- Post a running record, whose owner never waits (R165). -/
def Store.postRunning (s : Store) (w : Write) : Store :=
  if s.hasPlace w then s.post w [] else { s with pending := keepPending s.pending w }

/-- A post of a checkpoint value. -/
def setsCheckpoint (post : Post) : Bool :=
  match post.write with
  | .checkpoint (some _) => true
  | _ => false

/-- Post the clearing of the checkpoint: behind everything posted, a waiting value withdrawn (R162). -/
def Store.clearCheckpoint (s : Store) : Store :=
  let posted := s.postRunning (.checkpoint none)
  ({ posted with queue := posted.programming ++ posted.waiting.filter (fun post => !setsCheckpoint post) }).fill

/-- The newest value of every record: stored, then queued, then pending (R163). -/
def Store.newest (s : Store) : Ledger :=
  s.pending.foldl program ((s.queue.map Post.write).foldl program s.stored)

/-- The newest value of every record (R163). -/
def Part.ledger (p : Part) : Ledger := p.store.newest

/-- The number of the five counters, as one function (R160). -/
def counterValue (l : Ledger) (c : Counter) : Nat :=
  match c with
  | .jobNumber => l.jobNumber
  | .holdId => l.holdId
  | .journalSequence => l.journalSequence
  | .applySequence => l.applySequence
  | .releaseMark => l.releaseMark

end Sys2Proof.Machine
end

