-- ==== Sys2Proof/Machine/Ops.lean ====
section
/-! DEFINITION. The named operations that several blocks share: time, alerts, messages to the reader, running records, work
for an owner that may wait, account lookup, and the outbound queue. -/

namespace Sys2Proof.Machine

open Sys2Proof

/-! ### Time, service, alerts, outputs -/

/-- The seconds count (section 4.2). -/
def Part.seconds (p : Part) : Nat := p.now / 1000

/-- The blocks take input (R192). -/
def Part.serving (p : Part) : Bool := decide (p.phase = .serving)

/-- The station is OUT_OF_SERVICE once it serves (R189). -/
def Part.outOfService (p : Part) : Bool := decide (p.config.outcome = .bad)

/-- This station's number (R187). -/
def Part.station (p : Part) : Nat := p.config.values.station

/-- Raise an alert flag (R184). -/
def Part.raise (p : Part) (a : Alert) : Part := { p with panel := p.panel.raise a }

/-- Raise CARD_REJECT with a reason (R184). -/
def Part.rejectWith (p : Part) (r : Reject) : Part := { p with panel := p.panel.rejectWith r }

/-- Send a message to the reader, in its layout (R68, R193). -/
def Part.sendCard (p : Part) (m : CardMessage) : Part :=
  { p with outputs := { p.outputs with card := p.outputs.card ++ [m.bytes] } }

/-- Raise the count of returns expected (R72). -/
def Part.expectReturn (p : Part) : Part := { p with card := { p.card with returns := saturate 7 (p.card.returns + 1) } }

/-! ### The store, for the blocks (R161 to R165) -/

/-- Post a running record (R165). -/
def Part.postRunning (p : Part) (w : Write) : Part := { p with store := p.store.postRunning w }

/-- Raise a meter, as a running record (R178). -/
def Part.raiseMeter (p : Part) (index count : Nat) : Part :=
  p.postRunning (.meter index (saturate Config.max32 (countGet p.ledger.meters index + count)))

/-- Give an owner work, which it takes up when it is ready (R164). -/
def Part.assign (p : Part) (owner : Owner) (tasks : List Task) : Part :=
  { p with store := { p.store with work := p.store.work ++ [{ owner := owner, tasks := tasks }] } }

/-- The block that a task acts in; it must not be waiting on another post (R104, R110, R125, R172). -/
def Task.block : Task → Owner
  | .ask _ _ _ _ | .more _ _ _ _ | .keep _ _ _ | .newHold _ _ _ _ | .putHoldId _ | .putHold _ _ _ | .dropHold _ => .hold
  | .markSettling _ | .removeHold _ _ | .advanceSweep => .hold
  | .journal _ | .journalCount _ | .journalPut _ _ => .journal
  | .putAccount _ _ _ | .vacate _ _ _ | .close _ | .startWalk _ | .walk | .carry | .endWalk | .debit | .recoverDebit _ => .account
  | .decide s => if s.holdId = 0 then .settlement else .hold
  | .nextRequest | .putMark _ _ _ | .putApplySequence _ | .putApply _ | .clearApply _ => .settlement
  | .putEntry _ _ _ _ _ _ _ _ _ | .intoFlight _ | .send _ | .countSend _ | .removeEntry _ _ => .settlement
  | .tally _ | .handedOff | .settleCheckpoint _ | .holdTally _ | .clearCheckpoint => .settlement
  | .quiet | .recoverApply | .recoverCheckpoint | .recoverHolds | .holdsInService | .recoverFloat | .recoverWalk => .loader
  | .enterService => .loader

/-- The block of a work's next task. -/
def Work.block (w : Work) : Owner :=
  match w.tasks with
  | [] => w.owner
  | t :: _ => t.block

/-- An owner that has work unfinished takes no new input (R164). -/
def Part.busy (p : Part) (owner : Owner) : Bool :=
  p.store.work.any (fun w => decide (w.owner = owner) || decide (w.block = owner))

/-- An owner is at a step of the work: it has begun, or it hands a record to the journal, where the owner waits with the journal (R164,
R172). -/
def Work.occupies (w : Work) (owner : Owner) : Bool := decide (w.owner = owner) && (w.begun || decide (w.block = .journal))

/-- The settlement unit waits on a post, of its own or of a hold operation that the apply procedure has begun, or behind a journal that
waits, and its sending side takes nothing in (R125, R164, R172). Work of the apply procedure that the hold table has yet to take up,
because that table waits on a post of its own (R104), is no such wait (DEDUCED, log entry 64). -/
def Part.sendingWaits (p : Part) : Bool :=
  p.store.work.any (fun w => decide (w.block = .settlement) || w.occupies .settlement)

/-! ### Journal and deferred room (R124, R173) -/

/-- The journal's free slots (R173): more than 256 when a loss of supply has left the mark above the newest sequence (DEDUCED, log entry
66). -/
def journalFree (l : Ledger) (reserved : Nat) : Int :=
  min ((Config.journalSlots : Int) - ((l.journalSequence : Int) - (l.releaseMark : Int)))
    ((Config.max32 : Int) - (l.journalSequence : Int)) - (reserved : Int)

/-- The journal's free slots, queued posts included (R173, R163). -/
def Part.freeSlots (p : Part) : Int := journalFree p.ledger p.journal.reserved

/-- A deferred slot in use: until the write of its removal completes (R124). -/
def Part.deferredInUse (p : Part) (slot : Nat) : Bool :=
  (tableGet p.store.stored.deferred slot).isSome ||
    p.store.queue.any (fun post => decide (post.write.name = .deferred slot))

/-- How many deferred slots are in use (R124). -/
def Part.deferredUsed (p : Part) : Nat := (List.range Config.deferredSlots).countP (fun slot => p.deferredInUse slot)

/-- A deferred slot that is neither in use nor reserved exists (R21, R124). -/
def Part.deferredFree (p : Part) : Bool := decide (p.deferredUsed + p.settlement.reserved < Config.deferredSlots)

/-- A slot for a new entry: the lowest not in use. R124 orders the entries by number and gives the slots no order (DESIGN CHOICE, log
entry 76). -/
def Part.deferredSlot (p : Part) : Option Nat := (List.range Config.deferredSlots).find? (fun slot => !p.deferredInUse slot)

/-- Release a reserved deferred slot (R124). -/
def Part.releaseDeferred (p : Part) : Part :=
  { p with settlement := { p.settlement with reserved := p.settlement.reserved - 1 } }

/-- Release a reserved journal slot (R173). -/
def Part.releaseJournal (p : Part) : Part := { p with journal := { p.journal with reserved := p.journal.reserved - 1 } }

/-! ### Accounts (R87, R108, R109) -/

/-- Look an account up along its run (R108). -/
def probe (slots : Table AccountSlot) (number : Nat) : Nat → Nat → Option (Nat × Account)
  | 0, _ => none
  | left + 1, slot =>
    match tableGet slots slot with
    | none => none
    | some (.used a) => if a.number = number then some (slot, a) else probe slots number left ((slot + 1) % Config.accountSlots)
    | some .vacated => probe slots number left ((slot + 1) % Config.accountSlots)

/-- The record of an account and its slot (R108). -/
def findAccount (l : Ledger) (number : Nat) : Option (Nat × Account) :=
  probe l.accounts number Config.probeRun (homeIndex number)

/-- The first slot of a run, in probe order, that is EMPTY or VACATED (R109). -/
def probeFree (slots : Table AccountSlot) : Nat → Nat → Option Nat
  | 0, _ => none
  | left + 1, slot =>
    match tableGet slots slot with
    | some (.used _) => probeFree slots left ((slot + 1) % Config.accountSlots)
    | _ => some slot

/-- Where an account not yet in the table is inserted; none is TABLE_FULL (R109). -/
def insertionSlot (l : Ledger) (number : Nat) : Option Nat := probeFree l.accounts Config.probeRun (homeIndex number)

/-- Available amount of an account with a held amount (R87). -/
def available (a : Account) (held : Nat) : Nat :=
  match a.credit with
  | .charge limit => limit - a.spent - held
  | .prepaid balance => (balance - (held : Int)).toNat

/-- The held amount of an account (R86). -/
def Part.held (p : Part) (account : Nat) : Nat := countGet p.accounts.held account

/-- Set the held amount of an account (R86). -/
def Part.setHeld (p : Part) (account amount : Nat) : Part :=
  { p with accounts := { p.accounts with held := countSet p.accounts.held account amount } }

/-! ### The outbound queue (R146) -/

/-- The order of frames: rank, then destination (R146). -/
def OutFrame.header (f : OutFrame) : Nat := f.message.rank * 32 + f.dest

/-- Place a frame in header order, behind its equals (R146). -/
def insertFrame (queue : List OutFrame) (f : OutFrame) : List OutFrame :=
  match queue with
  | [] => [f]
  | g :: rest => if f.header < g.header then f :: g :: rest else g :: insertFrame rest f

/-- Whether the line controller refuses an enqueue (R146). -/
def Part.refusesFrame (p : Part) (dest : Nat) : Bool :=
  decide (Config.queuePlaces ≤ p.line.outbound.length) || decide (p.line.state = .withdrawn) ||
    decide (p.line.state = .silent) || decide (dest = 31) || decide (dest = p.station)

/-- Hand a frame to the line controller: the part after it, and the frame's ticket unless it was refused (R146). -/
def Part.enqueue (p : Part) (dest : Nat) (m : Message) : Part × Option Nat :=
  if p.refusesFrame dest then (p, none)
  else
    ({ p with
        line :=
          { p.line with
            outbound := insertFrame p.line.outbound { ticket := p.line.nextTicket, dest := dest, message := m }
            nextTicket := p.line.nextTicket + 1 } },
      some p.line.nextTicket)

/-- Hand a frame over and let it be lost when it is refused (R92, R110, R137, R180). -/
def Part.sendFrame (p : Part) (dest : Nat) (m : Message) : Part := (p.enqueue dest m).1

end Sys2Proof.Machine
end

