-- ==== Sys2Proof/Machine/Jobs.lean ====
section
/-! DEFINITION. The job controller and the card session: opening, funding, top-ups, permit, ending and hand-off of a job
(chapter 2, and R71 to R84, R123 of chapters 4 and 7). -/

namespace Sys2Proof.Machine

open Sys2Proof

/-! ### The job record -/

/-- A change of the record's state raises JOB_STATE (chapter 2, R184). -/
def Part.setJobState (p : Part) (st : JobState) : Part :=
  if p.job.state = st then p else ({ p with job := { p.job with state := st } }).raise .jobState

/-- The end reason is set once (R42). -/
def Job.endWith (j : Job) (r : EndReason) : Job := { j with endReason := some (j.endReason.getD r) }

/-- H, or 0 before funding. -/
def Job.amount (j : Job) : Nat := j.limit.getD 0

/-- P×K, or 0 without a plan (R29). -/
def Job.positions (j : Job) : Nat :=
  match j.plan with
  | none => 0
  | some plan => plan.originals * plan.copies

/-- Copy and page of a sequence index (R29). -/
def Plan.place (plan : Plan) (s : Nat) : Nat × Nat :=
  if plan.collated then (s / plan.originals + 1, s % plan.originals + 1) else (s % plan.copies + 1, s / plan.copies + 1)

/-- The headroom test (R9). -/
def Job.headroom (j : Job) : Bool := decide (j.acc.gross + j.acc.reserved + j.planReserve ≤ 1000 * j.amount)

/-- The states in which a fed sheet that is tracked belongs to the job (R50). -/
def JobState.ownsFeeds : JobState → Bool
  | .ready | .running | .paused | .draining => true
  | .idle | .authorize | .jammed | .settling => false

/-- The states in which no job can own a fed sheet (R51). -/
def JobState.unowned : JobState → Bool
  | .idle | .authorize | .settling => true
  | .ready | .running | .jammed | .paused | .draining => false

/-- Funding by an account's hold (R33). -/
def Job.accountFunded (j : Job) : Bool := j.funding == some .accountLocal || j.funding == some .accountRemote

/-- Clear a top-up: outstanding and its timer (R32, R37, R43), and the attempt count with it (DEDUCED, log entry 47). -/
def Job.clearTopup (j : Job) : Job :=
  { j with topupOutstanding := false, topupAttempts := 0, topupDue := none, topupFrame := none }

/-- The checkpoint of a funded job (R168). -/
def Job.checkpoint (j : Job) : Option Checkpoint :=
  match j.funding, j.limit with
  | some funding, some limit =>
    some
      { job := j.number, funding := funding, payer := j.payer, home := j.home, holdId := j.holdId, limit := limit
        cls := j.cls, gross := j.acc.gross, delivered := j.acc.delivered, mono := j.acc.mono, colour := j.acc.colour
        position := j.position, unbilled := j.acc.unbilled, unpermitted := j.acc.unpermitted, spoiled := j.spoiled
        jams := j.jams }
  | _, _ => none

/-- Post the checkpoint, as a running record (R22, R168). -/
def Part.postCheckpoint (p : Part) : Part :=
  match p.job.checkpoint with
  | none => p
  | some c => p.postRunning (.checkpoint (some c))

/-- Set the last activity time to now (R41). -/
def Part.touchActivity (p : Part) : Part := { p with job := { p.job with lastActivity := p.now } }

/-- The keep interval, ms: half the lifetime in whole seconds, at least 1 s (R33). -/
def keepInterval (lifetime : Nat) : Nat := 1000 * max 1 (lifetime / 2)

/-- Set the keep-alive due time of an account job (R33). -/
def Part.armKeep (p : Part) : Part :=
  match p.job.accountFunded, p.job.lifetime with
  | true, some lifetime => { p with job := { p.job with keepDue := some (p.now + keepInterval lifetime) } }
  | _, _ => p

/-- Entry to READY (R22, R23, R24, R25, R33, R168). -/
def Part.enterReady (p : Part) : Part :=
  (({ p with job := { p.job with askDue := none, askFrame := none } }).setJobState .ready).touchActivity.armKeep.postCheckpoint

/-! ### Opening a job -/

/-- The acceptance tests of R21, in order. -/
def Part.cardRefusal (p : Part) (card : CardRecord) : Option Reject :=
  if p.job.state ≠ .idle then some .busy
  else if p.outOfService then some .outOfService
  else if p.freeSlots ≤ 8 then some .stationFull
  else
    match card with
    | .account _ _ => if p.deferredFree then none else some .stationFull
    | .value _ => none

/-- The next job number (R21). -/
def nextJobNumber (counter : Nat) : Nat := if Config.max16 ≤ counter then 1 else counter + 1

/-- Take a job number and the journal reservation (R21). -/
def Part.takeJob (p : Part) : Part :=
  let number := nextJobNumber p.ledger.jobNumber
  ({ p with
      job := { ({} : Job) with number := number }
      journal := { p.journal with reserved := p.journal.reserved + 1 } }).postRunning (.counter .jobNumber number)

/-- One ask attempt for a remote home (R24). -/
def Part.askAttempt (p : Part) : Part :=
  let sent := p.enqueue (p.job.home.getD 0) (.holdAsk p.job.payer p.job.number p.config.values.holdStep)
  let q := sent.1
  { q with
    job :=
      { q.job with askAttempts := q.job.askAttempts + 1, askDue := some (q.now + Config.attemptMs), askFrame := sent.2 } }

/-- Open a job for an account card (R21, R23, R24). -/
def Part.openAccountJob (p : Part) (account home : Nat) : Part :=
  let taken := p.takeJob
  let own := decide (home = p.station)
  let q :=
    ({ taken with
        job :=
          { taken.job with
            funding := some (if own then .accountLocal else .accountRemote), payer := account, home := some home }
        settlement := { taken.settlement with reserved := taken.settlement.reserved + 1 } }).setJobState .authorize
  if own then q.assign .hold [.ask q.station account q.job.number q.config.values.holdStep] else q.askAttempt

/-- Open a job for a value card (R22, R71). -/
def Part.openValueJob (p : Part) (card : ValueCard) : Part :=
  let taken := p.takeJob
  let q :=
    { taken with
      job := { taken.job with funding := some .value, payer := card.serial, limit := some card.balance, cls := card.cls }
      card := { taken.card with session := .held card taken.job.number } }
  (q.sendCard .retain).enterReady

/-- The record returns to IDLE and its fields are cleared (R20). -/
def Part.clearJob (p : Part) : Part := ({ p with job := {} }).raise .jobState

/-- A job in AUTHORIZE ends unfunded: both reservations are released (R23, R24, R25). -/
def Part.denyJob (p : Part) (r : Reject) : Part := p.clearJob.releaseJournal.releaseDeferred.rejectWith r

/-- The grant of the float decision (R83). -/
def Part.floatGrant (p : Part) : Nat :=
  min p.config.values.floatLimit (p.config.values.floatPool - p.settlement.floatOutstanding)

/-- The float decision (R25, R83). -/
def Part.floatDecision (p : Part) : Part :=
  let g := p.floatGrant
  if p.config.values.minGrant ≤ g then
    ({ p with
        job := { p.job with funding := some .float, limit := some g, cls := 0, holdId := none, lifetime := none }
        settlement :=
          { p.settlement with floatOutstanding := p.settlement.floatOutstanding + g } }).enterReady
  else p.denyJob .homeSilent

/-- An ask attempt has ended without an answer (R24, R25). -/
def Part.askAttemptEnded (p : Part) : Part := if p.job.askAttempts < 3 then p.askAttempt else p.floatDecision

/-! ### Top-ups (R31, R32) -/

/-- What a top-up asks for (R31). -/
def Part.topupIncrement (p : Part) : Nat := min p.config.values.holdStep (Config.maxHold - p.job.amount)

/-- One top-up attempt for a remote home (R31). -/
def Part.topupAttempt (p : Part) : Part :=
  let sent := p.enqueue (p.job.home.getD 0) (.holdMore (p.job.holdId.getD 0) p.job.number p.topupIncrement)
  let q := sent.1
  { q with
    job :=
      { q.job with
        topupOutstanding := true, topupAttempts := q.job.topupAttempts + 1
        topupDue := some (q.now + Config.attemptMs), topupFrame := sent.2 } }

/-- A top-up handed to the own hold table; no rule moves its attempt count (R31, R102, log entry 12). -/
def Part.topupLocal (p : Part) : Part :=
  ({ p with job := { p.job with topupOutstanding := true } }).assign .hold
    [.more p.station (p.job.holdId.getD 0) p.job.number p.topupIncrement]

/-- Funds exhausted is set, and FUNDS raised (R31, R32, R37). -/
def Part.exhaust (p : Part) (cause : FundsCause) : Part :=
  ({ p with job := { p.job with exhausted := some cause } }).raise .funds

/-- A top-up is denied (R32). -/
def Part.topupDenied (p : Part) : Part := ({ p with job := p.job.clearTopup }).exhaust .funds

/-- A top-up attempt has ended without an answer (R31, R32). -/
def Part.topupAttemptEnded (p : Part) : Part := if p.job.topupAttempts < 3 then p.topupAttempt else p.topupDenied

/-- The job is out of funds for the next sheet (R31). -/
def Part.outOfFunds (p : Part) : Bool :=
  decide (p.job.state = .running) && !p.path.jammed && decide (p.path.sheets.length < Config.pathPlaces) &&
    decide (p.job.assigned < p.job.positions) && !p.job.headroom

/-- Act on being out of funds, once (R31). -/
def Part.reactFunds (p : Part) : Part :=
  if p.outOfFunds && !p.job.topupOutstanding && p.job.exhausted.isNone then
    if p.job.accountFunded && decide (p.job.amount < Config.maxHold) then
      if p.job.funding = some .accountRemote then p.topupAttempt else p.topupLocal
    else p.exhaust .funds
  else p

/-! ### Hand-off (R43, R75, R78, R123) -/

/-- The JOB record of the open job (R171). -/
def Job.journalEntry (j : Job) (status : JournalStatus) : JobEntry where
  job := j.number
  funding := j.funding.getD .value
  payer := j.payer
  home := j.home
  holdId := j.holdId
  charge := j.charge.getD 0
  mono := saturate Config.max24 j.acc.mono
  colour := saturate Config.max24 j.acc.colour
  spoiled := saturate Config.max16 j.spoiled
  jams := saturate Config.max16 j.jams
  unpermitted := saturate Config.max24 j.acc.unpermitted
  unbilledCents := j.acc.unbilled / 1000
  endReason := j.endReason
  status := status

/-- The TALLY of the open job, with the fields of R180 and section 12.1. R42 says that the tally carries the end reason too; those
give it no such field, and are followed (DEDUCED, log entry 49). -/
def Job.tallyMessage (j : Job) : Message :=
  .tally j.number (j.funding.getD .value).code j.payer (j.charge.getD 0) (saturate Config.max24 j.acc.delivered)

/-- The hand-off completes: JOB record, TALLY, return to IDLE (R123, R180). -/
def Part.completeHandOff (p : Part) (status : JournalStatus) : Part :=
  p.assign .settlement [.journal (.job (p.job.journalEntry status)), .tally p.job.tallyMessage, .handedOff]

/-- Whether the closing RELEASE raises the count of returns expected (R72, R78). -/
def Session.releaseReturns : Session → Bool
  | .held _ _ => true
  | .writing _ _ removed _ _ _ => !removed
  | .closed | .gone _ _ => false

/-- The card session closes (R78). -/
def Part.closeSession (p : Part) (status : JournalStatus) : Part :=
  let released := if p.card.session.releaseReturns then (p.sendCard .release).expectReturn else p.sendCard .release
  let told := released.completeHandOff status
  { told with card := { told.card with session := .closed } }

/-- Status of a value card's charge that is not written (R75). -/
def unwrittenStatus (charge : Nat) : JournalStatus := if charge = 0 then .paid else .unpaid

/-- Hand-off of a VALUE job to the card interface (R75). -/
def Part.handOffCard (p : Part) (charge : Nat) : Part :=
  match p.card.session with
  | .held card job =>
    if charge = 0 then p.closeSession .paid
    else
      ({ p with
          card :=
            { p.card with
              session := .writing card job false charge (card.balance - charge) (p.now + Config.writeDeadlineMs) } }).sendCard
        (.writeValue card.serial (card.balance - charge) card.count)
  | _ => p.closeSession (unwrittenStatus charge)

/-- A local request to the apply procedure, in the order made (R132, R138). -/
def Part.requestSettlement (p : Part) (s : Settlement) : Part :=
  ({ p with settlement := { p.settlement with requests := p.settlement.requests ++ [s] } }).assign .settlement [.nextRequest]

/-- Hand the charge off by funding kind (R43 step 5, R123). -/
def Part.handOff (p : Part) (charge : Nat) : Part :=
  let j := p.job
  match j.funding with
  | some .accountLocal =>
    p.releaseDeferred.requestSettlement
      { source := p.station, holdId := j.holdId.getD 0, account := j.payer, job := j.number, charge := charge
        impressions := j.acc.delivered, requester := .job }
  | some .accountRemote =>
    p.assign .settlement
      [.putEntry (j.home.getD 0) (j.holdId.getD 0) j.payer j.number charge (saturate Config.max24 j.acc.delivered) true true none]
  | some .float =>
    p.assign .settlement
      [.putEntry (j.home.getD 0) 0 j.payer j.number charge (saturate Config.max24 j.acc.delivered) true true (some j.amount)]
  | _ => p.handOffCard charge

/-- The final charge of the open job (R17). -/
def Part.jobCharge (p : Part) : Nat :=
  finalCharge p.config.values p.job.acc.gross p.job.acc.delivered p.job.cls p.job.amount

/-- Entry to SETTLING (R43, R17). -/
def Part.enterSettling (p : Part) : Part :=
  let charge := p.jobCharge
  let stopped :=
    ({ p with
        permit := false
        job := { p.job.clearTopup with keepDue := none, runOutDue := none, charge := some charge } }).setJobState .settling
  stopped.handOff charge

/-- End a job: SETTLING when the path list is empty, DRAINING otherwise (R34, R37, R38). -/
def Part.endJob (p : Part) (r : EndReason) : Part :=
  let q := { p with job := p.job.endWith r }
  if q.path.sheets.isEmpty then q.enterSettling
  else ({ q with job := { q.job with runOutDue := none } }).setJobState .draining

/-- Ask for the end of a JAMMED job (R34, R37, R38). -/
def Part.markDrain (p : Part) (r : EndReason) : Part := { p with job := { p.job.endWith r with drainMark := true } }

/-! ### Permit and what every event may bring about -/

/-- The permit conditions (R30). -/
def Part.permitHolds (p : Part) : Bool :=
  p.serving && !p.outOfService && decide (p.job.state = .running) && !p.path.jammed &&
    decide (p.path.sheets.length < Config.pathPlaces) && decide (p.job.assigned < p.job.positions) && p.job.headroom

/-- A RUNNING job may end by itself (R35). -/
def Part.runOutHolds (p : Part) : Bool :=
  decide (p.job.state = .running) && p.path.sheets.isEmpty &&
    (decide (p.job.position = p.job.positions) ||
      (decide (p.job.exhausted = some .funds) && !p.job.topupOutstanding))

/-- Start the run-out wait when its condition first holds; end it when it no longer does (R35). -/
def Part.reactRunOut (p : Part) : Part :=
  if p.runOutHolds then
    match p.job.runOutDue with
    | none => { p with job := { p.job with runOutDue := some (p.now + p.config.values.w1) } }
    | some _ => p
  else { p with job := { p.job with runOutDue := none } }

/-- A DRAINING job whose path list is empty settles at once (R36). -/
def Part.reactDrain (p : Part) : Part :=
  if p.job.state = .draining ∧ p.path.sheets.isEmpty then p.enterSettling else p

/-- The job controller's rules that follow every event (R30, R31, R35, R36). -/
def Part.react (p : Part) : Part :=
  if p.serving then
    let q := p.reactDrain.reactFunds.reactRunOut
    { q with permit := q.permitHolds }
  else p

/-- The idle time has been reached in a state in which it runs (R41). -/
def Part.idleReached (p : Part) : Bool :=
  (decide (p.job.state = .ready) || decide (p.job.state = .paused) || decide (p.job.state = .running)) &&
    p.path.sheets.isEmpty && decide (p.config.values.idleTimeout * 1000 ≤ p.now - p.job.lastActivity)

/-- The idle timeout falls due (R41). -/
def Part.idleEnd (p : Part) : Part := ({ p with job := p.job.endWith .idleTimeout }).enterSettling

/-! ### Hold answers (R24, R26, R27, R32, R37) -/

/-- An answer counts for the open job (R24). -/
def Part.answersJob (p : Part) (source job : Nat) : Bool :=
  decide (p.job.state ≠ .idle) && decide (p.job.home = some source) && decide (p.job.number = job)

/-- States in which top-up answers are taken (R32). -/
def JobState.takesTopups : JobState → Bool
  | .ready | .running | .jammed | .paused | .draining => true
  | .idle | .authorize | .settling => false

/-- The record takes a hold: id, H, class, lifetime (R24). -/
def Job.takeHold (j : Job) (holdId amount cls lifetime : Nat) : Job :=
  { j with holdId := some holdId, limit := some (min amount Config.maxHold), cls := cls, lifetime := some lifetime }

/-- A FLOAT job adopts a hold in READY (R27). -/
def Part.adopt (p : Part) (holdId amount cls lifetime : Nat) : Part :=
  let old := p.job.amount
  (({ p with
      job := { p.job.takeHold holdId amount cls lifetime with funding := some .accountRemote }
      settlement := { p.settlement with floatOutstanding := p.settlement.floatOutstanding - old } }).armKeep).postCheckpoint

/-- A top-up is granted (R32). -/
def Part.topupGranted (p : Part) (amount : Nat) : Part :=
  ({ p with
      job := { p.job.clearTopup with limit := some (max p.job.amount (min amount Config.maxHold)) } }).postCheckpoint

/-- HOLD_GIVE, or the own hold table's grant, for the open job (R23, R24, R27, R32). -/
def Part.jobGive (p : Part) (holdId amount cls lifetime : Nat) : Part :=
  let usable := decide (amount ≠ 0) && decide (cls ≤ 3)
  match p.job.funding with
  | some .float =>
    if p.job.state = .ready ∧ usable ∧ p.job.acc.gross + p.job.acc.reserved ≤ 1000 * min amount Config.maxHold then
      p.adopt holdId amount cls lifetime
    else p
  | some .value => p
  | none => p
  | _ =>
    if p.job.state = .authorize then
      if usable then ({ p with job := p.job.takeHold holdId amount cls lifetime }).enterReady else p
    else if p.job.state.takesTopups && decide (p.job.holdId = some holdId) then p.topupGranted amount
    else p

/-- HOLD_DENY, or the own hold table's denial, for the open job (R23, R24, R32). -/
def Part.jobDeny (p : Part) (reason : Nat) : Part :=
  if p.job.state = .authorize then p.denyJob (.denied reason)
  else if p.job.accountFunded && p.job.state.takesTopups then p.topupDenied
  else p

/-- HOLD_GONE, or the own hold table's report, for the open job (R37). -/
def Part.jobGone (p : Part) (holdId : Nat) : Part :=
  if p.job.holdId ≠ some holdId then p
  else
    let lost := ({ p with job := p.job.clearTopup }).exhaust .holdLost
    match p.job.state with
    | .ready | .running | .paused => lost.endJob .holdLost
    | .jammed => lost.markDrain .holdLost
    | .draining => { lost with job := lost.job.endWith .holdLost }
    | .idle | .authorize | .settling => p

/-- An answer matches the cancelled-ask record (R26). -/
def Part.answersCancelled (p : Part) (source job : Nat) : Bool :=
  match p.settlement.cancelled with
  | none => false
  | some c => decide (c.home = source) && decide (c.job = job)

/-- The cancelled-ask record ends. -/
def Part.dropCancelled (p : Part) : Part := { p with settlement := { p.settlement with cancelled := none } }

/-- A grant answers a cancelled ask (R26): a zero settlement frees the hold. -/
def Part.cancelledGive (p : Part) (source holdId job : Nat) : Part :=
  match p.settlement.cancelled with
  | none => p
  | some c =>
    if c.due.isNone then
      p.requestSettlement
        { source := source, holdId := holdId, account := c.account, job := job, charge := 0, impressions := 0
          requester := .cancelledAsk job }
    else p.dropCancelled.assign .settlement [.putEntry c.home holdId c.account c.job 0 0 false true none]

/-- A grant is taken (R24, R26, R27, R32). -/
def Part.takeGive (p : Part) (source holdId job amount cls lifetime : Nat) : Part :=
  if p.answersJob source job then p.jobGive holdId amount cls lifetime
  else if p.answersCancelled source job then p.cancelledGive source holdId job
  else p

/-- A denial is taken (R24, R26, R32). -/
def Part.takeDeny (p : Part) (source job reason : Nat) : Part :=
  if p.answersJob source job then p.jobDeny reason
  else if p.answersCancelled source job then p.dropCancelled.releaseDeferred
  else p

/-- A report that a hold is gone is taken (R24, R37). -/
def Part.takeGone (p : Part) (source holdId job : Nat) : Part :=
  if p.answersJob source job then p.jobGone holdId else p

/-- SEND_FAILED for a frame of an ask, a top-up or a cancelled ask (R24, R26, R31, R147). -/
def Part.sendFailed (p : Part) (ticket : Nat) : Part :=
  if p.job.state = .authorize ∧ p.job.askFrame = some ticket then p.askAttemptEnded
  else if p.job.topupOutstanding ∧ p.job.topupFrame = some ticket then p.topupAttemptEnded
  else
    match p.settlement.cancelled with
    | none => p
    | some c => if c.frame = some ticket then p.dropCancelled.releaseDeferred else p

/-- CANCEL in AUTHORIZE (R26). -/
def Part.cancelAsk (p : Part) : Part :=
  let older := if p.settlement.cancelled.isSome then p.releaseDeferred else p
  let due := if p.job.funding = some .accountRemote then p.job.askDue else none
  let kept : CancelledAsk :=
    { job := p.job.number, home := p.job.home.getD 0, account := p.job.payer, due := due, frame := p.job.askFrame }
  (({ older with settlement := { older.settlement with cancelled := some kept } }).releaseJournal).clearJob

end Sys2Proof.Machine
end

