-- ==== Sys2Proof/Machine/Path.lean ====
section
/-! DEFINITION. The path monitor: feeds, sensor matching, deadlines, deliveries, jams and clears (R29, R39, R47 to R65). -/

namespace Sys2Proof.Machine

open Sys2Proof

/-! ### Sensors and stages (R47, R48) -/

/-- The covered state of a sensor (R48). -/
def PathMonitor.covered (m : PathMonitor) : Sensor → Bool
  | .reg => m.regCovered
  | .fuse => m.fuseCovered
  | .exit => m.exitCovered

/-- Set the covered state of a sensor (R48). -/
def PathMonitor.cover (m : PathMonitor) (sensor : Sensor) (b : Bool) : PathMonitor :=
  match sensor with
  | .reg => { m with regCovered := b }
  | .fuse => { m with fuseCovered := b }
  | .exit => { m with exitCovered := b }

/-- The stage of a sheet that covers a sensor (R47). -/
def Sensor.stage : Sensor → Stage
  | .reg => .atReg
  | .fuse => .atFuse
  | .exit => .atExit

/-- The stage just before a sheet covers a sensor (R52). -/
def Sensor.stageBefore : Sensor → Stage
  | .reg => .fed
  | .fuse => .toFuse
  | .exit => .toExit

/-- The place of a stage in the run from FED to AT_EXIT (R47). -/
def Stage.rank : Stage → Nat
  | .fed => 0
  | .atReg => 1
  | .toFuse => 2
  | .atFuse => 3
  | .toExit => 4
  | .atExit => 5

/-- The dwell limit of a media, ms (R46). -/
def dwellLimit (v : Values) (media : Nat) : Nat := v.dwell.getD media 0

/-- Change a part's path monitor. -/
def Part.withPath (p : Part) (m : PathMonitor) : Part := { p with path := m }

/-- Change the path list. -/
def Part.withSheets (p : Part) (sheets : List Sheet) : Part := { p with path := { p.path with sheets := sheets } }

/-! ### Spoiling and jams (R39, R57, R58, R59) -/

/-- A sheet belongs to the open job (R50). -/
def Part.owns (p : Part) (sheet : Sheet) : Bool := decide (sheet.owner = some p.job.number)

/-- Spoil a sheet of the list (R10, R58). -/
def Part.spoilSheet (p : Part) (sheet : Sheet) : Part :=
  let q :=
    if p.owns sheet then
      { p with
        job :=
          { p.job with
            spoiled := p.job.spoiled + 1
            acc := { p.job.acc with reserved := p.job.acc.reserved - sheet.reserve } } }
    else p
  q.raiseMeter (16 + sheet.media) 1

/-- States in which a fed sheet that caused a jam is the job's (R58). -/
def JobState.losesFeeds : JobState → Bool
  | .ready | .running | .jammed | .paused | .draining => true
  | .idle | .authorize | .settling => false

/-- States in which a sheet fed against a jammed path is the job's (R62). -/
def JobState.losesJammedFeeds : JobState → Bool
  | .ready | .jammed | .paused | .draining => true
  | .idle | .authorize | .running | .settling => false

/-- Spoil a fed sheet that is not tracked (R58, R62). -/
def Part.spoilFed (p : Part) (media : Nat) (ofJob : Bool) : Part :=
  let q := if ofJob then { p with job := { p.job with spoiled := p.job.spoiled + 1 } } else p
  q.raiseMeter (16 + media) 1

/-- The first index among sheets, with its copy and page (R59). -/
def Part.firstIndex (p : Part) (sheets : List Sheet) : Option (Nat × Nat × Nat) :=
  match sheets.findSome? Sheet.index with
  | none => none
  | some s =>
    match p.job.plan with
    | none => some (s, 0, 0)
    | some plan => some (s, (plan.place s).1, (plan.place s).2)

/-- Write a jam log entry; a ninth overwrites the oldest (R59). -/
def writeJam (log : List JamEntry) (e : JamEntry) : List JamEntry :=
  if log.length < 8 then log ++ [e] else log.drop 1 ++ [e]

/-- A jam is counted in the job, and A is set to D (R29, R39). -/
def Job.countJam (j : Job) (consecutive : Bool) : Job :=
  { j with
    jams := j.jams + 1, assigned := j.position
    consecutiveJams := if consecutive then j.consecutiveJams + 1 else j.consecutiveJams }

/-- The job takes a jam (R39). -/
def Part.jobJam (p : Part) : Part :=
  match p.job.state with
  | .running => ({ p with job := { p.job.countJam true with runOutDue := none } }).setJobState .jammed
  | .draining => ({ p with job := { p.job.countJam true with runOutDue := none, drainMark := true } }).setJobState .jammed
  | .ready | .paused => { p with job := p.job.countJam false }
  | .idle | .authorize | .jammed | .settling => p

/-- A jam declared with the path state CLEAR, in the order of R57. `fed` is the media of the fed sheet that caused it. -/
def Part.declareJam (p : Part) (kind : JamKind) (sensor : Option Sensor) (code fed : Option Nat) : Part :=
  let sheets := p.path.sheets
  let jammed := { p with permit := false, path := { p.path with jammed := true, sheets := [] } }
  let spoiled := sheets.foldl Part.spoilSheet jammed
  let all :=
    match fed with
    | none => spoiled
    | some media => spoiled.spoilFed media spoiled.job.state.losesFeeds
  let entry : JamEntry :=
    { kind := kind, sensor := sensor, code := code
      job := if p.job.state.ownsFeeds then some p.job.number else none
      first := p.firstIndex sheets
      spoiled := sheets.length + (if fed.isSome then 1 else 0)
      time := p.seconds }
  let logged := { all with path := { all.path with log := writeJam all.path.log entry } }
  logged.jobJam.raise .jam

/-! ### Feeds (R29, R49, R50, R51, R62) -/

/-- Count a feed: meter 24 unpermitted, meter 25 unowned (R51, R179). They are posted in this order, and before the spoiled-sheet
meter of a feed that is lost (DEDUCED, log entry 50). -/
def Part.countFeed (p : Part) : Part :=
  let q := if p.permit then p else p.raiseMeter 24 1
  if p.job.state.unowned then q.raiseMeter 25 1 else q

/-- Track a sheet of the open job (R8, R29, R50). -/
def Part.trackOwned (p : Part) (media : Nat) (c : Colour) (twoSided : Bool) : Part :=
  let j := p.job
  let reserve :=
    min (fullReserve p.config.values media c twoSided) (room j.amount j.acc.gross j.acc.reserved)
  let indexed := decide (j.state = .running) && decide (j.assigned < j.positions)
  let sheet : Sheet :=
    { owner := some j.number, index := if indexed then some j.assigned else none, media := media, colour := c
      twoSided := twoSided, reserve := reserve, stage := .fed, deadline := p.now + p.config.values.w1 }
  ({ p with
      job :=
        { j with
          acc := { j.acc with reserved := j.acc.reserved + reserve }
          assigned := if indexed then j.assigned + 1 else j.assigned } }).withSheets (p.path.sheets ++ [sheet])

/-- Track an unowned sheet (R50). -/
def Part.trackUnowned (p : Part) (media : Nat) (c : Colour) (twoSided : Bool) : Part :=
  p.withSheets
    (p.path.sheets ++
      [{ owner := none, index := none, media := media, colour := c, twoSided := twoSided, reserve := 0, stage := .fed
         deadline := p.now + p.config.values.w1 }])

/-- SHEET_FED (R49, R62). A feed of a sheet of the job sets the last activity time (R41), also one that causes a DOOR or OVERFEED jam,
whose sheet R58 counts as the job's (DEDUCED, log entry 48); a feed against a jammed path does not (R62). -/
def Part.feed (p : Part) (media : Nat) (c : Colour) (twoSided : Bool) : Part :=
  let q := if !p.path.jammed && p.job.state.ownsFeeds then p.countFeed.touchActivity else p.countFeed
  if q.path.jammed then q.spoilFed media q.job.state.losesJammedFeeds
  else if q.path.doorOpen then q.declareJam .door none none (some media)
  else if Config.pathPlaces ≤ q.path.sheets.length then q.declareJam .overfeed none none (some media)
  else if q.job.state.ownsFeeds then q.trackOwned media c twoSided
  else q.trackUnowned media c twoSided

/-! ### Clears (R39, R64, R65) -/

/-- The job takes the clear (R39, R65). -/
def Part.jobClear (p : Part) : Part :=
  if p.job.state = .jammed then
    if p.job.consecutiveJams = 3 then ({ p with job := p.job.endWith .jamLimit }).enterSettling
    else if p.job.drainMark then p.enterSettling
    else if p.job.position = p.job.positions then ({ p with job := p.job.endWith .done }).enterSettling
    else (p.setJobState .paused).touchActivity
  else p

/-- The clear test of a jammed path (R64). -/
def PathMonitor.isClear (m : PathMonitor) : Bool := !m.regCovered && !m.fuseCovered && !m.exitCovered && !m.doorOpen

/-- Make the clear test (R61, R64). -/
def Part.clearTest (p : Part) : Part :=
  if p.path.isClear then ({ p with path := { p.path with jammed := false } }).jobClear else p

/-! ### Sensor events (R52, R53, R54, R61) -/

/-- Change the first sheet of a list that passes a test. -/
def changeFirst (sheets : List Sheet) (test : Sheet → Bool) (change : Sheet → Sheet) : List Sheet :=
  match sheets with
  | [] => []
  | sheet :: rest => if test sheet then change sheet :: rest else sheet :: changeFirst rest test change

/-- A sheet at a stage. -/
def Sheet.isAt (sheet : Sheet) (st : Stage) : Bool := decide (sheet.stage = st)

/-- A sheet at a stage earlier than one. -/
def Sheet.isBefore (sheet : Sheet) (st : Stage) : Bool := decide (sheet.stage.rank < st.rank)

/-- A stray sensor event (R52, R53, R54). -/
def Part.stray (p : Part) (sensor : Sensor) : Part := p.declareJam .stray (some sensor) none none

/-- SENSOR_ON in CLEAR, the sensor already recorded covered (R52). -/
def Part.matchOn (p : Part) (sensor : Sensor) : Part :=
  let sheets := p.path.sheets
  if sheets.any (fun sheet => sheet.isAt sensor.stage) then p.stray sensor
  else
    match sheets.find? (fun sheet => sheet.isBefore sensor.stage) with
    | none => p.stray sensor
    | some sheet =>
      if sheet.stage = sensor.stageBefore then
        p.withSheets
          (changeFirst sheets (fun x => x.isBefore sensor.stage)
            (fun x => { x with stage := sensor.stage, deadline := p.now + dwellLimit p.config.values x.media }))
      else p.stray sensor

/-- SENSOR_ON (R48, R52, R61). -/
def Part.sensorOn (p : Part) (sensor : Sensor) : Part :=
  let q := p.withPath (p.path.cover sensor true)
  if q.path.jammed then q else q.matchOn sensor

/-- The sheet that covers REG or FUSE moves on (R53). -/
def Part.moveOn (p : Part) (sensor : Sensor) (next : Stage) (window : Nat) : Part :=
  if p.path.sheets.any (fun sheet => sheet.isAt sensor.stage) then
    p.withSheets
      (changeFirst p.path.sheets (fun sheet => sheet.isAt sensor.stage)
        (fun sheet => { sheet with stage := next, deadline := p.now + window }))
  else p.stray sensor

/-- The job takes the delivery of one of its sheets (R11, R29). -/
def Part.jobDelivery (p : Part) (sheet : Sheet) : Part :=
  let j := p.job
  let charged : Job := { j with acc := chargeSheet p.config.values j.acc sheet, lastActivity := p.now }
  let moved := if sheet.index.isSome then { charged with position := j.position + 1, consecutiveJams := 0 } else charged
  ({ p with job := moved }).postCheckpoint

/-- The sheet at EXIT is delivered (R54). -/
def Part.deliver (p : Part) : Part :=
  match p.path.sheets.find? (fun sheet => sheet.isAt .atExit) with
  | none => p.stray .exit
  | some sheet =>
    let q := p.withSheets (p.path.sheets.eraseP (fun x => x.isAt .atExit))
    let charged := if q.owns sheet then q.jobDelivery sheet else q
    charged.raiseMeter (2 * sheet.media + colourBit sheet.colour) (sheetImpressions sheet.twoSided)

/-- SENSOR_OFF in CLEAR, the sensor already recorded uncovered (R53, R54). -/
def Part.matchOff (p : Part) (sensor : Sensor) : Part :=
  match sensor with
  | .reg => p.moveOn .reg .toFuse p.config.values.w2
  | .fuse => p.moveOn .fuse .toExit p.config.values.w3
  | .exit => p.deliver

/-- SENSOR_OFF (R48, R53, R54, R61). -/
def Part.sensorOff (p : Part) (sensor : Sensor) : Part :=
  let q := p.withPath (p.path.cover sensor false)
  if q.path.jammed then q.clearTest else q.matchOff sensor

/-! ### Doors, faults, deadlines (R45, R55, R56, R61, R63) -/

/-- DOOR_OPEN (R56, R61). -/
def Part.openDoor (p : Part) : Part :=
  let q := p.withPath { p.path with doorOpen := true }
  if !q.path.jammed && (!q.path.sheets.isEmpty || decide (q.job.state = .running)) then q.declareJam .door none none none
  else q

/-- DOOR_CLOSED (R56, R61). -/
def Part.closeDoor (p : Part) : Part :=
  let q := p.withPath { p.path with doorOpen := false }
  if q.path.jammed then q.clearTest else q

/-- ENGINE_FAULT, and a garbled message with no code (R45, R56, R63). -/
def Part.engineStop (p : Part) (code : Option Nat) : Part :=
  if p.path.jammed then p else p.declareJam .engine none code none

/-- The jam of an expired deadline, by stage (R55). -/
def Stage.expiry : Stage → JamKind × Sensor
  | .fed => (.late, .reg)
  | .toFuse => (.late, .fuse)
  | .toExit => (.late, .exit)
  | .atReg => (.stuck, .reg)
  | .atFuse => (.stuck, .fuse)
  | .atExit => (.stuck, .exit)

/-- The deadline of an entry comes (R55). -/
def Part.deadline (p : Part) (place : Nat) : Part :=
  match p.path.sheets[place]? with
  | none => p
  | some sheet =>
    if p.path.jammed || decide (p.now < sheet.deadline) then p
    else p.declareJam sheet.stage.expiry.1 (some sheet.stage.expiry.2) none none

end Sys2Proof.Machine
end

