-- ==== Sys2Proof/Machine/Journal.lean ====
section
/-! DEFINITION. Posts that may wait, and the journal: taking a sequence, writing a record, losing one (R164, R171 to R174). -/

namespace Sys2Proof.Machine

open Sys2Proof

/-- What one step of a block's work comes to: the part after it and the steps that it adds, or that it must wait. -/
abbrev Progress := Option (Part × List Task)

/-- Make a post, or wait for a place (R164). -/
def Part.tryPost (p : Part) (w : Write) (notes : List Note) : Option Part :=
  if p.store.hasPlace w then some { p with store := p.store.post w notes } else none

/-- A step that is one post and nothing more. -/
def Part.justPost (p : Part) (w : Write) (notes : List Note) : Progress := (p.tryPost w notes).map (fun q => (q, []))

/-- A record that may be lost (R174). -/
def JournalBody.losable : JournalBody → Bool
  | .job _ => false
  | .orphan _ _ _ _ _ _ => true
  | .lapseDropped _ _ _ _ _ _ => true

/-- A record is handed to the journal (R172, R174). -/
def Part.handJournal (p : Part) (body : JournalBody) : Part × List Task :=
  if body.losable && decide (p.freeSlots < 1) then
    ({ p with journal := { p.journal with lost := saturate Config.max16 (p.journal.lost + 1) } }, [])
  else (p, [.journalCount body])

/-- The record takes its sequence, and the counter is posted (R172 steps 1 and 2). -/
def Part.stepJournalCount (p : Part) (body : JournalBody) : Progress :=
  let s := p.ledger.journalSequence + 1
  (p.tryPost (.counter .journalSequence s) []).map fun q =>
    (if body.losable then q else q.releaseJournal, [.journalPut s body])

/-- The write of a record to its ring position (R172 step 3). -/
def journalWrite (sequence : Nat) (body : JournalBody) : Write :=
  .journal (sequence % Config.journalSlots) { sequence := sequence, body := body }

/-- The record is posted to its ring position (R172 step 3). -/
def Part.stepJournalPut (p : Part) (sequence : Nat) (body : JournalBody) : Progress :=
  p.justPost (journalWrite sequence body) []

end Sys2Proof.Machine
end

