-- ==== Sys2Proof/Machine/Holds.lean ====
section
/-! DEFINITION. The hold table: asks, enlarging, keeping, eviction, the sweep, and the two operations of the apply procedure
(chapter 5). -/

namespace Sys2Proof.Machine

open Sys2Proof

/-! ### Records and held amounts (R85, R86, R87) -/

/-- What a slot adds to its account's held amount (R85, R86). -/
def activeAmount (r : HoldRecord) : Nat := if r.state = .active then r.amount else 0

/-- A record leaves the held amount (R86). -/
def Part.unhold (p : Part) (old : Option HoldRecord) : Part :=
  match old with
  | none => p
  | some r => p.setHeld r.account (p.held r.account - activeAmount r)

/-- A record joins the held amount (R86). -/
def Part.rehold (p : Part) (new : Option HoldRecord) : Part :=
  match new with
  | none => p
  | some r => p.setHeld r.account (p.held r.account + activeAmount r)

/-- Change a hold record: the post, and the held amount with it (R85, R86). -/
def Part.changeHold (p : Part) (slot : Nat) (value : Option HoldRecord) (notes : List Note) : Option Part :=
  (p.tryPost (.hold slot value) notes).map fun q => (q.unhold (tableGet p.ledger.holds slot)).rehold value

/-- The record with an id (R85). -/
def findHold (l : Ledger) (id : Nat) : Option (Nat × HoldRecord) := tableFind l.holds (fun r => decide (r.id = id))

/-- The record that a request belongs to (R93). -/
def ownHold (l : Ledger) (source holdId job : Nat) : Option (Nat × HoldRecord) :=
  match findHold l holdId with
  | some (slot, r) => if r.job = job ∧ r.station = source then some (slot, r) else none
  | none => none

/-- A step of the hold table's work that is to write a record naming an account: a grant that has been decided (R90). -/
def Task.namesAccount (account : Nat) : Task → Bool
  | .newHold _ a _ _ => a == account
  | .putHold _ r _ => r.account == account
  | _ => false

/-- Whether a record names an account, in any state, queued writes included (R101), and one that a decided grant has still to post
(DEDUCED, log entry 61). -/
def Part.holdNames (p : Part) (account : Nat) : Bool :=
  p.ledger.holds.any (fun e => decide (e.2.account = account)) ||
    p.store.work.any (fun w => w.tasks.any (Task.namesAccount account))

/-- The available amount of an account by number (R87): nothing when it has left the table (DEDUCED, log entry 75). -/
def Part.availableOf (p : Part) (account : Nat) : Nat :=
  match findAccount p.ledger account with
  | none => 0
  | some (_, a) => available a (p.held account)

/-- The class of an account by number (R92): a free value when it has left the table (DESIGN CHOICE, log entry 74). -/
def Part.classOf (p : Part) (account : Nat) : Nat :=
  match findAccount p.ledger account with
  | none => (Config.goneClass account).val
  | some (_, a) => a.cls

/-- Whether an account is BLOCKED (R90, R94): a free value when it has left the table (DESIGN CHOICE, log entry 74). -/
def Part.isBlocked (p : Part) (account : Nat) : Bool :=
  match findAccount p.ledger account with
  | none => Config.goneBlocked account
  | some (_, a) => a.blocked

/-! ### Answers (R92, R102) -/

/-- Answer HOLD_DENY to a source (R92, R102). -/
def Part.answerDeny (p : Part) (source job : Nat) (r : DenyReason) : Part :=
  if source = p.station then p.takeDeny source job r.code else p.sendFrame source (.holdDeny job r.code)

/-- Answer HOLD_GONE to a source (R95, R96, R102). -/
def Part.answerGone (p : Part) (source holdId job : Nat) : Part :=
  if source = p.station then p.takeGone source holdId job else p.sendFrame source (.holdGone holdId job)

/-- Answer HOLD_GIVE to a source, amount and class as they stand now (R92, R102). -/
def Part.answerGive (p : Part) (source slot holdId job : Nat) : Part :=
  match tableGet p.ledger.holds slot with
  | none => p
  | some r =>
    if r.id ≠ holdId then p
    else if source = p.station then p.takeGive source holdId job r.amount (p.classOf r.account) p.config.values.lifetime
    else p.sendFrame source (.holdGive holdId job r.amount (p.classOf r.account) p.config.values.lifetime)

/-! ### Opening a hold (R88 to R91) -/

/-- The counter moved on until it names no record (R88). -/
def nextHoldId (holds : Table HoldRecord) : Nat → Nat → Nat
  | 0, counter => counter
  | left + 1, counter =>
    let id := if Config.max16 ≤ counter then 1 else counter + 1
    if (tableFind holds (fun r => decide (r.id = id))).isSome then nextHoldId holds left id else id

/-- The LAPSED record to evict: smallest touched time, then lowest slot (R91). -/
def evictable (holds : Table HoldRecord) : Option (Nat × HoldRecord) :=
  holds.foldl
    (fun best e =>
      if e.2.state ≠ .lapsed then best
      else
        match best with
        | none => some e
        | some b => if e.2.touched < b.2.touched then some e else some b)
    none

/-- A LAPSE_DROPPED record (R171). -/
def lapseBody (r : HoldRecord) (cause : DropCause) : JournalBody :=
  .lapseDropped r.station r.job r.id r.account r.amount cause

/-- The record that makes an ask a repeat (R89). R95, R96 and R103 can make a second record of an ask ACTIVE; then it is the one in the
lowest slot (DESIGN CHOICE, log entry 60). -/
def repeatOf (l : Ledger) (source account job : Nat) : Option (Nat × HoldRecord) :=
  tableFind l.holds
    (fun r => decide (r.state = .active) && decide (r.account = account) && decide (r.job = job) && decide (r.station = source))

/-- The grant of an ask (R90 test 4). -/
def Part.askGrant (p : Part) (account wanted : Nat) : Nat := min (min wanted (p.availableOf account)) Config.maxHold

/-- An ask that is not a repeat (R90). An account whose slot's vacating still waits to be posted is in the table (R163, R164; DEDUCED, log
entry 61). -/
def Part.decideAsk (p : Part) (source account job wanted : Nat) : Part × List Task :=
  match findAccount p.ledger account with
  | none => (p.answerDeny source job .unknownAccount, [])
  | some (_, a) =>
    let grant := p.askGrant account wanted
    if a.blocked then (p.answerDeny source job .blocked, [])
    else if grant < p.config.values.minGrant then (p.answerDeny source job .noCredit, [])
    else if (lowestFree p.ledger.holds 0 Config.holdSlots).isSome then (p, [.newHold source account job grant])
    else
      match evictable p.ledger.holds with
      | none => (p.answerDeny source job .holdTableFull, [])
      | some (slot, r) => (p, [.journal (lapseBody r .evicted), .dropHold slot, .newHold source account job grant])

/-- A write of a hold record is queued (R89). -/
def Part.holdQueued (p : Part) (slot : Nat) : Bool := p.store.queue.any (fun post => decide (post.write.name = .hold slot))

/-- HOLD_ASK, and the local ask (R89, R90). A repeat is answered at once when no write of its record is queued before it, and otherwise
at the completion of its own post. Its own post is not counted among the queued writes, and the answer does not wait for a place for
that post (DEDUCED, log entry 68). -/
def Part.takeAsk (p : Part) (source account job wanted : Nat) : Part × List Task :=
  if job = 0 then (p, [])
  else
    match repeatOf p.ledger source account job with
    | some (slot, r) =>
      let touched : HoldRecord := { r with touched := p.seconds }
      if p.holdQueued slot then (p, [.putHold slot touched [.grant source slot r.id job]])
      else (p.answerGive source slot r.id job, [.putHold slot touched []])
    | none => p.decideAsk source account job wanted

/-- Take an id and make the record (R88, R90). Its touched time is that of this step, also when the step comes after a wait (DEDUCED,
log entry 55). -/
def Part.makeHold (p : Part) (source account job grant : Nat) : Part × List Task :=
  match lowestFree p.ledger.holds 0 Config.holdSlots with
  | none => (p, [])
  | some slot =>
    let id := nextHoldId p.ledger.holds 65 p.ledger.holdId
    let record : HoldRecord :=
      { id := id, account := account, station := source, job := job, amount := grant, state := .active, touched := p.seconds }
    (p, [.putHoldId id, .putHold slot record [.grant source slot id job]])

/-! ### Enlarging and keeping (R94, R95, R96) -/

/-- HOLD_MORE for a record that is ACTIVE, or `restored` just now (R94, R95). `spare` is what the account has available. -/
def Part.decideMore (p : Part) (source increment slot spare : Nat) (r : HoldRecord) (restored : Bool) : Part × List Task :=
  let keep := if restored then [Task.putHold slot r []] else []
  let grant := min (min increment spare) (Config.maxHold - r.amount)
  if p.isBlocked r.account then (p.answerDeny source r.job .blocked, keep)
  else if grant < p.config.values.minGrant then (p.answerDeny source r.job .noCredit, keep)
  else
    (p, [.putHold slot { r with amount := r.amount + grant, touched := p.seconds } [.grant source slot r.id r.job]])

/-- HOLD_MORE, and the local request for more (R94, R95). -/
def Part.takeMore (p : Part) (source holdId job increment : Nat) : Part × List Task :=
  if job = 0 then (p, [])
  else
    match ownHold p.ledger source holdId job with
    | none => (p.answerGone source holdId job, [])
    | some (slot, r) =>
      let spare := p.availableOf r.account
      match r.state with
      | .active => p.decideMore source increment slot spare r false
      | .settling => (p.answerGone source holdId job, [])
      | .lapsed =>
        if r.amount + increment ≤ spare then
          p.decideMore source increment slot (spare - r.amount) { r with state := .active, touched := p.seconds } true
        else (p.answerGone source holdId job, [])

/-- HOLD_KEEP, and the local keep (R96). -/
def Part.takeKeep (p : Part) (source holdId job : Nat) : Part × List Task :=
  if job = 0 then (p, [])
  else
    match ownHold p.ledger source holdId job with
    | none => (p.answerGone source holdId job, [])
    | some (slot, r) =>
      match r.state with
      | .active => (p, [.putHold slot { r with touched := p.seconds } []])
      | .settling => (p.answerGone source holdId job, [])
      | .lapsed =>
        if r.amount ≤ p.availableOf r.account then
          (p, [.putHold slot { r with state := .active, touched := p.seconds } []])
        else (p.answerGone source holdId job, [])

/-! ### The sweep (R97, R98, R99) -/

/-- What the sweep does at a slot (R97, R98, R99). -/
def Part.sweepTasks (p : Part) (slot : Nat) : List Task :=
  match tableGet p.ledger.holds slot with
  | none => []
  | some r =>
    match r.state with
    | .settling => []
    | .active =>
      if p.config.values.lifetime ≤ p.seconds - r.touched then
        [.putHold slot { r with state := .lapsed, touched := p.seconds } []]
      else []
    | .lapsed =>
      if p.config.values.grace * 3600 ≤ p.seconds - r.touched then [.journal (lapseBody r .sweep), .dropHold slot] else []

/-- When the next visit is due: every 250 ms, and no visit made up for a wait (R97, R104). -/
def nextSweep (due now : Nat) : Nat := if now < due + Config.sweepMs then due + Config.sweepMs else now + Config.sweepMs

/-- The sweep's pointer advances (R97). -/
def Part.advanceSweep (p : Part) : Part :=
  { p with holds := { p.holds with pointer := (p.holds.pointer + 1) % Config.holdSlots } }

/-- A visit of the sweep (R97). Its pointer advances when the visit's own posts have been made, and does not while one of them waits
(R104, log entry 56). -/
def Part.sweepVisit (p : Part) (due : Nat) : Part :=
  let q := { p with holds := { p.holds with due := some (nextSweep due p.now) } }
  match p.sweepTasks p.holds.pointer with
  | [] => q.advanceSweep
  | tasks => q.assign .hold (tasks ++ [.advanceSweep])

/-! ### The two operations of the apply procedure (R100) -/

/-- The post that marks a hold settling (R100). -/
def Part.settlingPost (p : Part) (holdId : Nat) : Option (Nat × HoldRecord) :=
  (findHold p.ledger holdId).map (fun e => (e.1, { e.2 with state := .settling, touched := p.seconds }))

/-- Mark settling; no record, no change (R100). -/
def Part.stepMarkSettling (p : Part) (holdId : Nat) : Progress :=
  match p.settlingPost holdId with
  | none => some (p, [])
  | some (slot, r) => (p.changeHold slot (some r) []).map (fun q => (q, []))

/-- Remove; no record, no change (R100). -/
def Part.stepRemoveHold (p : Part) (holdId : Nat) (notes : List Note) : Progress :=
  match findHold p.ledger holdId with
  | none => some (p, [])
  | some (slot, _) => (p.changeHold slot none notes).map (fun q => (q, []))

end Sys2Proof.Machine
end

