-- ==== Sys2Proof/Machine/Accounts.lean ====
section
/-! DEFINITION. The account table: office frames, debits and the close walk (chapter 6). -/

namespace Sys2Proof.Machine

open Sys2Proof

/-! ### Answers (R110) -/

/-- Answer an office frame, with the record as it stands now (R110, R113). -/
def Part.answerOffice (p : Part) (dest account : Nat) (result : AccountResult) : Part :=
  match findAccount p.ledger account with
  | none => p.sendFrame dest (.acctAnswer account result.code 0 0)
  | some (_, a) =>
    if result = .range then p.sendFrame dest (.acctAnswer account result.code 0 0)
    else p.sendFrame dest (.acctAnswer account result.code (available a (p.held account)) a.spent)

/-! ### Office frames (R111, R112, R113) -/

/-- The number that the 32 bits of a frame's value stand for in two's complement (section 12.1). -/
def signed32 (value : Nat) : Int := if value < 2147483648 then (value : Int) else (value : Int) - 4294967296

/-- The limit or balance of an ACCT_PUT (R111, section 12.1). -/
def creditOf (kind value : Nat) : Credit := if kind = 0 then .charge value else .prepaid (signed32 value)

/-- Whether a kind code names the kind of a record (R111). -/
def Credit.isKind (c : Credit) (kind : Nat) : Bool :=
  match c with
  | .charge _ => kind == 0
  | .prepaid _ => kind == 1

/-- A PREPAID balance of 0 or more clears overdrawn (R111, R112, R115). -/
def Account.settleOverdrawn (a : Account) : Account :=
  match a.credit with
  | .charge _ => a
  | .prepaid balance => if 0 ≤ balance then { a with overdrawn := false } else a

/-- Fields of an ACCT_PUT out of range (R111 case 1). -/
def putOutOfRange (account kind cls state value : Nat) : Bool :=
  decide (account = 0) || decide (1 < kind) || decide (3 < cls) || decide (2 < state) ||
    (decide (kind = 0) && decide (10000000 < value))

/-- A record as ACCT_PUT creates it (R106, R111). -/
def newAccount (number kind cls state value period : Nat) : Account where
  number := number
  credit := creditOf kind value
  cls := cls
  blocked := state == 1
  spent := 0
  lastSpent := 0
  impressions := 0
  overdrawn := false
  closedPeriod := period
  lastApply := 0

/-- A record as ACCT_PUT changes it (R111 case 6). -/
def Account.changed (a : Account) (kind cls state value : Nat) : Account :=
  ({ a with credit := creditOf kind value, cls := cls, blocked := state == 1 }).settleOverdrawn

/-- Vacate an account's slot, or answer IN_USE when a hold names the account (R101, R111 cases 3 and 4). The question is asked at the
event of the post, and while the post waits a hold that comes to name the account ends the wait with the refusal (DEDUCED, log entry
61). -/
def Part.stepVacate (p : Part) (slot account source : Nat) : Progress :=
  if p.holdNames account then some (p.answerOffice source account .inUse, [])
  else p.justPost (.account slot .vacated) [.answer source account .ok]

/-- ACCT_PUT (R111). -/
def Part.takePut (p : Part) (source account kind cls state value : Nat) : Part × List Task :=
  if putOutOfRange account kind cls state value then (p.answerOffice source account .range, [])
  else
    match findAccount p.ledger account with
    | none =>
      if state = 2 then (p.answerOffice source account .unknownAccount, [])
      else
        match insertionSlot p.ledger account with
        | none => (p.answerOffice source account .tableFull, [])
        | some slot =>
          (p,
            [.putAccount slot (.used (newAccount account kind cls state value p.ledger.period.current))
              [.answer source account .created]])
    | some (slot, a) =>
      if state = 2 then (p, [.vacate slot account source])
      else if !a.credit.isKind kind then (p.answerOffice source account .wrongKind, [])
      else (p, [.putAccount slot (.used (a.changed kind cls state value)) [.answer source account .ok]])

/-- A PREPAID record with money paid in (R112). -/
def Account.toppedUp (a : Account) (balance : Int) (amount : Nat) : Account :=
  ({ a with credit := .prepaid (min (balance + (amount : Int)) 2147483647) }).settleOverdrawn

/-- ACCT_TOPUP (R112). -/
def Part.takeTopup (p : Part) (source account amount : Nat) : Part × List Task :=
  if amount = 0 ∨ 2147483647 < amount then (p.answerOffice source account .range, [])
  else
    match findAccount p.ledger account with
    | none => (p.answerOffice source account .unknownAccount, [])
    | some (slot, a) =>
      match a.credit with
      | .charge _ => (p.answerOffice source account .wrongKind, [])
      | .prepaid balance => (p, [.putAccount slot (.used (a.toppedUp balance amount)) [.answer source account .ok]])

/-- ACCT_QUERY (R113). -/
def Part.takeQuery (p : Part) (source account : Nat) : Part :=
  match findAccount p.ledger account with
  | none => p.answerOffice source account .unknownAccount
  | some (_, a) => p.answerOffice source account (if a.overdrawn then .overdrawn else .ok)

/-! ### Debits (R114, R115) -/

/-- A balance or limit after a debit (R114). -/
def Credit.debited (c : Credit) (charge : Nat) : Credit :=
  match c with
  | .charge limit => .charge limit
  | .prepaid balance => .prepaid (max (balance - (charge : Int)) (-2147483648))

/-- The overdrawn test, then the debit (R114, R115). -/
def Account.debited (a : Account) (held charge impressions sequence : Nat) : Account :=
  { a with
    overdrawn := a.overdrawn || decide (available a held < charge)
    spent := saturate Config.max32 (a.spent + charge)
    credit := a.credit.debited charge
    impressions := saturate Config.max32 (a.impressions + impressions)
    lastApply := sequence }

/-- The debit of the settlement being applied: the slot and its new record, overdrawn tested with the held amount as it stands (R114,
R115); before R103 step 3 that is 0 (DESIGN CHOICE, log entry 54). -/
def Part.debitOf (p : Part) (s : Settlement) : Option (Nat × Account) :=
  (findAccount p.ledger s.account).map fun e =>
    (e.1, e.2.debited (p.held s.account) s.charge s.impressions p.settlement.sequence)

/-! ### The close walk (R116 to R121) -/

/-- PERIOD_CLOSE or ANNOUNCE (R116, R119, R120). -/
def Part.takeClose (p : Part) (number : Nat) : Part × List Task :=
  let period := p.ledger.period
  if number ≤ period.current then (p, [])
  else if !period.walking then (p, [.startWalk number])
  else
    match p.accounts.pendingClose with
    | none => ({ p with accounts := { p.accounts with pendingClose := some number } }, [])
    | some waiting =>
      if waiting < number then ({ p with accounts := { p.accounts with pendingClose := some number } }, []) else (p, [])

/-- A walk starts: the period record is posted, then slots are visited (R116). -/
def Part.stepStartWalk (p : Part) (number : Nat) : Progress :=
  (p.tryPost (.period { current := number, walking := true }) []).map fun q =>
    ({ q with accounts := { q.accounts with pointer := 0 } }, [.walk])

/-- Whether the walk carries a slot (R117). -/
def carries (current : Nat) (slot : AccountSlot) : Bool :=
  match slot with
  | .vacated => false
  | .used a => decide (a.closedPeriod < current)

/-- A record carried into the current period (R117). -/
def Account.carried (a : Account) (current : Nat) : Account :=
  { a with
    lastSpent := a.spent, spent := 0, impressions := 0, closedPeriod := current
    overdrawn :=
      match a.credit with
      | .charge _ => false
      | .prepaid _ => a.overdrawn }

/-- The first slot at or after a place that the walk carries (R117). -/
def nextCarried (slots : Table AccountSlot) (pointer current : Nat) : Option Nat :=
  (slots.find? (fun e => decide (pointer ≤ e.1) && decide (e.1 < Config.accountSlots) && carries current e.2)).map Prod.fst

/-- Visit slots up to the next one to carry (R117). -/
def Part.visitSlots (p : Part) : Part × List Task :=
  if 4 ≤ p.accounts.queued || !p.ledger.period.walking then (p, [])
  else
    match nextCarried p.ledger.accounts p.accounts.pointer p.ledger.period.current with
    | some slot => ({ p with accounts := { p.accounts with pointer := slot } }, [.carry])
    | none =>
      ({ p with accounts := { p.accounts with pointer := Config.accountSlots } },
        if p.accounts.queued = 0 then [.endWalk] else [])

/-- The write that carries the slot at the walk pointer (R117). -/
def Part.carryOf (p : Part) : Option Account :=
  match tableGet p.ledger.accounts p.accounts.pointer with
  | some (.used a) => some (a.carried p.ledger.period.current)
  | _ => none

/-- Carry the slot at the walk pointer, and go on (R117). -/
def Part.stepCarry (p : Part) : Progress :=
  match p.carryOf with
  | none => some ({ p with accounts := { p.accounts with pointer := p.accounts.pointer + 1 } }, [.walk])
  | some a =>
    (p.tryPost (.account p.accounts.pointer (.used a)) [.walk]).map fun q =>
      ({ q with accounts := { q.accounts with pointer := p.accounts.pointer + 1, queued := p.accounts.queued + 1 } }, [.walk])

/-- The walk ends, and a pending close starts (R117, R119). -/
def Part.stepEndWalk (p : Part) : Progress :=
  (p.tryPost (.period { current := p.ledger.period.current, walking := false }) []).map fun q =>
    match q.accounts.pendingClose with
    | none => (q, [])
    | some number =>
      ({ q with accounts := { q.accounts with pendingClose := none } },
        if p.ledger.period.current < number then [.startWalk number] else [])

end Sys2Proof.Machine
end

