-- ==== Sys2Proof/Machine/Settle.lean ====
section
/-! DEFINITION. The settlement unit: the apply procedure, the deferred list and its sending (chapter 7). -/

namespace Sys2Proof.Machine

open Sys2Proof

/-! ### The apply procedure (R130 to R137) -/

/-- A float settlement's job number is newer than the mark, 0 standing for "none" (R130). -/
def floatNewer (mark job : Nat) : Bool :=
  decide (mark = 0) ||
    (decide (1 ≤ (job + 65535 - mark) % 65535) && decide ((job + 65535 - mark) % 65535 ≤ 32767))

/-- A settlement as the apply procedure identifies it (R133). -/
inductive Identified where
  | duplicate
  /-- with the account that is debited -/
  | found (settlement : Settlement)
deriving DecidableEq, Repr

/-- Identify a settlement (R133). A hold settlement has the account of its hold record, for an orphan's record too (R134; R171 says the
account named by the settlement: DEDUCED, log entry 67). -/
def identify (l : Ledger) (s : Settlement) : Identified :=
  if s.holdId = 0 then
    if floatNewer (countGet l.marks s.source) s.job then .found s else .duplicate
  else
    match ownHold l s.source s.holdId s.job with
    | none => .duplicate
    | some (_, r) => .found { s with account := r.account }

/-- Change the settlement unit's volatile state. -/
def Part.withSettlement (p : Part) (u : SettlementUnit) : Part := { p with settlement := u }

/-- Journal status of a job settled locally (R138). -/
def localStatus : AckResult → JournalStatus
  | .applied => .paid
  | .duplicate => .dropped
  | .orphan => .orphan

/-- Count an acknowledgement's result (R128, R129). -/
def SettlementUnit.countAck (u : SettlementUnit) (r : AckResult) : SettlementUnit :=
  match r with
  | .applied => { u with applied := saturate Config.max16 (u.applied + 1) }
  | .duplicate => { u with duplicate := saturate Config.max16 (u.duplicate + 1) }
  | .orphan => { u with orphan := saturate Config.max16 (u.orphan + 1) }

/-- The entry with a number (R124). -/
def findEntry (l : Ledger) (number : Nat) : Option (Nat × DeferredEntry) :=
  tableFind l.deferred (fun e => decide (e.number = number))

/-- A matching acknowledgement is taken, its steps in the order of R128: the entry leaves flight; its removal is posted, and with the
post float outstanding falls and the result is counted (log entry 51); the next entry for the home comes into flight. -/
def Part.acknowledge (p : Part) (e : DeferredEntry) (r : AckResult) : Part :=
  (p.withSettlement
    { p.settlement with flights := p.settlement.flights.filter (fun f => decide (f.home ≠ e.home)) }).assign
    .settlement [.removeEntry e.number r, .intoFlight e.home]

/-- The result goes to who asked for it (R137, R138). -/
def Part.reportSettlement (p : Part) (s : Settlement) (r : AckResult) : Part :=
  match s.requester with
  | .remote => p.sendFrame s.source (.settleAck s.holdId s.job r.code)
  | .job => p.completeHandOff (localStatus r)
  | .cancelledAsk job =>
    if p.answersCancelled s.source job then p.dropCancelled.releaseDeferred else p
  | .entry number =>
    match findEntry p.ledger number with
    | none => p
    | some (_, e) => p.acknowledge e r
  | .checkpoint => p.assign .settlement [.settleCheckpoint (localStatus r)]

/-- The ORPHAN record of a settlement (R134, R171; log entry 67). -/
def orphanBody (s : Settlement) : JournalBody := .orphan s.source s.job s.holdId s.account s.charge s.impressions

/-- A settlement that other stations sent is journalled when it is an orphan; a local one is not (R134, R138). -/
def orphanTasks (s : Settlement) : List Task := if s.requester = .remote then [.journal (orphanBody s)] else []

/-- Enter a stage of the apply procedure with its settlement (R132). -/
def Part.enterStage (p : Part) (st : ApplyStage) (s : Settlement) : Part :=
  p.withSettlement { p.settlement with stage := st, current := some s }

/-- The apply record of a settlement (R131, R135). -/
def applyRecordOf (sequence : Nat) (s : Settlement) : ApplyRecord where
  sequence := sequence
  holdId := if s.holdId = 0 then none else some s.holdId
  station := s.source
  job := s.job
  account := s.account
  charge := s.charge
  impressions := s.impressions

/-- An orphan (R134). CLOSING is entered at the decision, also when its posts wait (DEDUCED, log entry 78), and ends with the write
of the mark or the removal, also when the ORPHAN record still waits for the journal (R172; DEDUCED, log entry 77). -/
def Part.startOrphan (p : Part) (s : Settlement) : Part × List Task :=
  let done := [Note.applyClosed .orphan]
  (p.enterStage .closing s,
    (if s.holdId = 0 then [Task.putMark s.source s.job done] else [.markSettling s.holdId, .removeHold s.holdId done]) ++
      orphanTasks s)

/-- RECORDING (R135), entered at the decision, also when its posts wait for a place (DEDUCED, log entry 78). -/
def Part.startApply (p : Part) (s : Settlement) : Part × List Task :=
  let sequence := p.ledger.applySequence + 1
  let q := p.enterStage .recording s
  (q.withSettlement { q.settlement with sequence := sequence },
    (if s.holdId = 0 then [] else [Task.markSettling s.holdId]) ++
      [.putApplySequence sequence, .putApply (applyRecordOf sequence s)])

/-- Frames that the apply procedure takes (R142). -/
def Message.isSettle : Message → Bool
  | .settle _ _ _ _ _ => true
  | .settleAck _ _ _ | .holdGive _ _ _ _ _ | .holdDeny _ _ | .holdGone _ _ | .acctAnswer _ _ _ _ => false
  | .holdMore _ _ _ | .holdAsk _ _ _ | .holdKeep _ _ | .acctPut _ _ _ _ _ | .acctTopup _ _ => false
  | .acctQuery _ | .periodClose _ | .announce _ | .tally _ _ _ _ _ => false

/-- The procedure is FREE again: with a SETTLE and a local request waiting either is taken first (R132, log entry 10); the SETTLE is
taken by its own command. -/
def Part.returnFree (p : Part) : Part × List Task :=
  if p.serving && p.line.inbound.any (fun f => f.message.isSettle) && !p.settlement.requests.isEmpty then
    (p.withSettlement { p.settlement with turns := p.settlement.turns + 1 },
      if Config.frameFirst p.settlement.turns then [] else [.nextRequest])
  else (p, [.nextRequest])

/-- Decide a settlement (R133, R134, R135). -/
def Part.decideSettlement (p : Part) (s : Settlement) : Part × List Task :=
  match identify p.ledger s with
  | .duplicate => (p.reportSettlement s .duplicate).returnFree
  | .found t => if (findAccount p.ledger t.account).isNone then p.startOrphan t else p.startApply t

/-- Whether a work is a settlement that is taken and not decided yet. -/
def Work.decides (w : Work) : Bool :=
  match w.tasks with
  | .decide _ :: _ => true
  | _ => false

/-- Take the oldest local request, if the procedure is FREE and has taken no other (R132). It is decided as a work of its own, which
waits while the hold table waits (R102, R104) and leaves the sending side free (log entry 64). -/
def Part.nextRequest (p : Part) : Part × List Task :=
  match p.settlement.stage, p.settlement.requests with
  | .free, s :: rest =>
    if p.store.work.any Work.decides then (p, [])
    else ((p.withSettlement { p.settlement with requests := rest }).assign .settlement [.decide s], [])
  | _, _ => (p, [])

/-- The steps of CLOSING: the hold goes or the mark rises, then the apply record is cleared (R135). -/
def closingTasks (s : Settlement) (r : AckResult) : List Task :=
  [if s.holdId = 0 then .putMark s.source s.job [] else .removeHold s.holdId []] ++
    (if r = .orphan then orphanTasks s else []) ++ [.clearApply [.applyClosed r]]

/-- CLOSING (R135). -/
def Part.enterClosing (p : Part) (r : AckResult) : Part :=
  match p.settlement.current with
  | none => p
  | some s => (p.enterStage .closing s).assign .settlement (closingTasks s r)

/-- DEBITING: the apply record is stored, and the debit is handed over (R135). -/
def Part.enterDebiting (p : Part) : Part :=
  match p.settlement.current with
  | none => p
  | some s => (p.enterStage .debiting s).assign .account [.debit]

/-- The apply ends: its result is sent or reported, and the procedure is FREE (R134, R135). -/
def Part.applyDone (p : Part) (r : AckResult) : Part :=
  match p.settlement.current with
  | none => p
  | some s =>
    let q := ((p.withSettlement { p.settlement with stage := .free, current := none }).reportSettlement s r).returnFree
    q.1.assign .settlement q.2

/-- The debit, at the account table; "no account" makes an orphan (R114, R135). When its post must wait, the lookup and the overdrawn
test are those of the event of the post (R115; DEDUCED, log entry 62). -/
def Part.stepDebit (p : Part) : Progress :=
  match p.settlement.current with
  | none => some (p, [])
  | some s =>
    match p.debitOf s with
    | none => some (p.enterClosing .orphan, [])
    | some (slot, a) => p.justPost (.account slot (.used a)) [.debited]

/-! ### The deferred list (R124 to R128) -/

/-- The number of a new entry (R124). -/
def nextEntryNumber (l : Ledger) : Nat := (l.deferred.map (fun e => e.2.number)).foldl max 0 + 1

/-- Float outstanding when an entry is posted: the H of a FLOAT job leaves it, and the F of an entry with hold id 0 enters it (R82,
R125; log entry 52 for an ACCOUNT_REMOTE job that was given hold id 0). -/
def floatAfterEntry (outstanding holdId charge : Nat) (float : Option Nat) : Nat :=
  outstanding - float.getD 0 + (if holdId = 0 then charge else 0)

/-- Write an entry (R125). -/
def Part.stepPutEntry (p : Part) (home holdId account job charge impressions : Nat) (forJob reserved : Bool)
    (float : Option Nat) : Progress :=
  match p.deferredSlot with
  | none => none
  | some slot =>
    let number := nextEntryNumber p.ledger
    let e : DeferredEntry :=
      { number := number, home := home, holdId := holdId, account := account, job := job, charge := charge
        impressions := impressions, attempts := 0 }
    (p.tryPost (.deferred slot (some e)) [.entryStored number forJob]).map fun q =>
      let r := if reserved then q.releaseDeferred else q
      (r.withSettlement
          { r.settlement with floatOutstanding := floatAfterEntry r.settlement.floatOutstanding holdId charge float }, [])

/-- The entry of a slot is eligible once its own write has completed (R125). A slot is not given again before the removal of its
entry is stored (R124), so what is stored there under the entry's number is that entry. -/
def Part.isEligible (p : Part) (slot number : Nat) : Bool :=
  match tableGet p.store.stored.deferred slot with
  | none => false
  | some x => decide (x.number = number)

/-- Of two entries, the one with the smaller number. -/
def olderEntry (best : Option DeferredEntry) (e : DeferredEntry) : Option DeferredEntry :=
  match best with
  | none => some e
  | some b => if e.number < b.number then some e else some b

/-- The oldest eligible entry for a home (R126). -/
def Part.oldestFor (p : Part) (home : Nat) : Option DeferredEntry :=
  ((p.ledger.deferred.filter (fun e => decide (e.2.home = home) && p.isEligible e.1 e.2.number)).map Prod.snd).foldl
    olderEntry none

/-- The entry in flight for a home (R126). -/
def Part.flightFor (p : Part) (home : Nat) : Option Flight := p.settlement.flights.find? (fun f => decide (f.home = home))

/-- The local settlement of an entry whose home is this station (R126, R138). -/
def entrySettlement (station : Nat) (e : DeferredEntry) : Settlement where
  source := station
  holdId := e.holdId
  account := e.account
  job := e.job
  charge := e.charge
  impressions := e.impressions
  requester := .entry e.number

/-- An entry comes into flight (R126). -/
def Part.intoFlight (p : Part) (home : Nat) : Part × List Task :=
  if !p.serving || (p.flightFor home).isSome then (p, [])
  else
    match p.oldestFor home with
    | none => (p, [])
    | some e =>
      let flight : Flight := { home := home, number := e.number, slow := false, sends := 0, due := p.now }
      let q := p.withSettlement { p.settlement with flights := p.settlement.flights ++ [flight] }
      if home = p.station then (q.requestSettlement (entrySettlement p.station e), []) else (q, [.send home])

/-- A flight after a send, which restarts the timer of its phase. A send of a heard report (`heard`) leaves a timer that has already
run out to its own send: each makes one (R126, log entry 58). -/
def Flight.sent (f : Flight) (now : Nat) (heard : Bool) : Flight :=
  if f.slow then { f with due := if heard && decide (f.due ≤ now) then f.due else now + Config.slowMs }
  else { f with sends := f.sends + 1, due := now + Config.attemptMs }

/-- Put a flight in place of its home's. -/
def SettlementUnit.setFlight (u : SettlementUnit) (f : Flight) : SettlementUnit :=
  { u with flights := u.flights.map (fun g => if g.home = f.home then f else g) }

/-- The SETTLE of an entry (R126). -/
def settleMessage (e : DeferredEntry) : Message := .settle e.holdId e.account e.job e.charge e.impressions

/-- Send the entry in flight for a home (R126). -/
def Part.sendEntry (p : Part) (home : Nat) (heard : Bool) : Part × List Task :=
  match p.flightFor home with
  | none => (p, [])
  | some f =>
    match findEntry p.ledger f.number with
    | none => (p, [])
    | some (_, e) =>
      ((p.withSettlement (p.settlement.setFlight (f.sent p.now heard))).sendFrame home (settleMessage e), [.countSend e.number])

/-- The post of an entry's raised attempts (R126). -/
def Part.countPost (p : Part) (number : Nat) : Option (Nat × DeferredEntry) :=
  (findEntry p.ledger number).map (fun e => (e.1, { e.2 with attempts := saturate Config.max16 (e.2.attempts + 1) }))

/-- Raise an entry's attempts (R126). -/
def Part.stepCountSend (p : Part) (number : Nat) : Progress :=
  match p.countPost number with
  | none => some (p, [])
  | some (slot, e) => p.justPost (.deferred slot (some e)) []

/-- What an acknowledged entry leaves behind: float outstanding falls by its F when its hold id is 0, and the result is counted (R82,
R128 steps 3 and 4). -/
def SettlementUnit.settleEntry (u : SettlementUnit) (e : DeferredEntry) (r : AckResult) : SettlementUnit :=
  ({ u with
      floatOutstanding := if e.holdId = 0 then u.floatOutstanding - e.charge else u.floatOutstanding }).countAck r

/-- Remove an acknowledged entry (R128 steps 2 to 4). -/
def Part.stepRemoveEntry (p : Part) (number : Nat) (r : AckResult) : Progress :=
  match findEntry p.ledger number with
  | none => some (p, [])
  | some (slot, e) =>
    (p.tryPost (.deferred slot none) []).map fun q => (q.withSettlement (q.settlement.settleEntry e r), [])

/-- An entry's write has completed (R123, R125, R126). -/
def Part.entryStored (p : Part) (number : Nat) (forJob : Bool) : Part :=
  let q := if forJob then p.completeHandOff .deferred else p
  match findEntry q.ledger number with
  | none => q
  | some (_, e) => q.assign .settlement [.intoFlight e.home]

/-- The quick phase's timer of an entry in flight runs out (R126). -/
def Part.quickExpiry (p : Part) (home : Nat) : Part :=
  match p.flightFor home with
  | none => p
  | some f =>
    if f.slow || decide (p.now < f.due) || decide (home = p.station) then p
    else if f.sends < 3 then p.assign .settlement [.send home]
    else p.withSettlement (p.settlement.setFlight { f with slow := true, due := p.now + Config.slowMs })

/-- The slow phase's timer of an entry in flight runs out (R126). -/
def Part.slowExpiry (p : Part) (home : Nat) : Part :=
  match p.flightFor home with
  | none => p
  | some f =>
    if !f.slow || decide (p.now < f.due) || decide (home = p.station) then p else p.assign .settlement [.send home]

/-- A send of the entry in flight for a station, at this event: the SETTLE, then the post of the raised attempts, which waits when it
finds no place (R126, R155, R164). -/
def Part.sendAtOnce (p : Part) (station number : Nat) : Part :=
  let q := (p.sendEntry station true).1
  match q.stepCountSend number with
  | some r => r.1
  | none => q.assign .settlement [.countSend number]

/-- A heard report: a slow-phase entry for the station is sent at once, before the frame is accepted, unless the unit waits on a post
(R125, R126, R145, R155, log entries 16 and 64). -/
def Part.heardReport (p : Part) (station : Nat) : Part :=
  match p.flightFor station with
  | none => p
  | some f => if f.slow && !p.sendingWaits then p.sendAtOnce station f.number else p

/-- A SETTLE_ACK is taken (R128). -/
def Part.takeAck (p : Part) (source holdId job result : Nat) : Part :=
  match p.flightFor source with
  | none => p
  | some f =>
    match findEntry p.ledger f.number with
    | none => p
    | some (_, e) => if e.holdId = holdId ∧ e.job = job then p.acknowledge e (ackResultOf result) else p

/-- The hand-off is reported complete: the record returns to IDLE and the cleared checkpoint is posted (R43, R123). -/
def Part.handedOff (p : Part) : Part := { p.clearJob with store := p.store.clearCheckpoint }

end Sys2Proof.Machine
end

