-- ==== Sys2Proof/Machine/LineOps.lean ====
section
/-! DEFINITION. The line controller: rests, contention, send results, judging and accepting frames, the fault score, the line
states and ANNOUNCE (chapter 8). -/

namespace Sys2Proof.Machine

open Sys2Proof

/-! ### Line state and score (R149, R150, R151, R153) -/

/-- Change the line controller's state. -/
def Part.withLine (p : Part) (l : Line) : Part := { p with line := l }

/-- The line state that a score sets (R150). -/
def stateOfScore (score : Nat) : LineState :=
  if score < 96 then .active else if score < 192 then .guarded else .withdrawn

/-- The line state judges frames, sends and accepts (R145, R149). -/
def LineState.isOpen : LineState → Bool
  | .active | .guarded => true
  | .withdrawn | .silent => false

/-- Every frame of the outbound queue is dropped, and its owner told, in queue order (R151, R153). -/
def Part.dropFrames (p : Part) (frames : List OutFrame) : Part := frames.foldl (fun q f => q.sendFailed f.ticket) p

/-- Enter WITHDRAWN (R151). -/
def Part.withdraw (p : Part) (score : Nat) : Part :=
  ((p.withLine { p.line with state := .withdrawn, score := score, rests := 0, outbound := [], sending := none }).raise
    .line).dropFrames p.line.outbound

/-- The score takes a new value, and sets the line state (R149, R150). -/
def Part.setScore (p : Part) (score : Nat) : Part :=
  match stateOfScore score with
  | .withdrawn => p.withdraw score
  | st =>
    let q := p.withLine { p.line with score := score, state := st }
    if p.line.state = st then q else q.raise .line

/-- A rise of the score, while it moves (R149). -/
def Part.raiseScore (p : Part) (n : Nat) : Part :=
  if p.line.state.isOpen then p.setScore (saturate 255 (p.line.score + n)) else p

/-- A fall of the score, while it moves (R149). -/
def Part.lowerScore (p : Part) : Part := if p.line.state.isOpen then p.setScore (p.line.score - 1) else p

/-- A clash: SILENT (R153). -/
def Part.silence (p : Part) : Part :=
  ((p.withLine { p.line with state := .silent, outbound := [], sending := none }).raise .line).dropFrames p.line.outbound

/-! ### Rests (R143, R152, R156) -/

/-- Enqueue an ANNOUNCE with the current period (R156). -/
def Part.announceSelf (p : Part) : Part := p.sendFrame 0 (.announce p.ledger.period.current)

/-- Start the head of the outbound queue (R143, R146). Its bytes go out by `Part.driveFrame` once contention is won. -/
def Part.startFrame (p : Part) : Part := p.withLine { p.line with sending := p.line.outbound.head?.map OutFrame.ticket }

/-- The 64th rest ends the withdrawal (R152). -/
def Part.endWithdrawal (p : Part) : Part :=
  ((p.withLine { p.line with state := .active, score := 0, rests := 0 }).raise .line).announceSelf

/-- A rest falls; `quiet` when it ends 10 ms of quiet (R143, R151, R152). -/
def Part.rest (p : Part) (quiet : Bool) : Part :=
  match p.line.state with
  | .active => p.startFrame
  | .guarded => if quiet then p.startFrame else p
  | .withdrawn => if p.line.rests + 1 < 64 then p.withLine { p.line with rests := p.line.rests + 1 } else p.endWithdrawal
  | .silent => p

/-- The rest that ends a transmission; one that ends the transmission which caused a withdrawal is not counted (log entry
17). -/
def Part.restAfter (p before : Part) : Part :=
  if p.line.state = .withdrawn ∧ before.line.state ≠ .withdrawn then p else p.rest false

/-- LINE_QUIET_REST (R143). -/
def Part.quietRest (p : Part) : Part := if p.line.sending.isSome then p else p.rest true

/-! ### Sends (R144, R147) -/

/-- Contention is lost: the frame keeps its place (R144). -/
def Part.contentionLost (p : Part) : Part := p.withLine { p.line with sending := none }

/-- The queue without a frame. -/
def dropTicket (queue : List OutFrame) (ticket : Nat) : List OutFrame :=
  queue.filter (fun f => decide (f.ticket ≠ ticket))

/-- The queue with a frame's attempt count raised. -/
def countAttempt (queue : List OutFrame) (ticket : Nat) : List OutFrame :=
  queue.map (fun f => if f.ticket = ticket then { f with attempts := f.attempts + 1 } else f)

/-- A frame is sent whole: its bytes as the line controller builds them from what the owner handed over, with this station's number,
the payload's length and the check filled in (R141, section 12.1). -/
def Part.driveFrame (p : Part) (ticket : Nat) : Part :=
  { p with
    outputs :=
      { p.outputs with
        line :=
          p.outputs.line ++
            (p.line.outbound.find? (fun f => decide (f.ticket = ticket))).toList.map
              (fun f => frameBytes p.station f.dest f.message) } }

/-- A send is answered (R147). -/
def Part.sendAnswered (p : Part) (ticket : Nat) : Part :=
  (p.withLine { p.line with outbound := dropTicket p.line.outbound ticket, sending := none }).lowerScore

/-- A send is not answered (R147). -/
def Part.sendUnanswered (p : Part) (ticket : Nat) : Part :=
  let counted := countAttempt p.line.outbound ticket
  if counted.any (fun f => decide (f.ticket = ticket) && decide (16 ≤ f.attempts)) then
    ((p.withLine
      { p.line with
        outbound := dropTicket counted ticket, sending := none
        dropped := saturate Config.max16 (p.line.dropped + 1) }).raiseScore 8).sendFailed ticket
  else (p.withLine { p.line with outbound := counted, sending := none }).raiseScore 8

/-- The outcome of a send (R147). -/
def Part.sendOutcome (p : Part) (ticket : Nat) (answered : Bool) : Part :=
  if answered then p.sendAnswered ticket else p.sendUnanswered ticket

/-! ### Received frames (R145, R148, R153, R154, R155, R157) -/

/-- The heard entry of a station is set to now (R154). -/
def Part.hear (p : Part) (station : Nat) : Part := p.withLine { p.line with heard := tablePut p.line.heard station p.now }

/-- A frame goes to the tail of the inbound queue (R145). -/
def Part.queueFrame (p : Part) (source dest : Nat) (m : Message) : Part :=
  p.withLine { p.line with inbound := p.line.inbound ++ [{ source := source, dest := dest, message := m }] }

/-- An accepted frame: taken at once by the job controller or the line controller, or queued for its block (R148). -/
def Part.takeAccepted (p : Part) (source dest : Nat) (m : Message) : Part :=
  match m with
  | .holdGive h j a c l => p.takeGive source h j a c l
  | .holdDeny j r => p.takeDeny source j r
  | .holdGone h j => p.takeGone source h j
  | .acctAnswer _ _ _ _ => p
  | .tally _ _ _ _ _ => p
  | .settleAck _ _ _ | .settle _ _ _ _ _ | .holdMore _ _ _ | .holdAsk _ _ _ | .holdKeep _ _ => p.queueFrame source dest m
  | .acctPut _ _ _ _ _ | .acctTopup _ _ | .acctQuery _ | .periodClose _ | .announce _ => p.queueFrame source dest m

/-- The three tests of acceptance (R145). -/
def Part.acceptFrame (p : Part) (source dest : Nat) (message : Option Message) : Part :=
  match message with
  | none => p
  | some m =>
    if dest ≠ p.station ∧ dest ≠ 0 then p
    else if Config.queuePlaces ≤ p.line.inbound.length then
      p.withLine { p.line with inboundFull := saturate Config.max16 (p.line.inboundFull + 1) }
    else (p.withLine { p.line with answered := true }).takeAccepted source dest m

/-- A good frame in ACTIVE or GUARDED (R145, R149, R153, R154, R155). -/
def Part.takeGood (p : Part) (source dest : Nat) (message : Option Message) : Part :=
  let q := p.lowerScore
  if source = p.station then q.silence
  else ((q.hear source).heardReport source).acceptFrame source dest message

/-- The messages that a SILENT station queues (R153). -/
def Message.announcesPeriod : Message → Bool
  | .periodClose _ | .announce _ => true
  | .settleAck _ _ _ | .holdGive _ _ _ _ _ | .holdDeny _ _ | .holdGone _ _ | .acctAnswer _ _ _ _ => false
  | .settle _ _ _ _ _ | .holdMore _ _ _ | .holdAsk _ _ _ | .holdKeep _ _ => false
  | .acctPut _ _ _ _ _ | .acctTopup _ _ | .acctQuery _ | .tally _ _ _ _ _ => false

/-- A good frame in SILENT (R153, R154). -/
def Part.takeSilent (p : Part) (source dest : Nat) (message : Option Message) : Part :=
  let q := if source = p.station then p else p.hear source
  match message with
  | none => q
  | some m =>
    if dest = 0 ∧ m.announcesPeriod ∧ q.line.inbound.length < Config.queuePlaces then q.queueFrame source dest m else q

/-- A transmission is taken (R141, R145, R151, R153). -/
def Part.takeTransmission (p : Part) (bytes : List Byte) : Part :=
  match p.line.state with
  | .withdrawn => p
  | .silent =>
    match judge bytes with
    | .bad => p
    | .good source dest message => p.takeSilent source dest message
  | .active | .guarded =>
    match judge bytes with
    | .bad => p.raiseScore 1
    | .good source dest message => p.takeGood source dest message

/-- A transmission ends. A send that was going on has met a mismatch after its header, and counts as unanswered if the line
state still lets it (R144, R145). -/
def Part.receive (p : Part) (bytes : List Byte) : Part :=
  let ticket := p.line.sending
  let q := (p.withLine { p.line with sending := none, answered := false }).takeTransmission bytes
  match ticket with
  | none => q
  | some t => if q.line.state.isOpen then q.sendUnanswered t else q

end Sys2Proof.Machine
end

