-- ==== Sys2Proof/Machine/StartUp.lean ====
section
/-! DEFINITION. Power, reset and start-up: the drain's end, reset values, the recovery steps, entry into service (R80, R82,
R103, R121, R139, R140, R166, R167, R169, R190, R191, R192). -/

namespace Sys2Proof.Machine

open Sys2Proof

/-! ### Reset values (R190 step 1) -/

/-- Every volatile state at its reset value; the stored records, the configuration and what has left the part stay (R190
step 1, R191). -/
def Part.resetValues (p : Part) (phase : Phase) : Part where
  phase := phase
  resetPin := p.resetPin
  config := p.config
  store := { stored := p.store.stored }
  outputs := p.outputs

/-- The steps 3 to 8 of start-up, in order (R190). -/
def recoverySteps : List Task :=
  [.recoverApply, .quiet, .recoverCheckpoint, .quiet, .recoverHolds, .quiet, .holdsInService, .recoverFloat, .recoverWalk,
    .enterService]

/-- Start-up recovery begins: a checkpoint found present counts as one reserved journal slot (R173, R190). -/
def Part.beginRecovery (p : Part) : Part :=
  ({ p with
      phase := .recovering
      journal := { p.journal with reserved := if p.store.stored.checkpoint.isSome then 1 else 0 } }).assign .loader
    recoverySteps

/-- Start-up begins (R190, R191); `load` when the image is to be read. -/
def Part.startUp (p : Part) (load : Bool) : Part :=
  if load then p.resetValues .loading else (p.resetValues .recovering).beginRecovery

/-! ### Recovery (R82, R103, R121, R139, R169) -/

/-- The held amount of an account at the recovery's debit: its ACTIVE records other than the one named, as stored (R139). -/
def otherHeld (l : Ledger) (account : Nat) (holdId : Option Nat) : Nat :=
  ((l.holds.filter (fun e => decide (e.2.account = account) && decide (some e.2.id ≠ holdId))).map
    (fun e => activeAmount e.2)).sum

/-- The recovery's debit, unless it was stored (R139 step 2). -/
def Part.recoveryDebit (p : Part) (r : ApplyRecord) : Option (Nat × Account) :=
  match findAccount p.ledger r.account with
  | none => none
  | some (slot, a) =>
    if a.lastApply = r.sequence then none
    else some (slot, a.debited (otherHeld p.store.stored r.account r.holdId) r.charge r.impressions r.sequence)

/-- Make the recovery's debit (R139 step 2). -/
def Part.stepRecoverDebit (p : Part) (r : ApplyRecord) : Progress :=
  match p.recoveryDebit r with
  | none => some (p, [])
  | some (slot, a) => p.justPost (.account slot (.used a)) []

/-- An apply found interrupted (R139). It counts as local when its serving station is the number configured now, also when that number has
changed since the record was written (R126, R138; DEDUCED, log entry 72). -/
def Part.recoverApply (p : Part) : Part × List Task :=
  match p.ledger.apply with
  | none => (p, [])
  | some r =>
    let free : Task :=
      match r.holdId with
      | none => .putMark r.station r.job []
      | some id => .removeHold id []
    let lost :=
      if r.station = p.station then []
      else [Task.journal (.orphan r.station r.job (r.holdId.getD 0) r.account r.charge r.impressions)]
    if (findAccount p.ledger r.account).isNone then (p, [free] ++ lost ++ [.clearApply []])
    else (p, [.recoverDebit r, free, .clearApply []])

/-- A journal record of kind JOB, by its sequence and job number. -/
def JournalRecord.jobNumber (r : JournalRecord) : Option (Nat × Nat) :=
  match r.body with
  | .job e => some (r.sequence, e.job)
  | .orphan _ _ _ _ _ _ => none
  | .lapseDropped _ _ _ _ _ _ => none

/-- A record held by the ring (R172). -/
def isHeld (l : Ledger) (r : JournalRecord) : Bool :=
  decide (max 1 (l.journalSequence - 255) ≤ r.sequence) && decide (r.sequence ≤ l.journalSequence)

/-- The later of two JOB records. -/
def laterJob (best : Option (Nat × Nat)) (e : Nat × Nat) : Option (Nat × Nat) :=
  match best with
  | none => some e
  | some b => if b.1 < e.1 then some e else some b

/-- The job number of the newest held JOB record (R169, R172). -/
def newestJob (l : Ledger) : Option Nat :=
  ((((l.journal.map Prod.snd).filter (isHeld l)).filterMap JournalRecord.jobNumber).foldl laterJob none).map Prod.snd

/-- The final charge of a checkpoint (R17, R169 step 2). -/
def checkpointCharge (v : Values) (c : Checkpoint) : Nat := finalCharge v c.gross c.delivered c.cls c.limit

/-- The JOB record made from a checkpoint (R169 step 4, R171). -/
def Checkpoint.journalEntry (c : Checkpoint) (charge : Nat) (status : JournalStatus) : JobEntry where
  job := c.job
  funding := c.funding
  payer := c.payer
  home := c.home
  holdId := c.holdId
  charge := charge
  mono := saturate Config.max24 c.mono
  colour := saturate Config.max24 c.colour
  spoiled := saturate Config.max16 c.spoiled
  jams := saturate Config.max16 c.jams
  unpermitted := saturate Config.max24 c.unpermitted
  unbilledCents := c.unbilled / 1000
  endReason := some .reset
  status := status

/-- The TALLY of a checkpoint (R169 step 4, R180; log entry 49). -/
def Checkpoint.tallyMessage (c : Checkpoint) (charge : Nat) : Message :=
  .tally c.job c.funding.code c.payer charge (saturate Config.max24 c.delivered)

/-- The list already holds an entry for a home and job (R125 case 3). -/
def hasEntry (l : Ledger) (home job : Nat) : Bool :=
  l.deferred.any (fun e => decide (e.2.home = home) && decide (e.2.job = job))

/-- The entry of a checkpoint, unless the list holds it (R125 case 3, R169 step 3). -/
def Part.checkpointEntry (p : Part) (c : Checkpoint) (holdId charge : Nat) : List Task :=
  if hasEntry p.ledger (c.home.getD 0) c.job then []
  else [.putEntry (c.home.getD 0) holdId c.payer c.job charge (saturate Config.max24 c.delivered) false false none]

/-- A checkpoint found present (R169), unless the outcome is BAD (R189). -/
def Part.recoverCheckpoint (p : Part) : Part × List Task :=
  match p.ledger.checkpoint with
  | none => (p, [])
  | some c =>
    let charge := checkpointCharge p.config.values c
    if p.outOfService then (p, [])
    else if newestJob p.ledger = some c.job then (p.releaseJournal, [.clearCheckpoint])
    else
      match c.funding with
      | .accountRemote => (p, p.checkpointEntry c (c.holdId.getD 0) charge ++ [.settleCheckpoint .deferred])
      | .float => (p, p.checkpointEntry c 0 charge ++ [.settleCheckpoint .deferred])
      | .value => (p, [.settleCheckpoint (unwrittenStatus charge)])
      | .accountLocal =>
        (p.requestSettlement
          { source := p.station, holdId := c.holdId.getD 0, account := c.payer, job := c.job, charge := charge
            impressions := c.delivered, requester := .checkpoint }, [])

/-- A settled checkpoint: its record, its TALLY, its clearing (R169 steps 4 and 5). -/
def Part.settleCheckpoint (p : Part) (status : JournalStatus) : Part × List Task :=
  match p.ledger.checkpoint with
  | none => (p, [])
  | some c =>
    let charge := checkpointCharge p.config.values c
    (p, [.journal (.job (c.journalEntry charge status)), .holdTally (c.tallyMessage charge), .clearCheckpoint])

/-- A hold record at start-up: SETTLING becomes ACTIVE, touched at 0 (R103). -/
def HoldRecord.restarted (r : HoldRecord) : HoldRecord :=
  { r with touched := 0, state := if r.state = .settling then .active else r.state }

/-- The writes of the hold table at start-up (R103 steps 1 and 2): one post a record, in slot order. R103 gives the posts no order, and
posts a SETTLING record's two changes without saying how often (DESIGN CHOICE, log entry 69). -/
def Part.recoverHolds (p : Part) : Part × List Task :=
  (p, p.ledger.holds.map (fun e => .putHold e.1 e.2.restarted []))

/-- The held amounts, from the ACTIVE records (R86, R103). -/
def heldSums (holds : Table HoldRecord) : Table Nat :=
  holds.foldl (fun t e => countSet t e.2.account (countGet t e.2.account + activeAmount e.2)) []

/-- The hold table in service (R103 steps 3 and 4). -/
def Part.holdsInService (p : Part) : Part :=
  { p with
    accounts := { p.accounts with held := heldSums p.ledger.holds }
    holds := { p.holds with pointer := 0 } }

/-- The sum of F over the float entries (R82). -/
def floatSum (l : Ledger) : Nat := ((l.deferred.filter (fun e => decide (e.2.holdId = 0))).map (fun e => e.2.charge)).sum

/-- Float outstanding is recomputed (R82). -/
def Part.recoverFloat (p : Part) : Part := p.withSettlement { p.settlement with floatOutstanding := floatSum p.ledger }

/-- An interrupted walk is restarted (R121). -/
def Part.recoverWalk (p : Part) : Part :=
  if p.ledger.period.walking then
    ({ p with accounts := { p.accounts with pointer := 0, queued := 0 } }).assign .account [.walk]
  else p

/-! ### Entry into service (R192) -/

/-- The line controller comes into service (R158, R192 step 2). -/
def Part.lineInService (p : Part) : Part :=
  if p.outOfService then p.withLine { p.line with state := .silent }
  else
    let announced := (p.withLine { p.line with state := .active }).announceSelf
    match announced.settlement.heldTally with
    | none => announced
    | some m => announced.sendFrame 0 m

/-- The homes that have an entry, each once, by its last slot in slot order. R140 and R192 give the homes no order (DESIGN CHOICE, log
entry 63). -/
def entryHomes (l : Ledger) : List Nat := (l.deferred.map (fun e => e.2.home)).dedup

/-- The station enters service (R192). While the unit waits on the post of a send's attempts, the homes whose turn has not come wait, and
their entries come into flight when the wait ends (R125, R140; DEDUCED, log entry 71). -/
def Part.enterService (p : Part) : Part :=
  let line : Part := ({ p with phase := .serving }).lineInService
  let carded : Part := (line.withSettlement { line.settlement with heldTally := none }).sendCard .release
  let flying : Part := (entryHomes carded.ledger).foldl (fun q home => q.assign .settlement [.intoFlight home]) carded
  let swept : Part := { flying with holds := { flying.holds with due := some (flying.now + Config.sweepMs) } }
  let low : Part := if swept.freeSlots ≤ 16 then swept.raise .journalLow else swept
  if low.config.outcome = .good then low else low.raise .config

/-! ### Soft reset and loss of supply (R166, R167, R191) -/

/-- Start-up is to read the image: a soft reset that begins during the load (R191). -/
def Phase.loads : Phase → Bool
  | .loading => true
  | .draining load => load
  | .off | .recovering | .serving => false

/-- A soft reset begins (R158, R167, R186, R191). The answer slot is driven no more. Only the posts that owners wait to make are kept
of the blocks' work. -/
def Part.beginSoftReset (p : Part) : Part :=
  { p with
    phase := .draining p.phase.loads
    line := { p.line with answered := false }
    panel := { p.panel with flags := 0, reject := none, resetWaits := false }
    store :=
      { p.store with
        work := (p.store.work.filter (fun w => w.since.isSome)).map (fun w => { w with tasks := w.tasks.take 1 }) } }

/-- The record being programmed at a loss of supply keeps its old value or its new value, wholly (R166). -/
def interrupted (s : Store) (programmed : Bool) : Ledger :=
  match s.queue with
  | [] => s.stored
  | post :: _ => if programmed then program s.stored post.write else s.stored

/-- A loss of supply (R166). -/
def Part.losePower (p : Part) (programmed : Bool) : Part :=
  ({ p with store := { stored := interrupted p.store programmed } }).resetValues .off

end Sys2Proof.Machine
end

