-- ==== Sys2Proof/Machine/Work.lean ====
section
/-! DEFINITION. How work that waits on the store goes on: one step of each kind, which work may run, the drain of a soft reset,
write-dones, and the frame that every command is taken in (R161, R164, R167, R175, R186). -/

namespace Sys2Proof.Machine

open Sys2Proof

/-! ### One step (R164) -/

/-- A step that posts nothing. -/
def always (r : Part × List Task) : Progress := some r

/-- Start-up waits until every write so far is stored and no work is left (R190). -/
def Part.isQuiet (p : Part) : Bool :=
  p.store.queue.isEmpty && p.store.pending.isEmpty && p.store.work.isEmpty &&
    decide (p.settlement.stage = .free) && p.settlement.requests.isEmpty

/-- Take one step of a block's work, or none while it must wait. -/
def Task.step (t : Task) (p : Part) : Progress :=
  match t with
  | .ask source account job wanted => always (p.takeAsk source account job wanted)
  | .more source holdId job increment => always (p.takeMore source holdId job increment)
  | .keep source holdId job => always (p.takeKeep source holdId job)
  | .newHold source account job grant => always (p.makeHold source account job grant)
  | .putHoldId id => p.justPost (.counter .holdId id) []
  | .putHold slot value notes => (p.changeHold slot (some value) notes).map (fun q => (q, []))
  | .dropHold slot => (p.changeHold slot none []).map (fun q => (q, []))
  | .advanceSweep => always (p.advanceSweep, [])
  | .journal body => always (p.handJournal body)
  | .journalCount body => p.stepJournalCount body
  | .journalPut sequence body => p.stepJournalPut sequence body
  | .putAccount slot value notes => p.justPost (.account slot value) notes
  | .vacate slot account source => p.stepVacate slot account source
  | .close number => always (p.takeClose number)
  | .startWalk number => p.stepStartWalk number
  | .walk => always p.visitSlots
  | .carry => p.stepCarry
  | .endWalk => p.stepEndWalk
  | .nextRequest => always p.nextRequest
  | .decide s => always (p.decideSettlement s)
  | .markSettling holdId => p.stepMarkSettling holdId
  | .removeHold holdId notes => p.stepRemoveHold holdId notes
  | .putMark station job notes => p.justPost (.mark station job) notes
  | .putApplySequence sequence => p.justPost (.counter .applySequence sequence) []
  | .putApply record => p.justPost (.apply (some record)) [.applyRecorded]
  | .clearApply notes => p.justPost (.apply none) notes
  | .debit => p.stepDebit
  | .putEntry home holdId account job charge impressions forJob reserved float =>
    p.stepPutEntry home holdId account job charge impressions forJob reserved float
  | .intoFlight home => always (p.intoFlight home)
  | .send home => always (p.sendEntry home false)
  | .countSend number => p.stepCountSend number
  | .removeEntry number r => p.stepRemoveEntry number r
  | .tally message => always (p.sendFrame 0 message, [])
  | .handedOff => always (p.handedOff, [])
  | .quiet => if p.isQuiet then some (p, []) else none
  | .recoverApply => always p.recoverApply
  | .recoverDebit record => p.stepRecoverDebit record
  | .recoverCheckpoint => always p.recoverCheckpoint
  | .settleCheckpoint status => always (p.settleCheckpoint status)
  | .holdTally message => always (p.withSettlement { p.settlement with heldTally := some message }, [])
  | .clearCheckpoint => always ({ p with store := p.store.clearCheckpoint }, [])
  | .recoverHolds => always p.recoverHolds
  | .holdsInService => always (p.holdsInService, [])
  | .recoverFloat => always (p.recoverFloat, [])
  | .recoverWalk => always (p.recoverWalk, [])
  | .enterService => always (p.enterService, [])

/-- The write that a step posts, if its effect is a post (R164, R167). -/
def Task.write (t : Task) (p : Part) : Option Write :=
  match t with
  | .putHoldId id => some (.counter .holdId id)
  | .putHold slot value _ => some (.hold slot (some value))
  | .dropHold slot => some (.hold slot none)
  | .journalCount _ => some (.counter .journalSequence (p.ledger.journalSequence + 1))
  | .journalPut sequence body => some (journalWrite sequence body)
  | .putAccount slot value _ => some (.account slot value)
  | .vacate slot account _ => if p.holdNames account then none else some (.account slot .vacated)
  | .startWalk number => some (.period { current := number, walking := true })
  | .carry => p.carryOf.map (fun a => .account p.accounts.pointer (.used a))
  | .endWalk => some (.period { current := p.ledger.period.current, walking := false })
  | .markSettling holdId => (p.settlingPost holdId).map (fun e => .hold e.1 (some e.2))
  | .removeHold holdId _ => (findHold p.ledger holdId).map (fun e => .hold e.1 none)
  | .putMark station job _ => some (.mark station job)
  | .putApplySequence sequence => some (.counter .applySequence sequence)
  | .putApply record => some (.apply (some record))
  | .clearApply _ => some (.apply none)
  | .debit => (p.settlement.current.bind p.debitOf).map (fun e => .account e.1 (.used e.2))
  | .putEntry home holdId account job charge impressions _ _ _ =>
    p.deferredSlot.map fun slot =>
      .deferred slot
        (some
          { number := nextEntryNumber p.ledger, home := home, holdId := holdId, account := account, job := job
            charge := charge, impressions := impressions, attempts := 0 })
  | .countSend number => (p.countPost number).map (fun e => .deferred e.1 (some e.2))
  | .removeEntry number _ => (findEntry p.ledger number).map (fun e => .deferred e.1 none)
  | .recoverDebit record => (p.recoveryDebit record).map (fun e => .account e.1 (.used e.2))
  | .ask _ _ _ _ | .more _ _ _ _ | .keep _ _ _ | .newHold _ _ _ _ | .journal _ | .close _ | .walk | .advanceSweep => none
  | .nextRequest | .decide _ | .intoFlight _ | .send _ | .tally _ | .handedOff | .quiet => none
  | .recoverApply | .recoverCheckpoint | .settleCheckpoint _ | .holdTally _ | .clearCheckpoint => none
  | .recoverHolds | .holdsInService | .recoverFloat | .recoverWalk | .enterService => none

/-! ### Which work runs (R104, R110, R125, R132, R164, R172) -/

/-- The owner of a work is at no other work: it has begun this one, or begun none, and hands no record to the journal elsewhere (R164,
R172). -/
def ownerFree (work : List Work) (w : Work) : Bool :=
  w.begun || !work.any (fun x => decide (x.owner = w.owner) && (x.begun || (x.occupies x.owner && !w.occupies w.owner)))

/-- The work that has a block to itself: the block's own work once begun, else its own work at the journal, else the first whose next
step is the block's and whose owner can make it; one whose owner is held up elsewhere keeps no other from the block (R172). Work that
waits together for a block, such as a debit and the next visits of the close walk, is taken in the order in which it arose, and frames
later, by their own commands; R118 lets either be first (DESIGN CHOICE, log entry 70). -/
def holder (work : List Work) (owner : Owner) : Option Work :=
  match work.find? (fun w => w.begun && decide (w.owner = owner)) with
  | some w => some w
  | none =>
    match work.find? (fun w => w.occupies owner) with
    | some w => some w
    | none => work.find? (fun w => decide (w.block = owner) && ownerFree work w)

/-- Whether a block's work may take its next step: the block is free for it, and so is its owner (R164, R172). -/
def canRun (work : List Work) (w : Work) : Bool := decide (holder work w.block = some w) && ownerFree work w

/-- Work that goes on stands behind all that waits on a post, and before all that has not begun (R164). -/
def putBack (work : List Work) (w : Work) : List Work :=
  match w.tasks with
  | [] => work
  | _ :: _ => work.takeWhile (fun x => x.since.isSome) ++ w :: work.dropWhile (fun x => x.since.isSome)

/-- Change the store's work. -/
def Part.withWork (p : Part) (work : List Work) : Part := { p with store := { p.store with work := work } }

/-- Take the next step of one work, which `rest` leaves out. -/
def Part.advance (p : Part) (w : Work) (rest : List Work) : Option Part :=
  match w.tasks with
  | [] => some (p.withWork rest)
  | t :: tasks =>
    (t.step (p.withWork rest)).map fun r =>
      r.1.withWork (putBack r.1.store.work { w with tasks := r.2 ++ tasks, begun := true, since := none })

/-- The first work of a list that can take a step takes it; `before` stands before the list. -/
def Part.advanceFirst (p : Part) (before : List Work) : List Work → Option Part
  | [] => none
  | w :: after =>
    match if canRun p.store.work w then p.advance w (before ++ after) else none with
    | some q => some q
    | none => p.advanceFirst (before ++ [w]) after

/-- A work whose next step is a post that may now be made, and finds no place, waits for one, from now (R164, R170). A work that waits to hand a step to
another block, such as a record to a journal that waits, does not count as waiting on a post (DEDUCED, log entry 65). -/
def Part.marksWait (p : Part) (w : Work) : Bool :=
  w.since.isNone && canRun p.store.work w &&
    match w.tasks with
    | [] => false
    | t :: _ =>
      match t.write p with
      | none => false
      | some post => !p.store.hasPlace post

/-- The first work whose post finds no place begins to wait: behind all that waits already, and before the rest. Its owner is at that
step from now, and takes nothing else up (R164). -/
def Part.markWait (p : Part) : Option Part :=
  (p.store.work.find? p.marksWait).map fun w =>
    p.withWork
      (p.store.work.filter (fun x => x.since.isSome) ++
        { w with begun := true, since := some p.now } ::
          (p.store.work.filter (fun x => x.since.isNone)).erase w)

/-- Free places go to pending values first (R164). -/
def Part.fill (p : Part) : Part := { p with store := p.store.fill }

/-- Let work go on until all of it waits; after each step the job controller's rules act. `fuel` bounds the steps (log entry
18). A local request that waits for the hold table goes on here, before a frame or a visit that waits too, which are taken by their
own commands; R98 and R102 let either be first (DESIGN CHOICE, log entry 53). -/
def Part.pump : Nat → Part → Part
  | 0, p => p.fill
  | fuel + 1, p =>
    match p.fill.markWait with
    | some q => q.pump fuel
    | none =>
      match p.fill.advanceFirst [] p.fill.store.work with
      | none => p.fill
      | some q => q.react.pump fuel

/-- Steps that the work of one command may take. -/
def pumpFuel : Nat := 4096

/-! ### The drain (R167) -/

/-- The waiting posts that now find a place are made; nothing else of their work is (R167). -/
def Part.drainPosts (p : Part) : List Work → Part
  | [] => p
  | w :: rest =>
    match w.tasks with
    | [] => (p.withWork rest).drainPosts rest
    | t :: _ =>
      match t.write p with
      | none => (p.withWork rest).drainPosts rest
      | some post =>
        match p.tryPost post [] with
        | none => p
        | some q => (q.withWork rest).drainPosts rest

/-- The drain has ended (R167). -/
def Part.isDrained (p : Part) : Bool := p.store.queue.isEmpty && p.store.pending.isEmpty && p.store.work.isEmpty

/-- The drain goes on, and start-up begins when it has ended and the reset pin is released (R167, R191). -/
def Part.drain (p : Part) (load : Bool) : Part :=
  let q := p.fill.drainPosts p.fill.store.work
  if q.isDrained && !q.resetPin then q.startUp load else q

/-! ### Every command (R30, R41, R161, R175, R186) -/

/-- A list that empties after the idle time has been reached brings the timeout at once (R41). -/
def Part.reactIdle (p before : Part) : Part :=
  if !before.path.sheets.isEmpty && p.idleReached then p.idleEnd else p

/-- Let work go on in the phases in which it may. -/
def Part.goOn (p : Part) : Part :=
  match p.phase with
  | .recovering | .serving => p.pump pumpFuel
  | .off | .draining _ | .loading => p

/-- What follows the effect of a command: the job controller's rules, the drain, the work that can go on. -/
def Part.follow (p before : Part) : Part :=
  match p.phase with
  | .draining load => (p.drain load).goOn
  | .serving => (p.reactIdle before).react.goOn
  | .off | .loading | .recovering => p.goOn

/-- JOURNAL_LOW is raised when the free count has fallen to 16 or less (R175). -/
def Part.journalLow (p before : Part) : Part :=
  if before.serving && p.serving && decide (16 < before.freeSlots) && decide (p.freeSlots ≤ 16) then p.raise .journalLow else p

/-- The ALERT output is decided (R186). -/
def Part.alert (p : Part) : Part := { p with alertOut := p.panel.drives }

/-- The part after a command whose effect is `f`. -/
def Part.command (p : Part) (f : Part → Part) : Part := (((f p).follow p).journalLow p).alert

/-- A command, whose effect is on the part alone. -/
def event (s : State) (f : Part → Part) : Host.Outcome State Fault Refusal :=
  .next { s with part := s.part.command f }

/-- One millisecond passes; the time base stands without supply (section 4.2, log entry 1). -/
def Part.tick (p : Part) : Part := if p.phase = .off then p else { p with now := p.now + 1 }

/-- An effect that only a part in service has (R167, R190). -/
def inService (f : Part → Part) (p : Part) : Part := if p.serving then f p else p

/-! ### Write-dones (R161) -/

/-- What an owner does at a write-done (R161). -/
def Note.act (note : Note) (p : Part) : Part :=
  match note with
  | .grant source slot holdId job => p.answerGive source slot holdId job
  | .answer dest account result => p.answerOffice dest account result
  | .walk =>
    ({ p with accounts := { p.accounts with queued := p.accounts.queued - 1 } }).assign .account [.walk]
  | .applyRecorded => p.enterDebiting
  | .debited => p.enterClosing .applied
  | .applyClosed result => p.applyDone result
  | .entryStored number forJob => p.entryStored number forJob

/-- The oldest post is stored and leaves the queue (R161 items 1 and 2). -/
def Part.programOldest (p : Part) (post : Post) (rest : List Post) : Part :=
  { p with store := { p.store with stored := program p.store.stored post.write, queue := rest } }

/-- Whether programming of the next post has still to begin (R161 item 4). -/
def Part.setStarting (p : Part) (starting : Bool) : Part := { p with store := { p.store with starting := starting } }

/-- WRITE_COMPLETE (R161): the freed place is given (R164), the write-done is sent to every owner of the post, what the owners do
follows, and then programming of the next post begins, so that until then a post can still coalesce into it (R162). A drain sends no
write-done (R167). -/
def Part.writeComplete (p : Part) : Part :=
  match p.store.queue with
  | [] => p
  | post :: rest =>
    let q := p.programOldest post rest
    match q.phase with
    | .recovering | .serving =>
      ((post.notes.foldl (fun r note => note.act r) ((q.setStarting (!rest.isEmpty)).pump pumpFuel)).follow p).setStarting false
    | .off | .draining _ | .loading => q

end Sys2Proof.Machine
end

