-- ==== Sys2Proof/Machine/Reads.lean ====
section
/-! DEFINITION. The bodies of the panel responses (R66, R79, R105, R122, R129, R155, R159, R170, R176, R179, R181, R183, R184,
sections 12.3, 12.4 and 12.10). -/

namespace Sys2Proof.Machine

open Sys2Proof

/-- A bit of a byte. -/
def bitAt (i : Nat) (b : Bool) : Nat := if b then 2 ^ i else 0

/-! ### STATUS (R183, section 12.10) -/

/-- Serial and balance of an open card session (R79). -/
def Session.card : Session → Option ValueCard
  | .closed => none
  | .held card _ => some card
  | .gone card _ => some card
  | .writing card _ _ _ _ _ => some card

/-- Float room (R82). -/
def Part.floatRoom (p : Part) : Nat := p.config.values.floatPool - p.settlement.floatOutstanding

/-- How many hold records are in a state (R105). -/
def holdCount (l : Ledger) (st : HoldState) : Nat := tableCount l.holds (fun r => decide (r.state = st))

/-- Whether an account slot holds a record. -/
def AccountSlot.isUsed : AccountSlot → Bool
  | .vacated => false
  | .used _ => true

/-- Whether an owner waits on a post (R170): both the block that makes the post and the block for which it makes it, such as the
settlement unit while its Mark settling waits in the hold table (DEDUCED, log entry 79). -/
def Part.waits (p : Part) (owner : Owner) : Bool :=
  p.store.work.any (fun w => w.since.isSome && (decide (w.owner = owner) || decide (w.block = owner)))

/-- The time since the oldest wait began, ms (R170). -/
def Part.longestWait (p : Part) : Nat :=
  match p.store.work.filterMap Work.since with
  | [] => 0
  | t :: rest => p.now - rest.foldl min t

/-- Station state (R183). -/
def Part.stationState (p : Part) : Nat := if !p.serving then 0 else if p.outOfService then 2 else 1

/-- STATUS, the station, the job, the path, the card (offsets 0 to 19). -/
def Part.statusFront (p : Part) : List Byte :=
  field 1 p.stationState ++ field 1 p.config.outcome.code ++ field 1 p.config.clamped ++ field 4 p.seconds ++
    field 1 p.job.state.code ++ optionField 1 (p.job.funding.map Funding.code) ++ field 1 (boolBit p.path.jammed) ++
    field 1 p.path.sheets.length ++
    field 1 (bitAt 0 p.path.regCovered + bitAt 1 p.path.fuseCovered + bitAt 2 p.path.exitCovered + bitAt 3 p.path.doorOpen) ++
    field 1 p.card.session.code ++ optionField 4 (p.card.session.card.map ValueCard.serial) ++
    optionField 3 (p.card.session.card.map ValueCard.balance)

/-- STATUS, float, holds, accounts (offsets 20 to 43). -/
def Part.statusHome (p : Part) : List Byte :=
  let l := p.ledger
  field 4 p.settlement.floatOutstanding ++ field 4 p.floatRoom ++ field 1 (holdCount l .active) ++
    field 1 (holdCount l .lapsed) ++ field 1 (holdCount l .settling) ++ field 2 l.holdId ++
    field 2 (tableCount l.accounts AccountSlot.isUsed) ++ field 2 (tableCount l.accounts (fun a => !a.isUsed)) ++
    field 2 l.period.current ++ field 1 (bitAt 0 l.period.walking + bitAt 1 p.accounts.pendingClose.isSome) ++
    field 2 p.accounts.pointer ++ optionField 2 p.accounts.pendingClose

/-- STATUS, settlement and line (offsets 44 to 63). -/
def Part.statusLine (p : Part) : List Byte :=
  field 1 p.ledger.deferred.length ++ field 1 p.settlement.reserved ++ field 2 p.settlement.applied ++
    field 2 p.settlement.duplicate ++ field 2 p.settlement.orphan ++ field 1 p.settlement.stage.code ++
    field 2 p.config.values.station ++ field 1 p.line.state.code ++ field 1 p.line.score ++
    field 1 p.line.outbound.length ++ field 1 p.line.inbound.length ++ field 2 p.line.inboundFull ++
    field 2 p.line.dropped ++ field 1 p.line.rests

/-- STATUS, store and journal (offsets 64 to 85). With the mark above the newest sequence after a loss of supply, 0 records are
unexported (DEDUCED, log entry 66). -/
def Part.statusStore (p : Part) : List Byte :=
  let l := p.ledger
  field 1 p.store.queue.length ++ field 1 p.store.pending.length ++
    field 1 (bitAt 0 (p.waits .hold) + bitAt 1 (p.waits .account) + bitAt 2 (p.waits .settlement) + bitAt 3 (p.waits .journal)) ++
    field 4 p.longestWait ++ field 4 l.journalSequence ++ field 4 l.releaseMark ++
    field 2 (l.journalSequence - l.releaseMark) ++ field 1 p.journal.reserved ++ signedField 2 p.freeSlots ++
    field 2 p.journal.lost

/-- The body of STATUS (R183): the station state alone while STARTING. -/
def Part.statusBody (p : Part) : List Byte :=
  if !p.serving then field 1 0 else p.statusFront ++ p.statusHome ++ p.statusLine ++ p.statusStore

/-! ### JOB_READ (R20, section 12.4) -/

/-- The plan's byte (section 12.4). -/
def Plan.byte (plan : Plan) : Nat :=
  128 + plan.media * 16 + bitAt 3 (decide (plan.colour = .colour)) + bitAt 2 plan.twoSided + bitAt 1 plan.collated

/-- The flags byte (section 12.4). -/
def Job.flagByte (j : Job) : Nat :=
  bitAt 7 j.topupOutstanding + bitAt 6 j.exhausted.isSome + bitAt 5 (decide (j.exhausted = some .holdLost)) +
    bitAt 4 j.drainMark + j.topupAttempts % 4 * 4 + j.askAttempts % 4

/-- Copy and page of the resume position (R29, section 12.4). -/
def Job.resumePlace (j : Job) : Nat × Nat :=
  match j.plan with
  | none => (0, 0)
  | some plan => plan.place j.position

/-- The body of JOB_READ (section 12.4). -/
def Job.snapshot (j : Job) : List Byte :=
  if j.state = .idle then List.replicate 64 0
  else
    field 1 j.state.code ++ optionField 1 (j.funding.map Funding.code) ++ field 2 j.number ++ field 4 j.payer ++
      optionField 1 j.home ++ optionField 2 j.holdId ++ optionField 3 j.limit ++ optionField 2 j.lifetime ++ field 1 j.cls ++
      optionField 1 (j.plan.map Plan.byte) ++ optionField 2 (j.plan.map Plan.originals) ++
      optionField 2 (j.plan.map Plan.copies) ++ field 3 j.planReserve ++ field 3 j.assigned ++ field 3 j.position ++
      field 4 j.acc.gross ++ field 4 j.acc.delivered ++ field 4 j.acc.reserved ++ field 4 j.acc.unbilled ++
      field 3 j.acc.unpermitted ++ field 2 j.spoiled ++ field 2 j.jams ++ field 1 j.consecutiveJams ++ field 1 j.flagByte ++
      field 2 j.resumePlace.1 ++ field 2 j.resumePlace.2 ++ optionField 1 (j.endReason.map EndReason.code) ++
      optionField 3 j.charge

/-! ### Journal (R176, section 12.3) -/

/-- A journal record as read (section 12.3). -/
def JournalRecord.bytes (r : JournalRecord) : List Byte :=
  match r.body with
  | .job e =>
    field 4 r.sequence ++ field 1 1 ++ field 1 e.status.code ++ field 2 e.job ++ field 1 0 ++ field 1 e.funding.code ++
      field 4 e.payer ++ optionField 1 e.home ++ optionField 2 e.holdId ++ field 3 e.charge ++ field 3 e.mono ++
      field 3 e.colour ++ field 2 e.spoiled ++ field 2 e.jams ++ field 3 e.unpermitted ++ field 3 e.unbilledCents ++
      optionField 1 (e.endReason.map EndReason.code) ++ field 1 0
  | .orphan station job holdId account charge impressions =>
    field 4 r.sequence ++ field 1 2 ++ field 1 JournalStatus.orphan.code ++ field 2 job ++ field 1 station ++ field 1 0 ++
      field 4 account ++ field 1 0 ++ field 2 holdId ++ field 3 charge ++ field 3 impressions ++ List.replicate 15 0
  | .lapseDropped station job holdId account amount cause =>
    field 4 r.sequence ++ field 1 3 ++ field 1 JournalStatus.dropped.code ++ field 2 job ++ field 1 station ++ field 1 0 ++
      field 4 account ++ field 1 0 ++ field 2 holdId ++ field 3 amount ++ List.replicate 17 0 ++ field 1 cause.code

/-- Put a record into its place by sequence. -/
def insertRecord (r : JournalRecord) : List JournalRecord → List JournalRecord
  | [] => [r]
  | x :: rest => if r.sequence ≤ x.sequence then r :: x :: rest else x :: insertRecord r rest

/-- The records that JOURNAL_READ returns (R176). -/
def readable (l : Ledger) (first : Nat) : List JournalRecord :=
  ((((l.journal.map Prod.snd).filter (isHeld l)).filter (fun r => decide (max first 1 ≤ r.sequence))).foldr insertRecord []).take
    4

/-- The body of JOURNAL_READ (R176). -/
def Part.journalBody (p : Part) (first : Nat) : List Byte :=
  let records := readable p.ledger first
  field 4 p.ledger.journalSequence ++ field 4 p.ledger.releaseMark ++ signedField 2 p.freeSlots ++ field 1 records.length ++
    records.flatMap JournalRecord.bytes

/-! ### The other bodies (section 12.10) -/

/-- A jam log entry. -/
def JamEntry.bytes (e : JamEntry) : List Byte :=
  field 1 e.kind.code ++
    field 1 (bitAt 0 e.sensor.isSome + bitAt 1 e.code.isSome + bitAt 2 e.job.isSome + bitAt 3 e.first.isSome) ++
    optionField 1 (e.sensor.map Sensor.code) ++ optionField 1 e.code ++ optionField 2 e.job ++
    optionField 3 (e.first.map (fun f => f.1)) ++ optionField 2 (e.first.map (fun f => f.2.1)) ++
    optionField 2 (e.first.map (fun f => f.2.2)) ++ field 1 e.spoiled ++ field 4 e.time

/-- The body of JAM_LOG_READ (R60). -/
def Part.jamLogBody (p : Part) : List Byte := field 1 p.path.log.length ++ p.path.log.flatMap JamEntry.bytes

/-- Kind code, and the limit or balance as 4 bytes. -/
def Credit.bytes : Credit → List Byte
  | .charge limit => field 4 limit
  | .prepaid balance => signedField 4 balance

def Credit.code : Credit → Nat
  | .charge _ => 0
  | .prepaid _ => 1

/-- The body of ACCOUNT_READ (R122). -/
def Part.accountBody (p : Part) (slot : Nat) (a : Account) : List Byte :=
  field 3 a.number ++ field 2 slot ++ field 1 a.credit.code ++ field 1 a.cls ++ field 1 (boolBit a.blocked) ++ a.credit.bytes ++
    field 4 a.spent ++ field 4 a.lastSpent ++ field 4 a.impressions ++ field 1 (boolBit a.overdrawn) ++
    field 2 a.closedPeriod ++ field 4 a.lastApply ++ field 4 (p.held a.number) ++ field 4 (available a (p.held a.number))

/-- The body of HOLD_READ (R105). -/
def Part.holdBody (p : Part) (index : Nat) : List Byte :=
  match tableGet p.ledger.holds index with
  | none => field 1 index ++ List.replicate 17 0
  | some r =>
    field 1 index ++ field 1 1 ++ field 2 r.id ++ field 3 r.account ++ field 1 r.station ++ field 2 r.job ++ field 3 r.amount ++
      field 1 r.state.code ++ field 4 (p.seconds - r.touched)

/-- Put an entry into its place by number. -/
def insertEntry (e : DeferredEntry) : List DeferredEntry → List DeferredEntry
  | [] => [e]
  | x :: rest => if e.number ≤ x.number then e :: x :: rest else x :: insertEntry e rest

/-- The deferred list in its order (R124). -/
def deferredList (l : Ledger) : List DeferredEntry := (l.deferred.map Prod.snd).foldr insertEntry []

/-- Milliseconds until the next timed send of an entry in flight (R126, R129). -/
def Part.nextSend (p : Part) (f : Flight) : Nat :=
  if f.home = p.station then 0
  else if !f.slow && decide (3 ≤ f.sends) then f.due + Config.slowMs - p.now
  else f.due - p.now

/-- Flight bits and time of an entry (R129). -/
def Part.flightBytes (p : Part) (e : DeferredEntry) : List Byte :=
  match p.settlement.flights.find? (fun f => decide (f.number = e.number)) with
  | none => List.replicate 5 0
  | some f => field 1 (1 + bitAt 1 f.slow) ++ field 4 (p.nextSend f)

/-- The body of DEFERRED_READ (R129). -/
def Part.deferredBody (p : Part) (index : Nat) : List Byte :=
  match (deferredList p.ledger)[index]? with
  | none => field 1 index ++ List.replicate 26 0
  | some e =>
    field 1 index ++ field 1 1 ++ field 4 e.number ++ field 1 e.home ++ field 2 e.holdId ++ field 3 e.account ++ field 2 e.job ++
      field 3 e.charge ++ field 3 e.impressions ++ field 2 e.attempts ++ p.flightBytes e

/-- Seconds since a station was last heard (R154). -/
def Part.heardSeconds (p : Part) (station : Nat) : Option Nat :=
  (tableGet p.line.heard station).map (fun heardAt => saturate Config.max16 ((p.now - heardAt) / 1000))

/-- The body of HEARD_READ (R155). -/
def Part.heardBody (p : Part) : List Byte :=
  field 4 (((List.range 30).map (fun i => bitAt i (p.heardSeconds (i + 1)).isNone)).sum) ++
    (List.range 30).flatMap (fun i => optionField 2 (p.heardSeconds (i + 1)))

/-- The body of ALERT_READ (R184). -/
def Panel.alertBody (panel : Panel) : List Byte :=
  [panel.flags, panel.enables] ++ field 1 (boolBit panel.master) ++ field 1 (boolBit panel.drives) ++
    optionField 1 (panel.reject.map (fun r => r.code.1)) ++ optionField 1 (panel.reject.map (fun r => r.code.2))

/-- The body of QUOTE (R18). -/
def Part.quoteBody (p : Part) (media : Nat) (c : Colour) (twoSided : Bool) (sheets cls : Nat) : List Byte :=
  field 3 (sheets * sheetImpressions twoSided) ++ field 3 (quoteCharge p.config.values media c twoSided sheets cls)

/-- The body of JOURNAL_RELEASE (R177). -/
def Part.releaseBody (p : Part) : List Byte := field 4 p.ledger.releaseMark ++ signedField 2 p.freeSlots

end Sys2Proof.Machine
end

