-- ==== Sys2Proof/Machine/Panel.lean ====
section
/-! DEFINITION. The panel port: the tests that every request meets, the response store, and what each request does (R182 to R185,
R191, and the requests' own rules). -/

namespace Sys2Proof.Machine

open Sys2Proof

/-! ### The response store and the tests of R182 -/

/-- Put a response into the store (R182). -/
def Part.respond (p : Part) (code : Nat) (result : PanelResult) (body : List Byte) : Part :=
  { p with panel := { p.panel with response := some { code := code, result := result, body := body } } }

/-- What a request comes to: its effect, its result, its body. -/
structure Answer where
  part : Part
  result : PanelResult
  body : List Byte
deriving DecidableEq, Repr

/-- A request answered OK. -/
def Part.ok (p : Part) (body : List Byte) : Answer where
  part := p
  result := .ok
  body := body

/-- A request refused: nothing changes (R182). -/
def Part.refuse (p : Part) (result : PanelResult) : Answer where
  part := p
  result := result
  body := []

/-- The FULL response: the request whose response is discarded, then the request not taken (R182, section 12.5). -/
def Part.respondFull (p : Part) (waiting : Response) (code : Nat) : Part :=
  p.respond waiting.code .full (field 1 waiting.code ++ field 1 code)

/-- The result of tests 1 and 3 of R182; `allowed` while OUT_OF_SERVICE (R189). -/
def Part.turnedAway (p : Part) (allowed : Bool) : Option PanelResult :=
  if !p.serving then some .busy else if p.outOfService && !allowed then some .outOfService else none

/-- A write transaction ends (R182). `refused` is what a refusal by tests 1 and 3 changes. -/
def Part.requestWith (p : Part) (code : Nat) (allowed : Bool) (refused : Part → Part) (decision : Part → Answer) : Part :=
  if p.phase = .off then p
  else
    match p.panel.response with
    | some waiting => p.respondFull waiting code
    | none =>
      match p.turnedAway allowed with
      | some result => (refused p).respond code result []
      | none => (decision p).part.respond code (decision p).result (decision p).body

/-- A write transaction whose refusal changes nothing (R182). -/
def Part.request (p : Part) (code : Nat) (allowed : Bool) (decision : Part → Answer) : Part :=
  p.requestWith code allowed id decision

/-- A request that only reads: its command changes nothing but the response store (R182). -/
def reading (s : State) (code : Nat) (decision : Part → Answer) : Host.Outcome State Fault Refusal :=
  .next { s with part := s.part.request code true decision }

/-- A request for a reading that has no field out of range. -/
def readsOk (body : Part → List Byte) (p : Part) : Answer := p.ok (body p)

/-! ### Reading requests -/

/-- STATUS is answered in every phase with supply (R182 test 1, R183). -/
def Part.statusRequest (p : Part) : Part :=
  if p.phase = .off then p
  else
    match p.panel.response with
    | some waiting => p.respondFull waiting 1
    | none => p.respond 1 .ok p.statusBody

/-- QUOTE (R18, R19). -/
def Part.quoteRequest (p : Part) (media colour sides sheets cls : Nat) : Answer :=
  match colourOf colour, twoSidedOf sides with
  | some c, some twoSided =>
    if 7 < media ∨ 998001 < sheets ∨ 3 < cls then p.refuse .range else p.ok (p.quoteBody media c twoSided sheets cls)
  | _, _ => p.refuse .range

/-- METER_READ (R179). -/
def Part.meterRequest (p : Part) (index : Nat) : Answer :=
  if 25 < index then p.refuse .range else p.ok (field 1 index ++ field 4 (countGet p.ledger.meters index))

/-- ACCOUNT_READ (R122). -/
def Part.accountRequest (p : Part) (account : Nat) : Answer :=
  if account = 0 then p.refuse .range
  else
    match findAccount p.ledger account with
    | none => p.refuse .notFound
    | some (slot, a) => p.ok (p.accountBody slot a)

/-- HOLD_READ (R105). -/
def Part.holdRequest (p : Part) (index : Nat) : Answer := if 63 < index then p.refuse .range else p.ok (p.holdBody index)

/-- DEFERRED_READ (R129). -/
def Part.deferredRequest (p : Part) (index : Nat) : Answer :=
  if 15 < index then p.refuse .range else p.ok (p.deferredBody index)

/-! ### Requests about the job -/

/-- The plan of a START whose fields are all in range (R28). -/
def planOf (media colour sides originals copies collated : Nat) : Option Plan :=
  match colourOf colour, twoSidedOf sides, yesNoOf collated with
  | some c, some twoSided, some ordered =>
    if media ≤ 7 ∧ 1 ≤ originals ∧ originals ≤ 999 ∧ 1 ≤ copies ∧ copies ≤ 999 then
      some { media := media, colour := c, twoSided := twoSided, originals := originals, copies := copies, collated := ordered }
    else none
  | _, _, _ => none

/-- A refused START sets the open job's last activity time (R28, R41). -/
def Part.touchOpen (p : Part) : Part := if p.job.state = .idle then p else p.touchActivity

/-- An accepted START (R28). -/
def Part.startPlan (p : Part) (plan : Plan) : Part :=
  ({ p with
      job :=
        { p.job with
          plan := some plan
          planReserve := fullReserve p.config.values plan.media plan.colour plan.twoSided
          assigned := 0, position := 0, lastActivity := p.now } }).setJobState .running

/-- START (R28). -/
def Part.startRequest (p : Part) (media colour sides originals copies collated : Nat) : Answer :=
  match planOf media colour sides originals copies collated with
  | none => p.touchOpen.refuse .range
  | some plan => if p.job.state = .ready ∧ !p.path.jammed then (p.startPlan plan).ok [] else p.touchOpen.refuse .busy

/-- RESUME (R40). -/
def Part.resumeRequest (p : Part) : Answer :=
  if p.job.state = .paused ∧ !p.path.jammed then ((p.touchActivity).setJobState .running).ok [] else p.refuse .busy

/-- END and CANCEL of a funded job (R34). -/
def Part.endRequest (p : Part) (r : EndReason) : Answer :=
  match p.job.state with
  | .ready | .running | .paused => (p.touchActivity.endJob r).ok []
  | .jammed => (p.touchActivity.markDrain r).ok []
  | .draining => p.touchActivity.ok []
  | .idle | .authorize | .settling => p.refuse .busy

/-- CANCEL (R26, R34). -/
def Part.cancelRequest (p : Part) : Answer :=
  if p.job.state = .authorize then p.cancelAsk.ok [] else p.endRequest .panelCancel

/-! ### Requests about the journal, the alerts and the station -/

/-- The export mark that a release asks for (R177). -/
def newMark (l : Ledger) (upTo : Nat) : Nat := max l.releaseMark (min upTo l.journalSequence)

/-- JOURNAL_RELEASE (R177). -/
def Part.releaseRequest (p : Part) (upTo : Nat) : Answer :=
  let mark := newMark p.ledger upTo
  if mark = p.ledger.releaseMark then p.ok p.releaseBody
  else
    match p.tryPost (.counter .releaseMark mark) [] with
    | none => p.refuse .busy
    | some q => q.ok q.releaseBody

/-- ALERT_ACK (R185). -/
def Part.ackRequest (p : Part) (flags : Byte) : Answer :=
  let q := { p with panel := p.panel.acknowledge flags }
  q.ok [q.panel.flags]

/-- ALERT_ENABLE (R185, section 12.10). -/
def Part.enableRequest (p : Part) (flags : Byte) (master : Nat) : Answer :=
  match yesNoOf master with
  | none => p.refuse .range
  | some on =>
    let q := { p with panel := p.panel.enable flags on }
    q.ok ([q.panel.enables] ++ field 1 (boolBit on))

/-- RESET_STATION: the soft reset waits until the response has been read. R167 says that it begins when the request is taken; R191, which
lays the two events down, is followed (DEDUCED, log entry 73). -/
def Part.resetRequest (p : Part) : Answer := ({ p with panel := { p.panel with resetWaits := true } }).ok []

/-- The response of a read with none waiting (section 12.5). -/
def noResponse : Response where
  code := 0
  result := .none
  body := []

/-- PANEL_READ: the response goes out in its layout, and the store is empty (R182, R191, R193). -/
def Part.panelRead (p : Part) : Part :=
  if p.phase = .off then p
  else
    let q :=
      { p with
        panel := { p.panel with response := none, resetWaits := false }
        outputs := { p.outputs with panel := p.outputs.panel ++ [(p.panel.response.getD noResponse).bytes] } }
    if p.panel.resetWaits then q.beginSoftReset else q

end Sys2Proof.Machine
end

