-- ==== Sys2Proof/Machine/CardRows.lean ====
section
/-! DEFINITION. The commands of the card line, and the write deadline: one meaning each (R68 to R78). -/

namespace Sys2Proof.Machine

open Sys2Proof

/-- A card that is rejected or refused: EJECT, a return to expect, CARD_REJECT (R70, R71, R72). -/
def Part.eject (p : Part) (r : Reject) : Part := ((p.sendCard .eject).expectReturn).rejectWith r

/-- An accepted card opens its job (R71, R72). -/
def Part.openJob (p : Part) (card : CardRecord) : Part :=
  match card with
  | .account number home => p.expectReturn.openAccountJob number home
  | .value v => p.openValueJob v

/-- A card record is judged, offered and answered (R70, R71). -/
def Part.cardIn (record : List Byte) (p : Part) : Part :=
  match validateCard record with
  | .error r => p.eject r
  | .ok card =>
    match p.cardRefusal card with
    | some r => p.eject r
    | none => p.openJob card

/-- CARD_IN (R70, R71). -/
def execCardIn (record : List Byte) (s : State) : Host.Outcome State Fault Refusal := event s (inService (Part.cardIn record))

/-- The job controller is told of the removal of the value card (R38). -/
def Part.cardRemoved (p : Part) : Part :=
  match p.job.state with
  | .ready | .running | .paused => p.endJob .cardGone
  | .jammed => p.markDrain .cardGone
  | .draining => { p with job := p.job.endWith .cardGone }
  | .idle | .authorize | .settling => p

/-- A CARD_OUT that reaches the card session (R74). -/
def Part.sessionOut (p : Part) : Part :=
  match p.card.session with
  | .closed => p
  | .held card job => ({ p with card := { p.card with session := .gone card job } }).cardRemoved
  | .gone _ _ => p
  | .writing card job _ charge newBalance due =>
    { p with card := { p.card with session := .writing card job true charge newBalance due } }

/-- CARD_OUT taken by the count of returns expected, or by the session (R72). -/
def Part.cardOut (p : Part) : Part :=
  if 0 < p.card.returns then { p with card := { p.card with returns := p.card.returns - 1 } } else p.sessionOut

/-- CARD_OUT (R72, R74). -/
def execCardOut (s : State) : Host.Outcome State Fault Refusal := event s (inService Part.cardOut)

/-- WRITE_DONE against the write in flight (R76). -/
def Part.cardWritten (serial count : Nat) (p : Part) : Part :=
  match p.card.session with
  | .writing card _ _ _ _ _ => if serial = card.serial ∧ count = (card.count + 1) % 65536 then p.closeSession .paid else p
  | .closed | .held _ _ | .gone _ _ => p

/-- WRITE_DONE (R76). -/
def execWriteDone (serial count : Nat) (s : State) : Host.Outcome State Fault Refusal :=
  event s (inService (Part.cardWritten serial count))

/-- WRITE_FAIL against the write in flight (R77). -/
def Part.cardNotWritten (serial : Nat) (p : Part) : Part :=
  match p.card.session with
  | .writing card _ _ _ _ _ => if serial = card.serial then p.closeSession .unpaid else p
  | .closed | .held _ _ | .gone _ _ => p

/-- WRITE_FAIL (R77). -/
def execWriteFail (serial : Nat) (s : State) : Host.Outcome State Fault Refusal :=
  event s (inService (Part.cardNotWritten serial))

/-- CARD_MESSAGE_DISCARDED: no effect on any state (R68). -/
def execCardMessageDiscarded (s : State) : Host.Outcome State Fault Refusal := .next s

/-- The write deadline falls due (R77). -/
def Part.writeDeadline (p : Part) : Part :=
  match p.card.session with
  | .writing _ _ _ _ _ due => if due ≤ p.now then p.closeSession .unpaid else p
  | .closed | .held _ _ | .gone _ _ => p

/-- WRITE_DEADLINE_EXPIRY (R77). -/
def execWriteDeadlineExpiry (s : State) : Host.Outcome State Fault Refusal := event s (inService Part.writeDeadline)

end Sys2Proof.Machine
end

