-- ==== Sys2Proof/Machine/EngineRows.lean ====
section
/-! DEFINITION. The commands of the engine line, and the sheet deadlines: one meaning each. A message whose field lies outside its
range is a garbled message (R45). -/

namespace Sys2Proof.Machine

open Sys2Proof

/-- A feed as the engine reports it, or a garbled message (R44, R45). -/
def Part.feedMessage (media colour sides : Nat) (p : Part) : Part :=
  match colourOf colour, twoSidedOf sides with
  | some c, some twoSided => if media ≤ 7 then p.feed media c twoSided else p.engineStop none
  | _, _ => p.engineStop none

/-- SHEET_FED (R49, R62). -/
def execSheetFed (media colour sides : Nat) (s : State) : Host.Outcome State Fault Refusal :=
  event s (inService (Part.feedMessage media colour sides))

/-- A sensor event as the engine reports it, or a garbled message (R44, R45). -/
def Part.sensorMessage (sensor : Nat) (act : Part → Sensor → Part) (p : Part) : Part :=
  match sensorOf sensor with
  | some x => act p x
  | none => p.engineStop none

/-- SENSOR_ON (R52, R61). -/
def execSensorOn (sensor : Nat) (s : State) : Host.Outcome State Fault Refusal :=
  event s (inService (Part.sensorMessage sensor Part.sensorOn))

/-- SENSOR_OFF (R53, R54, R61). -/
def execSensorOff (sensor : Nat) (s : State) : Host.Outcome State Fault Refusal :=
  event s (inService (Part.sensorMessage sensor Part.sensorOff))

/-- DOOR_OPEN (R56, R61). -/
def execDoorOpen (s : State) : Host.Outcome State Fault Refusal := event s (inService Part.openDoor)

/-- DOOR_CLOSED (R56, R61). -/
def execDoorClosed (s : State) : Host.Outcome State Fault Refusal := event s (inService Part.closeDoor)

/-- ENGINE_FAULT (R56, R63). -/
def execEngineFault (code : Nat) (s : State) : Host.Outcome State Fault Refusal :=
  event s (inService fun p => p.engineStop (if code ≤ 255 then some code else none))

/-- ENGINE_MESSAGE_GARBLED (R45, R63). -/
def execEngineMessageGarbled (s : State) : Host.Outcome State Fault Refusal := event s (inService fun p => p.engineStop none)

/-- SHEET_DEADLINE_EXPIRY (R55). -/
def execSheetDeadlineExpiry (place : Nat) (s : State) : Host.Outcome State Fault Refusal :=
  event s (inService fun p => p.deadline place)

end Sys2Proof.Machine
end

