-- ==== Sys2Proof/Machine/HomeRows.lean ====
section
/-! DEFINITION. The frames that the hold table, the account table and the settlement unit take from the inbound queue, the sweep and
the sending timers: one meaning each (R90, R94, R96, R97, R110 to R120, R126, R128, R132, R148). -/

namespace Sys2Proof.Machine

open Sys2Proof

/-! ### Taking a frame (R148) -/

/-- Frames that the hold table takes (R142). -/
def Message.isHoldRequest : Message → Bool
  | .holdMore _ _ _ | .holdAsk _ _ _ | .holdKeep _ _ => true
  | .settleAck _ _ _ | .holdGive _ _ _ _ _ | .holdDeny _ _ | .holdGone _ _ | .acctAnswer _ _ _ _ => false
  | .settle _ _ _ _ _ | .acctPut _ _ _ _ _ | .acctTopup _ _ | .acctQuery _ | .periodClose _ => false
  | .announce _ | .tally _ _ _ _ _ => false

/-- Frames that the account table takes (R142). -/
def Message.isAccountFrame : Message → Bool
  | .acctPut _ _ _ _ _ | .acctTopup _ _ | .acctQuery _ | .periodClose _ | .announce _ => true
  | .settleAck _ _ _ | .holdGive _ _ _ _ _ | .holdDeny _ _ | .holdGone _ _ | .acctAnswer _ _ _ _ => false
  | .settle _ _ _ _ _ | .holdMore _ _ _ | .holdAsk _ _ _ | .holdKeep _ _ | .tally _ _ _ _ _ => false

/-- Frames that the settlement unit's sending side takes (R142). -/
def Message.isAck : Message → Bool
  | .settleAck _ _ _ => true
  | .settle _ _ _ _ _ | .holdGive _ _ _ _ _ | .holdDeny _ _ | .holdGone _ _ | .acctAnswer _ _ _ _ => false
  | .holdMore _ _ _ | .holdAsk _ _ _ | .holdKeep _ _ | .acctPut _ _ _ _ _ | .acctTopup _ _ => false
  | .acctQuery _ | .periodClose _ | .announce _ | .tally _ _ _ _ _ => false

/-- A block's oldest frame, which leaves the queue, if the block's act on it gives a new part (R148). -/
def Part.takeFrame (p : Part) (mine : Message → Bool) (act : Part → InFrame → Option Part) : Part :=
  match p.line.inbound.find? (fun f => mine f.message) with
  | none => p
  | some f => (act (p.withLine { p.line with inbound := p.line.inbound.eraseP (fun g => mine g.message) }) f).getD p

/-- A block takes its oldest frame when it is ready for it (R104, R110, R148). -/
def Part.takeWhenReady (p : Part) (owner : Owner) (mine : Message → Bool) (act : Part → InFrame → Option Part) : Part :=
  if p.busy owner then p else p.takeFrame mine act

/-! ### The hold table -/

/-- The hold table takes a HOLD_ASK (R90). -/
def Part.actAsk (p : Part) (f : InFrame) : Option Part :=
  match f.message with
  | .holdAsk account job wanted => some (p.assign .hold [.ask f.source account job wanted])
  | _ => none

/-- HOLD_ASK (R89, R90). -/
def execHoldAsk (s : State) : Host.Outcome State Fault Refusal :=
  event s (inService fun p => p.takeWhenReady .hold Message.isHoldRequest Part.actAsk)

/-- The hold table takes a HOLD_MORE (R94). -/
def Part.actMore (p : Part) (f : InFrame) : Option Part :=
  match f.message with
  | .holdMore holdId job increment => some (p.assign .hold [.more f.source holdId job increment])
  | _ => none

/-- HOLD_MORE (R94, R95). -/
def execHoldMore (s : State) : Host.Outcome State Fault Refusal :=
  event s (inService fun p => p.takeWhenReady .hold Message.isHoldRequest Part.actMore)

/-- The hold table takes a HOLD_KEEP (R96). -/
def Part.actKeep (p : Part) (f : InFrame) : Option Part :=
  match f.message with
  | .holdKeep holdId job => some (p.assign .hold [.keep f.source holdId job])
  | _ => none

/-- HOLD_KEEP (R96). -/
def execHoldKeep (s : State) : Host.Outcome State Fault Refusal :=
  event s (inService fun p => p.takeWhenReady .hold Message.isHoldRequest Part.actKeep)

/-- A visit that is due, when the hold table is ready (R97, R104). -/
def Part.sweep (p : Part) : Part :=
  match p.holds.due with
  | none => p
  | some due => if p.busy .hold || decide (p.now < due) then p else p.sweepVisit due

/-- SWEEP_VISIT (R97). -/
def execSweepVisit (s : State) : Host.Outcome State Fault Refusal := event s (inService Part.sweep)

/-! ### The account table -/

/-- Let the account table's decision go on as its work. -/
def Part.accountWork (r : Part × List Task) : Part :=
  match r.2 with
  | [] => r.1
  | tasks => r.1.assign .account tasks

/-- The account table takes an ACCT_PUT (R110, R111). -/
def Part.actPut (p : Part) (f : InFrame) : Option Part :=
  match f.message with
  | .acctPut account kind cls state value =>
    some (if f.dest = 0 then p else Part.accountWork (p.takePut f.source account kind cls state value))
  | _ => none

/-- ACCT_PUT (R111). -/
def execAcctPut (s : State) : Host.Outcome State Fault Refusal :=
  event s (inService fun p => p.takeWhenReady .account Message.isAccountFrame Part.actPut)

/-- The account table takes an ACCT_TOPUP (R110, R112). -/
def Part.actTopup (p : Part) (f : InFrame) : Option Part :=
  match f.message with
  | .acctTopup account amount => some (if f.dest = 0 then p else Part.accountWork (p.takeTopup f.source account amount))
  | _ => none

/-- ACCT_TOPUP (R112). -/
def execAcctTopup (s : State) : Host.Outcome State Fault Refusal :=
  event s (inService fun p => p.takeWhenReady .account Message.isAccountFrame Part.actTopup)

/-- The account table takes an ACCT_QUERY (R110, R113). -/
def Part.actQuery (p : Part) (f : InFrame) : Option Part :=
  match f.message with
  | .acctQuery account => some (if f.dest = 0 then p else p.takeQuery f.source account)
  | _ => none

/-- ACCT_QUERY (R113). -/
def execAcctQuery (s : State) : Host.Outcome State Fault Refusal :=
  event s (inService fun p => p.takeWhenReady .account Message.isAccountFrame Part.actQuery)

/-- ACCT_ANSWER: a received one is discarded (R110, R148). -/
def execAcctAnswer (_source _account _result _available _periodSpent : Nat) (s : State) :
    Host.Outcome State Fault Refusal := .next s

/-- The account table takes a PERIOD_CLOSE (R116, R119). -/
def Part.actClose (p : Part) (f : InFrame) : Option Part :=
  match f.message with
  | .periodClose number => some (p.assign .account [.close number])
  | _ => none

/-- PERIOD_CLOSE (R116, R119). -/
def execPeriodClose (s : State) : Host.Outcome State Fault Refusal :=
  event s (inService fun p => p.takeWhenReady .account Message.isAccountFrame Part.actClose)

/-- The account table takes an ANNOUNCE (R120). -/
def Part.actAnnounce (p : Part) (f : InFrame) : Option Part :=
  match f.message with
  | .announce number => some (p.assign .account [.close number])
  | _ => none

/-- ANNOUNCE (R120). -/
def execAnnounce (s : State) : Host.Outcome State Fault Refusal :=
  event s (inService fun p => p.takeWhenReady .account Message.isAccountFrame Part.actAnnounce)

/-! ### The settlement unit -/

/-- The apply procedure takes a SETTLE: it is discarded or decided (R132). One that names a hold stays in the inbound queue while the hold
table waits on a post of its own (R104, R148; DEDUCED, log entry 81). -/
def Part.actSettle (p : Part) (f : InFrame) : Option Part :=
  match f.message with
  | .settle holdId account job charge impressions =>
    if f.dest = 0 ∨ job = 0 ∨ Config.maxHold < charge then
      some (if p.settlement.requests.isEmpty then p else p.assign .settlement [.nextRequest])
    else if holdId ≠ 0 ∧ p.busy .hold then none
    else
      some
        (p.assign .settlement
          [.decide
            { source := f.source, holdId := holdId, account := account, job := job, charge := charge, impressions := impressions
              requester := .remote }])
  | _ => none

/-- The apply procedure is FREE and its unit does not wait (R125, R132). -/
def Part.settle (p : Part) : Part :=
  if p.settlement.stage = .free then p.takeWhenReady .settlement Message.isSettle Part.actSettle else p

/-- SETTLE (R132 to R136). -/
def execSettle (s : State) : Host.Outcome State Fault Refusal := event s (inService Part.settle)

/-- A sending timer or an acknowledgement is taken when the settlement unit does not wait on a post (R125, R126, R164). -/
def Part.whenSending (act : Part → Part) (p : Part) : Part := if p.sendingWaits then p else act p

/-- SETTLE_QUICK_TIMER_EXPIRY (R126). -/
def execSettleQuickTimerExpiry (home : Nat) (s : State) : Host.Outcome State Fault Refusal :=
  event s (inService (Part.whenSending fun p => p.quickExpiry home))

/-- SETTLE_SLOW_TIMER_EXPIRY (R126). -/
def execSettleSlowTimerExpiry (home : Nat) (s : State) : Host.Outcome State Fault Refusal :=
  event s (inService (Part.whenSending fun p => p.slowExpiry home))

/-- The sending side takes a SETTLE_ACK (R128). -/
def Part.actAck (p : Part) (f : InFrame) : Option Part :=
  match f.message with
  | .settleAck holdId job result => some (p.takeAck f.source holdId job result)
  | _ => none

/-- SETTLE_ACK (R128). -/
def execSettleAck (s : State) : Host.Outcome State Fault Refusal :=
  event s (inService (Part.whenSending fun p => p.takeFrame Message.isAck Part.actAck))

/-- TALLY: a received one is discarded (R142, R148). -/
def execTally (_source _job _funding _id _charge _impressions : Nat) (s : State) :
    Host.Outcome State Fault Refusal := .next s

end Sys2Proof.Machine
end

