-- ==== Sys2Proof/Machine/JobRows.lean ====
section
/-! DEFINITION. The job controller's timers and the hold answers it takes: one meaning each (R24, R26, R31 to R37, R41). -/

namespace Sys2Proof.Machine

open Sys2Proof

/-- A timer that runs and is due. -/
def isDue (timer : Option Nat) (now : Nat) : Bool :=
  match timer with
  | none => false
  | some t => decide (t ≤ now)

/-- An ask attempt's 400 ms run out (R24, R25). -/
def Part.askTimer (p : Part) : Part := if p.job.state = .authorize ∧ isDue p.job.askDue p.now then p.askAttemptEnded else p

/-- ASK_TIMER_EXPIRY (R24). -/
def execAskTimerExpiry (s : State) : Host.Outcome State Fault Refusal := event s (inService Part.askTimer)

/-- The cancelled-ask record's life runs out (R26). -/
def Part.cancelledTimer (p : Part) : Part :=
  match p.settlement.cancelled with
  | none => p
  | some c => if isDue c.due p.now then p.dropCancelled.releaseDeferred else p

/-- CANCELLED_ASK_EXPIRY (R26). -/
def execCancelledAskExpiry (s : State) : Host.Outcome State Fault Refusal := event s (inService Part.cancelledTimer)

/-- A top-up attempt's 400 ms run out (R31, R32). -/
def Part.topupTimer (p : Part) : Part :=
  if p.job.topupOutstanding ∧ isDue p.job.topupDue p.now then p.topupAttemptEnded else p

/-- TOPUP_TIMER_EXPIRY (R31). -/
def execTopupTimerExpiry (s : State) : Host.Outcome State Fault Refusal := event s (inService Part.topupTimer)

/-- Keep the hold (R33). -/
def Part.keepHold (p : Part) : Part :=
  if p.job.funding = some .accountRemote then
    p.sendFrame (p.job.home.getD 0) (.holdKeep (p.job.holdId.getD 0) p.job.number)
  else p.assign .hold [.keep p.station (p.job.holdId.getD 0) p.job.number]

/-- The keep-alive due time comes: it advances, and the hold is kept (R33). -/
def Part.keepTimer (p : Part) : Part :=
  match p.job.keepDue, p.job.lifetime with
  | some due, some lifetime =>
    if due ≤ p.now then ({ p with job := { p.job with keepDue := some (due + keepInterval lifetime) } }).keepHold else p
  | _, _ => p

/-- KEEP_ALIVE_DUE (R33). -/
def execKeepAliveDue (s : State) : Host.Outcome State Fault Refusal := event s (inService Part.keepTimer)

/-- The reason of a job that ends by itself at a time: DONE when its plan is complete, FUNDS when its funds are out (R35), and either
when both hold (log entry 25). -/
def Job.runOutReason (j : Job) (now : Nat) : EndReason :=
  if j.position = j.positions then
    if j.exhausted = some .funds ∧ !j.topupOutstanding ∧ Config.endsForFunds j.number now then .funds else .done
  else .funds

/-- The run-out due time comes with its condition holding (R35). -/
def Part.runOutTimer (p : Part) : Part :=
  if isDue p.job.runOutDue p.now ∧ p.runOutHolds then
    ({ p with job := p.job.endWith (p.job.runOutReason p.now) }).enterSettling
  else p

/-- RUN_OUT_DUE (R35). -/
def execRunOutDue (s : State) : Host.Outcome State Fault Refusal := event s (inService Part.runOutTimer)

/-- IDLE_TIMEOUT (R41). -/
def execIdleTimeout (s : State) : Host.Outcome State Fault Refusal :=
  event s (inService fun p => if p.idleReached then p.idleEnd else p)

/-- HOLD_GIVE, taken at its acceptance (R24, R26, R27, R32, R148). -/
def execHoldGive (source holdId job amount cls lifetime : Nat) (s : State) : Host.Outcome State Fault Refusal :=
  event s (inService fun p => p.takeGive source holdId job amount cls lifetime)

/-- HOLD_DENY, taken at its acceptance (R24, R26, R32, R148). -/
def execHoldDeny (source job reason : Nat) (s : State) : Host.Outcome State Fault Refusal :=
  event s (inService fun p => p.takeDeny source job reason)

/-- HOLD_GONE, taken at its acceptance (R37, R148). -/
def execHoldGone (source holdId job : Nat) (s : State) : Host.Outcome State Fault Refusal :=
  event s (inService fun p => p.takeGone source holdId job)

end Sys2Proof.Machine
end

