-- ==== Sys2Proof/Machine/LineRows.lean ====
section
/-! DEFINITION. The commands of the shop line: one meaning each (R141 to R157). -/

namespace Sys2Proof.Machine

open Sys2Proof

/-- LINE_QUIET_REST (R143, R152). -/
def execLineQuietRest (s : State) : Host.Outcome State Fault Refusal := event s (inService Part.quietRest)

/-- CONTENTION_LOST (R144). -/
def execContentionLost (s : State) : Host.Outcome State Fault Refusal := event s (inService Part.contentionLost)

/-- A send that won contention ends: the frame has been sent whole, and then follow its outcome, what its owner does, and the rest
that ends the transmission (R141, R143, R147). -/
def Part.sendResult (answered : Bool) (p : Part) : Part :=
  match p.line.sending with
  | none => p
  | some ticket => (((p.driveFrame ticket).sendOutcome ticket answered).follow p).restAfter p

/-- SEND_RESULT (R147). -/
def execSendResult (answered : Bool) (s : State) : Host.Outcome State Fault Refusal := event s (inService (Part.sendResult answered))

/-- A transmission ends: it is taken, what its taking brings about is done, and a rest falls (R143, R145). -/
def Part.frameReceived (bytes : List Byte) (p : Part) : Part := ((p.receive bytes).follow p).restAfter p

/-- A transmission that ends out of service: nothing is taken, and no answer slot is driven (R158). -/
def Part.frameUnanswered (p : Part) : Part := p.withLine { p.line with answered := false }

/-- FRAME_RECEIVED (R141, R145, R158). -/
def execFrameReceived (bytes : List Byte) (s : State) : Host.Outcome State Fault Refusal :=
  event s (fun p => if p.serving then p.frameReceived bytes else p.frameUnanswered)

end Sys2Proof.Machine
end

