-- ==== Sys2Proof/Machine/PanelRows.lean ====
section
/-! DEFINITION. The commands of the panel port: one meaning each, by the request codes of section 12.5. -/

namespace Sys2Proof.Machine

open Sys2Proof

/-- PANEL_READ (R182, R191). -/
def execPanelRead (s : State) : Host.Outcome State Fault Refusal := event s Part.panelRead

/-- PANEL_REQUEST_UNKNOWN: tests 1 and 2 of R182. With the code of START it is no refused START of R28, and the activity time stays
(DEDUCED, log entry 59). -/
def execPanelRequestUnknown (code : Nat) (s : State) : Host.Outcome State Fault Refusal :=
  reading s code fun p => p.refuse .unknown

/-- STATUS (R183). -/
def execStatus (s : State) : Host.Outcome State Fault Refusal := .next { s with part := s.part.statusRequest }

/-- START (R28). -/
def execStart (media colour sides originals copies collated : Nat) (s : State) : Host.Outcome State Fault Refusal :=
  event s fun p =>
    p.requestWith 2 false Part.touchOpen fun q => q.startRequest media colour sides originals copies collated

/-- RESUME (R40). -/
def execResume (s : State) : Host.Outcome State Fault Refusal := event s fun p => p.request 3 false Part.resumeRequest

/-- END (R34). -/
def execEnd (s : State) : Host.Outcome State Fault Refusal := event s fun p => p.request 4 false fun q => q.endRequest .panelEnd

/-- CANCEL (R26, R34). -/
def execCancel (s : State) : Host.Outcome State Fault Refusal := event s fun p => p.request 5 false Part.cancelRequest

/-- JOB_READ (R20, R66, R79). -/
def execJobRead (s : State) : Host.Outcome State Fault Refusal := reading s 6 (readsOk fun p => p.job.snapshot)

/-- QUOTE (R18, R19): refused while OUT_OF_SERVICE. -/
def execQuote (media colour sides sheets cls : Nat) (s : State) : Host.Outcome State Fault Refusal :=
  .next { s with part := s.part.request 7 false fun p => p.quoteRequest media colour sides sheets cls }

/-- JOURNAL_READ (R176). -/
def execJournalRead (first : Nat) (s : State) : Host.Outcome State Fault Refusal :=
  reading s 8 (readsOk fun p => p.journalBody first)

/-- JOURNAL_RELEASE (R177). -/
def execJournalRelease (upTo : Nat) (s : State) : Host.Outcome State Fault Refusal :=
  event s fun p => p.request 9 false fun q => q.releaseRequest upTo

/-- METER_READ (R179). -/
def execMeterRead (index : Nat) (s : State) : Host.Outcome State Fault Refusal := reading s 10 fun p => p.meterRequest index

/-- JAM_LOG_READ (R60). -/
def execJamLogRead (s : State) : Host.Outcome State Fault Refusal := reading s 11 (readsOk Part.jamLogBody)

/-- ACCOUNT_READ (R122). -/
def execAccountRead (account : Nat) (s : State) : Host.Outcome State Fault Refusal :=
  reading s 12 fun p => p.accountRequest account

/-- HOLD_READ (R105). -/
def execHoldRead (index : Nat) (s : State) : Host.Outcome State Fault Refusal := reading s 13 fun p => p.holdRequest index

/-- DEFERRED_READ (R129). -/
def execDeferredRead (index : Nat) (s : State) : Host.Outcome State Fault Refusal :=
  reading s 14 fun p => p.deferredRequest index

/-- HEARD_READ (R155). -/
def execHeardRead (s : State) : Host.Outcome State Fault Refusal := reading s 15 (readsOk Part.heardBody)

/-- ALERT_READ (R184). -/
def execAlertRead (s : State) : Host.Outcome State Fault Refusal := reading s 16 (readsOk fun p => p.panel.alertBody)

/-- ALERT_ACK (R185). -/
def execAlertAck (flags : Byte) (s : State) : Host.Outcome State Fault Refusal :=
  event s fun p => p.request 17 true fun q => q.ackRequest flags

/-- ALERT_ENABLE (R185). -/
def execAlertEnable (flags : Byte) (master : Nat) (s : State) : Host.Outcome State Fault Refusal :=
  event s fun p => p.request 18 true fun q => q.enableRequest flags master

/-- RESET_STATION (R191). -/
def execResetStation (s : State) : Host.Outcome State Fault Refusal := event s fun p => p.request 19 false Part.resetRequest

end Sys2Proof.Machine
end

