-- ==== Sys2Proof/Machine/SupplyRows.lean ====
section
/-! DEFINITION. The commands of the supply, the reset pin, the config line and the ledger store: one meaning each. -/

namespace Sys2Proof.Machine

open Sys2Proof

/-- The supply is applied (R190). With the reset pin asserted, start-up waits for its release. -/
def Part.powerOn (p : Part) : Part :=
  if p.phase ≠ .off then p
  else if p.resetPin then p.resetValues (.draining true)
  else p.startUp true

/-- POWER_ON (R190). -/
def execPowerOn (s : State) : Host.Outcome State Fault Refusal := event s Part.powerOn

/-- POWER_LOSS (R166). -/
def execPowerLoss (programmed : Bool) (s : State) : Host.Outcome State Fault Refusal :=
  event s fun p => if p.phase = .off then p else p.losePower programmed

/-- The reset pin is asserted: a soft reset begins, unless the supply is off or one is in progress (R191). -/
def Part.assertReset (p : Part) : Part :=
  let q := { p with resetPin := true }
  match p.phase with
  | .loading | .recovering | .serving => q.beginSoftReset
  | .off | .draining _ => q

/-- RESET_PIN_ASSERT (R191). -/
def execResetPinAssert (s : State) : Host.Outcome State Fault Refusal := event s Part.assertReset

/-- RESET_PIN_RELEASE (R191). -/
def execResetPinRelease (s : State) : Host.Outcome State Fault Refusal := event s fun p => { p with resetPin := false }

/-- The image has been read, and recovery begins (R188, R190). -/
def Part.loadDone (p : Part) (image : List Word16) : Part :=
  if p.phase = .loading then ({ p with config := loadImage image }).beginRecovery else p

/-- CONFIG_LOAD_DONE (R187, R188). -/
def execConfigLoadDone (image : List Word16) (s : State) : Host.Outcome State Fault Refusal :=
  event s fun p => p.loadDone image

/-- WRITE_COMPLETE (R161). -/
def execWriteComplete (s : State) : Host.Outcome State Fault Refusal := event s Part.writeComplete

end Sys2Proof.Machine
end

