-- ==== Sys2Proof/Machine/Dispatch.lean ====
section
/-! DEFINITION. The meaning of every command: one arm for each constructor of Instr. -/

namespace Sys2Proof.Machine

open Sys2Proof

def exec (i : Instr) (s : State) : Host.Outcome State Fault Refusal :=
  match i with
  | .powerOn => Sys2Proof.Machine.execPowerOn s
  | .powerLoss programmed => Sys2Proof.Machine.execPowerLoss programmed s
  | .resetPinAssert => Sys2Proof.Machine.execResetPinAssert s
  | .resetPinRelease => Sys2Proof.Machine.execResetPinRelease s
  | .configLoadDone image => Sys2Proof.Machine.execConfigLoadDone image s
  | .writeComplete => Sys2Proof.Machine.execWriteComplete s
  | .panelRead => Sys2Proof.Machine.execPanelRead s
  | .panelRequestUnknown code => Sys2Proof.Machine.execPanelRequestUnknown code s
  | .status => Sys2Proof.Machine.execStatus s
  | .start media colour sides originals copies collated => Sys2Proof.Machine.execStart media colour sides originals copies collated s
  | .resume => Sys2Proof.Machine.execResume s
  | .endJob => Sys2Proof.Machine.execEnd s
  | .cancel => Sys2Proof.Machine.execCancel s
  | .jobRead => Sys2Proof.Machine.execJobRead s
  | .quote media colour sides sheets cls => Sys2Proof.Machine.execQuote media colour sides sheets cls s
  | .journalRead first => Sys2Proof.Machine.execJournalRead first s
  | .journalRelease upTo => Sys2Proof.Machine.execJournalRelease upTo s
  | .meterRead index => Sys2Proof.Machine.execMeterRead index s
  | .jamLogRead => Sys2Proof.Machine.execJamLogRead s
  | .accountRead account => Sys2Proof.Machine.execAccountRead account s
  | .holdRead index => Sys2Proof.Machine.execHoldRead index s
  | .deferredRead index => Sys2Proof.Machine.execDeferredRead index s
  | .heardRead => Sys2Proof.Machine.execHeardRead s
  | .alertRead => Sys2Proof.Machine.execAlertRead s
  | .alertAck flags => Sys2Proof.Machine.execAlertAck flags s
  | .alertEnable flags master => Sys2Proof.Machine.execAlertEnable flags master s
  | .resetStation => Sys2Proof.Machine.execResetStation s
  | .sheetFed media colour sides => Sys2Proof.Machine.execSheetFed media colour sides s
  | .sensorOn sensor => Sys2Proof.Machine.execSensorOn sensor s
  | .sensorOff sensor => Sys2Proof.Machine.execSensorOff sensor s
  | .doorOpen => Sys2Proof.Machine.execDoorOpen s
  | .doorClosed => Sys2Proof.Machine.execDoorClosed s
  | .engineFault code => Sys2Proof.Machine.execEngineFault code s
  | .engineMessageGarbled => Sys2Proof.Machine.execEngineMessageGarbled s
  | .sheetDeadlineExpiry place => Sys2Proof.Machine.execSheetDeadlineExpiry place s
  | .cardIn record => Sys2Proof.Machine.execCardIn record s
  | .cardOut => Sys2Proof.Machine.execCardOut s
  | .writeDone serial count => Sys2Proof.Machine.execWriteDone serial count s
  | .writeFail serial => Sys2Proof.Machine.execWriteFail serial s
  | .cardMessageDiscarded => Sys2Proof.Machine.execCardMessageDiscarded s
  | .writeDeadlineExpiry => Sys2Proof.Machine.execWriteDeadlineExpiry s
  | .askTimerExpiry => Sys2Proof.Machine.execAskTimerExpiry s
  | .cancelledAskExpiry => Sys2Proof.Machine.execCancelledAskExpiry s
  | .topupTimerExpiry => Sys2Proof.Machine.execTopupTimerExpiry s
  | .keepAliveDue => Sys2Proof.Machine.execKeepAliveDue s
  | .runOutDue => Sys2Proof.Machine.execRunOutDue s
  | .idleTimeout => Sys2Proof.Machine.execIdleTimeout s
  | .holdGive source holdId job amount cls lifetime => Sys2Proof.Machine.execHoldGive source holdId job amount cls lifetime s
  | .holdDeny source job reason => Sys2Proof.Machine.execHoldDeny source job reason s
  | .holdGone source holdId job => Sys2Proof.Machine.execHoldGone source holdId job s
  | .holdAsk => Sys2Proof.Machine.execHoldAsk s
  | .holdMore => Sys2Proof.Machine.execHoldMore s
  | .holdKeep => Sys2Proof.Machine.execHoldKeep s
  | .sweepVisit => Sys2Proof.Machine.execSweepVisit s
  | .acctPut => Sys2Proof.Machine.execAcctPut s
  | .acctTopup => Sys2Proof.Machine.execAcctTopup s
  | .acctQuery => Sys2Proof.Machine.execAcctQuery s
  | .acctAnswer source account result available periodSpent => Sys2Proof.Machine.execAcctAnswer source account result available periodSpent s
  | .periodClose => Sys2Proof.Machine.execPeriodClose s
  | .announce => Sys2Proof.Machine.execAnnounce s
  | .settle => Sys2Proof.Machine.execSettle s
  | .settleQuickTimerExpiry home => Sys2Proof.Machine.execSettleQuickTimerExpiry home s
  | .settleSlowTimerExpiry home => Sys2Proof.Machine.execSettleSlowTimerExpiry home s
  | .settleAck => Sys2Proof.Machine.execSettleAck s
  | .tally source job funding id charge impressions => Sys2Proof.Machine.execTally source job funding id charge impressions s
  | .lineQuietRest => Sys2Proof.Machine.execLineQuietRest s
  | .contentionLost => Sys2Proof.Machine.execContentionLost s
  | .sendResult answered => Sys2Proof.Machine.execSendResult answered s
  | .frameReceived bytes => Sys2Proof.Machine.execFrameReceived bytes s

end Sys2Proof.Machine
end

