-- ==== Sys2Proof/WellFormed.lean ====
section
/-! DEFINITION. Which commands the wire can carry: each number within the width its field has in chapter 12, and for the
engine events within the ranges of R44, since a message outside them is the row ENGINE_MESSAGE_GARBLED (R45). -/

namespace Sys2Proof

/-- A number that a field of `size` bytes can carry. -/
def fits (size value : Nat) : Bool := decide (value < 256 ^ size)

/-- A station number (R141). -/
def isStation (n : Nat) : Bool := decide (1 ≤ n) && decide (n ≤ 30)

/-- The check of a command's operands against the widths of chapter 12. -/
def WellFormed : Instr → Bool
  | .powerOn => true
  | .powerLoss _ => true
  | .resetPinAssert => true
  | .resetPinRelease => true
  | .configLoadDone image => image.length == 64
  | .writeComplete => true
  | .panelRead => true
  | .panelRequestUnknown code => fits 1 code
  | .status => true
  | .start media colour sides originals copies collated =>
      fits 1 media && fits 1 colour && fits 1 sides && fits 2 originals && fits 2 copies && fits 1 collated
  | .resume => true
  | .endJob => true
  | .cancel => true
  | .jobRead => true
  | .quote media colour sides sheets cls => fits 1 media && fits 1 colour && fits 1 sides && fits 3 sheets && fits 1 cls
  | .journalRead first => fits 4 first
  | .journalRelease upTo => fits 4 upTo
  | .meterRead index => fits 1 index
  | .jamLogRead => true
  | .accountRead account => fits 3 account
  | .holdRead index => fits 1 index
  | .deferredRead index => fits 1 index
  | .heardRead => true
  | .alertRead => true
  | .alertAck _ => true
  | .alertEnable _ master => fits 1 master
  | .resetStation => true
  | .sheetFed media colour sides =>
      decide (media ≤ 7) && decide (colour ≤ 1) && (sides == 1 || sides == 2)
  | .sensorOn sensor => decide (sensor ≤ 2)
  | .sensorOff sensor => decide (sensor ≤ 2)
  | .doorOpen => true
  | .doorClosed => true
  | .engineFault code => fits 1 code
  | .engineMessageGarbled => true
  | .sheetDeadlineExpiry place => decide (place ≤ 5)
  | .cardIn record => decide (record.length ≤ 255)
  | .cardOut => true
  | .writeDone serial count => fits 4 serial && fits 2 count
  | .writeFail serial => fits 4 serial
  | .cardMessageDiscarded => true
  | .writeDeadlineExpiry => true
  | .askTimerExpiry => true
  | .cancelledAskExpiry => true
  | .topupTimerExpiry => true
  | .keepAliveDue => true
  | .runOutDue => true
  | .idleTimeout => true
  | .holdGive source holdId job amount cls lifetime =>
      isStation source && fits 2 holdId && fits 2 job && fits 4 amount && fits 1 cls && fits 2 lifetime
  | .holdDeny source job reason => isStation source && fits 2 job && fits 1 reason
  | .holdGone source holdId job => isStation source && fits 2 holdId && fits 2 job
  | .holdAsk => true
  | .holdMore => true
  | .holdKeep => true
  | .sweepVisit => true
  | .acctPut => true
  | .acctTopup => true
  | .acctQuery => true
  | .acctAnswer source account result available periodSpent =>
      isStation source && fits 3 account && fits 1 result && fits 4 available && fits 4 periodSpent
  | .periodClose => true
  | .announce => true
  | .settle => true
  | .settleQuickTimerExpiry home => isStation home
  | .settleSlowTimerExpiry home => isStation home
  | .settleAck => true
  | .tally source job funding id charge impressions =>
      isStation source && fits 2 job && fits 1 funding && fits 4 id && fits 4 charge && fits 3 impressions
  | .lineQuietRest => true
  | .contentionLost => true
  | .sendResult _ => true
  | .frameReceived _ => true

end Sys2Proof
end

