-- ==== Sys2Proof/Safety.lean ====
section
/-! DEFINITION. The terms that claims use: the conditions that every step keeps, and the part in service with nothing of its own
left to do. -/

namespace Sys2Proof.Machine

open Sys2Proof

/-! ### Conditions that every step keeps -/

/-- The memory of the ledger store is in its one canonical form (R160). -/
abbrev Part.Canonical (p : Part) : Prop := p.store.stored.wf

/-- Every list and count of a fixed size stays within it (R47, R59, R64, R72, R145, R146, R149, R161), and the oldest post is being
programmed (R161). -/
abbrev Part.InPlaces (p : Part) : Prop :=
  p.store.queue.length ≤ Config.queuePlaces ∧ p.line.outbound.length ≤ Config.queuePlaces ∧
    p.line.inbound.length ≤ Config.queuePlaces ∧ p.path.sheets.length ≤ Config.pathPlaces ∧ p.path.log.length ≤ 8 ∧
    p.line.score ≤ 255 ∧ p.card.returns ≤ 7 ∧ (p.path.jammed = true → p.path.sheets = []) ∧
    p.store.starting = false

/-- PERMIT is asserted exactly when the conditions of R30 hold in service, and never without supply or during start-up. -/
abbrev Part.PermitSafe (p : Part) : Prop :=
  (p.phase = .serving → p.permit = p.permitHolds) ∧
    (p.phase = .off ∨ p.phase = .loading ∨ p.phase = .recovering → p.permit = false)

/-- The ALERT output is what the flags and their enables make it (R186). -/
abbrev Part.AlertDecided (p : Part) : Prop := p.alertOut = p.panel.drives

/-! ### Sums that every step in service keeps -/

/-- A write of a running record (R165). -/
def Write.isRunning : Write → Bool
  | .meter _ _ | .checkpoint _ | .counter .jobNumber _ => true
  | .account _ _ | .hold _ _ | .journal _ _ | .deferred _ _ | .mark _ _ | .apply _ | .period _ => false
  | .counter .holdId _ | .counter .journalSequence _ | .counter .applySequence _ | .counter .releaseMark _ => false

/-- Only running records have pending values (R165). -/
abbrev Part.PendingRuns (p : Part) : Prop := ∀ w ∈ p.store.pending, w.isRunning = true

/-- The sum of an account's ACTIVE hold records (R86). -/
def activeHolds (l : Ledger) (account : Nat) : Nat :=
  ((l.holds.filter (fun e => decide (e.2.account = account))).map (fun e => activeAmount e.2)).sum

/-- The held amount of every account is the sum of its ACTIVE records (R86). -/
def Part.HeldSums (p : Part) : Prop :=
  Rising p.accounts.held ∧ p.PendingRuns ∧ ∀ account, p.held account = activeHolds p.ledger account

/-- The sheets in the path that belong to the open job (R50). -/
def Part.owned (p : Part) : List Sheet := p.path.sheets.filter p.owns

/-- What a funded job that has not settled keeps: G and the reserve sum within its hold, the reserve sum that of its sheets in the path,
D and its indexed sheets making up A, and A within P × K (R13, R29). A JAMMED job stands before a jammed path with no sheet in it. -/
abbrev Part.JobWithin (p : Part) : Prop :=
  p.job.acc.gross + p.job.acc.reserved ≤ 1000 * p.job.amount ∧
    p.job.acc.reserved = (p.owned.map Sheet.reserve).sum ∧
    p.job.position + p.owned.countP (fun sheet => sheet.index.isSome) = p.job.assigned ∧
    p.job.assigned ≤ p.job.positions ∧ (p.job.state = .ready → p.job.assigned = 0) ∧
    (p.job.state = .jammed → p.path.jammed = true ∧ p.path.sheets = [])

/-- The sums of the open job, by its state (R6, R13, R29). -/
def Part.JobSums (p : Part) : Prop :=
  match p.job.state with
  | .idle | .settling => True
  | .authorize => p.job.acc = {} ∧ p.job.position = 0 ∧ p.job.assigned = 0 ∧ p.owned = []
  | .ready | .running | .jammed | .paused | .draining => p.JobWithin

/-- A step that takes a deferred slot takes one that was reserved for it (R124, R125). -/
def Task.keepsRoom : Task → Bool
  | .putEntry _ _ _ _ _ _ _ reserved _ => reserved
  | .recoverCheckpoint => false
  | _ => true

/-- A step that is to write a deferred entry (R125). -/
def Task.putsEntry : Task → Bool
  | .putEntry _ _ _ _ _ _ _ _ _ => true
  | _ => false

/-- A job that has a deferred slot reserved for it (R21, R123): one that asks, and an account job or a FLOAT job until it settles. -/
def Job.claimsSlot (j : Job) : Bool :=
  decide (j.state = .authorize) ||
    (j.state.takesTopups && (j.accountFunded || j.funding == some .float))

/-- The deferred slots that have been reserved and will be given back or used: the open job's, the cancelled ask's (R26), and that of
each entry still to be written (R125). -/
def Part.slotClaims (p : Part) : Nat :=
  p.job.claimsSlot.toNat + p.settlement.cancelled.isSome.toNat +
    (p.store.work.map (fun w => w.tasks.countP Task.putsEntry)).sum

/-- Entries and reservations take at most the 16 slots (R124), and every slot still to be used is reserved. -/
def Part.DeferredSums (p : Part) : Prop :=
  p.PendingRuns ∧ p.deferredUsed + p.settlement.reserved ≤ Config.deferredSlots ∧ p.slotClaims ≤ p.settlement.reserved ∧
    ∀ w ∈ p.store.work, ∀ t ∈ w.tasks, t.keepsRoom = true

/-! ### A part with nothing of its own left to do -/

/-- In service, with no work waiting and no value pending, and with every rule that follows an event already acted on: a command
then does what its own rules say, and no more. -/
abbrev Part.AtRest (p : Part) : Prop :=
  p.phase = .serving ∧ p.store.work = [] ∧ p.store.pending = [] ∧
    ¬(p.job.state = .draining ∧ p.path.sheets.isEmpty = true) ∧
    (p.outOfFunds = true → p.job.topupOutstanding = true ∨ p.job.exhausted.isSome = true) ∧
    p.runOutHolds = p.job.runOutDue.isSome ∧ p.permit = p.permitHolds ∧ p.store.starting = false

/-! ### Frames of the shop line -/

/-- Each field of a message within its width (section 12.1). -/
def Message.inWidth : Message → Bool
  | .settleAck h j r => fits 2 h && fits 2 j && fits 1 r
  | .holdGive h j a c l =>
    fits 2 h && fits 2 j && fits 4 a && fits 1 c && fits 2 l
  | .holdDeny j r => fits 2 j && fits 1 r
  | .holdGone h j => fits 2 h && fits 2 j
  | .acctAnswer a r v s => fits 3 a && fits 1 r && fits 4 v && fits 4 s
  | .settle h a j f i =>
    fits 2 h && fits 3 a && fits 2 j && fits 4 f && fits 3 i
  | .holdMore h j i => fits 2 h && fits 2 j && fits 4 i
  | .holdAsk a j w => fits 3 a && fits 2 j && fits 4 w
  | .holdKeep h j => fits 2 h && fits 2 j
  | .acctPut a k c s v => fits 3 a && decide (k ≤ 1) && decide (c ≤ 3) && decide (s ≤ 3) && fits 4 v
  | .acctTopup a m => fits 3 a && fits 4 m
  | .acctQuery a => fits 3 a
  | .periodClose n => fits 2 n
  | .announce n => fits 2 n
  | .tally j f i c n =>
    fits 2 j && fits 1 f && fits 4 i && fits 4 c && fits 3 n

/-! ### Frames dropped, and answers taken at once -/

/-- A frame with this ticket is among those. -/
def dropsTicket (frames : List OutFrame) (ticket : Option Nat) : Bool := frames.any (fun f => decide (some f.ticket = ticket))

/-- The open job after frames have been dropped and their owners told, in a line state that refuses every frame (R24, R31, R146, R151,
R153): an ask or a top-up whose frame is among them makes its next attempt, which is refused and left to its timer. -/
def Job.told (frames : List OutFrame) (now : Nat) (j : Job) : Job :=
  if j.state = .authorize then
    if dropsTicket frames j.askFrame then
      { j with askAttempts := j.askAttempts + 1, askDue := some (now + 400), askFrame := none }
    else j
  else if j.topupOutstanding && dropsTicket frames j.topupFrame then
    { j with topupAttempts := j.topupAttempts + 1, topupDue := some (now + 400), topupFrame := none }
  else j

/-- The settlement unit after frames have been dropped and their owners told: the cancelled ask whose frame is among them ends and gives
its slot back (R26, R151, R153). -/
def SettlementUnit.told (frames : List OutFrame) (u : SettlementUnit) : SettlementUnit :=
  if u.cancelled.any (fun c => dropsTicket frames c.frame) then { u with cancelled := none, reserved := u.reserved - 1 } else u

/-- An asking job and a topping-up job have an attempt left, and no frame is both the job's and the cancelled ask's. -/
abbrev Part.AttemptsLeft (p : Part) : Prop :=
  (p.job.state = .authorize → p.job.topupOutstanding = false ∧ p.job.askAttempts < 3) ∧
    (p.job.topupOutstanding = true → p.job.topupAttempts < 3) ∧
    ∀ c, p.settlement.cancelled = some c → c.frame.isSome = true → c.frame ≠ p.job.askFrame ∧ c.frame ≠ p.job.topupFrame

/-- The command of a message that the job controller or the line controller acts on at once (R148). -/
def answerCommand (source : Nat) : Message → Option Instr
  | .holdGive h j a c l => some (.holdGive source h j a c l)
  | .holdDeny j r => some (.holdDeny source j r)
  | .holdGone h j => some (.holdGone source h j)
  | .acctAnswer a r v n => some (.acctAnswer source a r v n)
  | .tally j f i c n => some (.tally source j f i c n)
  | .settleAck _ _ _ | .settle _ _ _ _ _ | .holdMore _ _ _ | .holdAsk _ _ _ | .holdKeep _ _ => none
  | .acctPut _ _ _ _ _ | .acctTopup _ _ | .acctQuery _ | .periodClose _ | .announce _ => none

/-! ### Requests of the panel port -/

/-- The code of a request that names one (section 12.5); an unknown request has the code it came with. -/
def requestCode : Instr → Option Nat
  | .panelRequestUnknown code => some code
  | .status => some 1
  | .start _ _ _ _ _ _ => some 2
  | .resume => some 3
  | .endJob => some 4
  | .cancel => some 5
  | .jobRead => some 6
  | .quote _ _ _ _ _ => some 7
  | .journalRead _ => some 8
  | .journalRelease _ => some 9
  | .meterRead _ => some 10
  | .jamLogRead => some 11
  | .accountRead _ => some 12
  | .holdRead _ => some 13
  | .deferredRead _ => some 14
  | .heardRead => some 15
  | .alertRead => some 16
  | .alertAck _ => some 17
  | .alertEnable _ _ => some 18
  | .resetStation => some 19
  | .powerOn | .powerLoss _ | .resetPinAssert | .resetPinRelease | .configLoadDone _ | .writeComplete | .panelRead => none
  | .sheetFed _ _ _ | .sensorOn _ | .sensorOff _ | .doorOpen | .doorClosed | .engineFault _ | .engineMessageGarbled => none
  | .sheetDeadlineExpiry _ | .cardIn _ | .cardOut | .writeDone _ _ | .writeFail _ | .cardMessageDiscarded => none
  | .writeDeadlineExpiry | .askTimerExpiry | .cancelledAskExpiry | .topupTimerExpiry | .keepAliveDue | .runOutDue => none
  | .idleTimeout | .holdGive _ _ _ _ _ _ | .holdDeny _ _ _ | .holdGone _ _ _ | .holdAsk | .holdMore | .holdKeep => none
  | .sweepVisit | .acctPut | .acctTopup | .acctQuery | .acctAnswer _ _ _ _ _ | .periodClose | .announce | .settle => none
  | .settleQuickTimerExpiry _ | .settleSlowTimerExpiry _ | .settleAck | .tally _ _ _ _ _ _ | .lineQuietRest => none
  | .contentionLost | .sendResult _ | .frameReceived _ => none

/-- The requests that an OUT_OF_SERVICE station does not answer (R182). -/
def refusedOutOfService : List Nat := [2, 3, 4, 5, 7, 9, 19]

/-- A part with a response in its store. -/
def Part.answering (p : Part) (code : Nat) (result : PanelResult) (body : List Byte) : Part :=
  { p with panel := { p.panel with response := some { code := code, result := result, body := body } } }

/-! ### Ends of jobs -/

/-- The part after a job of ACCOUNT_REMOTE or FLOAT funding has ended on an empty path (R42, R43, R123, R125): SETTLING, with F fixed,
the timers and the top-up gone, PERMIT released, and its deferred entry posted to `slot` under the job's reservation. A FLOAT job's
entry has hold id 0, and the job's H leaves float outstanding; with hold id 0 the charge joins it (R82, log entry 52). -/
def Part.settledRemote (p : Part) (r : EndReason) (slot : Nat) : Part :=
  let charge := finalCharge p.config.values p.job.acc.gross p.job.acc.delivered p.job.cls (p.job.limit.getD 0)
  let number := nextEntryNumber p.ledger
  let float := p.job.funding = some .float
  let holdId := if float then 0 else p.job.holdId.getD 0
  { p with
    permit := false
    job :=
      { p.job with
        state := .settling, endReason := some (p.job.endReason.getD r), charge := some charge, keepDue := none
        runOutDue := none, topupOutstanding := false, topupAttempts := 0, topupDue := none, topupFrame := none }
    settlement :=
      { p.settlement with
        reserved := p.settlement.reserved - 1
        floatOutstanding :=
          p.settlement.floatOutstanding - (if float then p.job.limit.getD 0 else 0) + (if holdId = 0 then charge else 0) }
    store :=
      { p.store with
        queue :=
          p.store.queue ++
            [{ write :=
                .deferred slot
                  (some
                    { number := number, home := p.job.home.getD 0, holdId := holdId, account := p.job.payer
                      job := p.job.number, charge := charge, impressions := min 16777215 p.job.acc.delivered, attempts := 0 })
               notes := [.entryStored number true] }] }
    panel := p.panel.raise .jobState }

/-! ### The close walk -/

/-- The walk for a period carries a slot from its pointer on: one of the 512, in use, and closed for an earlier period (R117). -/
def walkCarries (pointer number : Nat) (e : Nat × AccountSlot) : Bool :=
  decide (pointer ≤ e.1) && decide (e.1 < 512) &&
    match e.2 with
    | .vacated => false
    | .used a => decide (a.closedPeriod < number)

/-- The slot writes that carry records into a period (R117). -/
def walkPosts (number : Nat) (slots : List (Nat × AccountSlot)) : List Post :=
  slots.filterMap fun e =>
    match e.2 with
    | .vacated => none
    | .used a =>
      some
        { write :=
            .account e.1
              (.used
                { a with
                  lastSpent := a.spent, spent := 0, impressions := 0, closedPeriod := number
                  overdrawn :=
                    match a.credit with
                    | .charge _ => false
                    | .prepaid _ => a.overdrawn })
          notes := [.walk] }

end Sys2Proof.Machine
end

