-- ==== Sys2Proof/Certificates/Slice0/Obligations.lean ====
section
/-! DEFINITION. The statements for the provers. Each docstring says what the statement claims and which rules it comes from. -/

open Sys2Proof Sys2Proof.Machine

/-! ### The machine -/

/-- A step with a command waiting is the meaning of the command at the front of the queue, on the state with the queue's rest. -/
def Obligations.StepTakesTheFrontCommand : Prop :=
  ∀ (c : Instr) (rest : List Instr) (p : Part),
    step { pending := c :: rest, part := p } = exec c { pending := rest, part := p }

/-- Every command completes in every state, and never touches the queue: no command of the manual stops the part. -/
def Obligations.EveryCommandHasANextState : Prop :=
  ∀ (c : Instr) (s : State), ∃ t, exec c s = .next t ∧ t.pending = s.pending

/-- With no command waiting one millisecond of the time base passes, unless the supply is off; nothing else changes. That a step
on an empty queue is one millisecond is the model's choice (log entry 1). -/
def Obligations.EmptyQueuePassesAMillisecond : Prop :=
  ∀ p : Part,
    step { pending := [], part := p } =
      .next { pending := [], part := if p.phase = .off then p else { p with now := p.now + 1 } }

/-- The state after reset is a new part whose supply has just been applied (R190 step 1): the job record IDLE, PERMIT and ALERT
released, the path CLEAR and empty, the card session NONE, the queues empty, the score 0, every heard entry never, the store
never written, the flags clear, with the CONFIG enable and the master enable on, the response store empty, the image about to be
loaded. (That the state after reset is a new part at the start of its load, with its outputs empty, is the model's choice:
log entries 3, 38 and 45.) -/
def Obligations.ResetLeavesTheResetValues : Prop :=
  State.reset.pending = [] ∧ State.reset.part.phase = .loading ∧ State.reset.part.now = 0 ∧ State.reset.part.job = {} ∧
    State.reset.part.job.state = .idle ∧ State.reset.part.permit = false ∧ State.reset.part.path = {} ∧
    State.reset.part.path.jammed = false ∧ State.reset.part.card.session = .closed ∧ State.reset.part.card.returns = 0 ∧
    State.reset.part.line.outbound = [] ∧ State.reset.part.line.inbound = [] ∧ State.reset.part.line.score = 0 ∧
    State.reset.part.line.heard = [] ∧ State.reset.part.store = {} ∧ State.reset.part.store.stored = {} ∧
    State.reset.part.settlement.stage = .free ∧ State.reset.part.journal = {} ∧ State.reset.part.panel.flags = 0 ∧
    State.reset.part.panel.enables = 0x40 ∧ State.reset.part.panel.master = true ∧ State.reset.part.panel.reject = none ∧
    State.reset.part.panel.response = none ∧ State.reset.part.alertOut = false ∧ State.reset.part.outputs = {}

/-- The state after reset meets every condition that a step keeps. (The state after reset is the one of log entry 3.) -/
def Obligations.ResetMeetsTheInvariants : Prop :=
  State.reset.part.Canonical ∧ State.reset.part.InPlaces ∧ State.reset.part.PermitSafe ∧ State.reset.part.AlertDecided ∧
    State.reset.part.HeldSums ∧ State.reset.part.JobSums ∧ State.reset.part.DeferredSums

/-- Every step, from every state, keeps the memory of the ledger store in its canonical form: records in rising order, each at
most once, and no meter or mark listed at what an unlisted one reads as. -/
def Obligations.StoredMemoryStaysCanonical : Prop :=
  ∀ s t : State, s.part.Canonical → step s = .next t → t.part.Canonical

/-- Every step, from every state, keeps each list and count within its places: at most 8 posts queued (R161), 8 frames outbound
(R146) and 8 inbound (R145), 6 sheets in the path list and none on a jammed path (R47, R57), 8 jam log entries (R59), a score of
at most 255 (R149), at most 7 returns expected (R72). -/
def Obligations.QueuesStayWithinTheirPlaces : Prop :=
  ∀ s t : State, s.part.InPlaces → step s = .next t → t.part.InPlaces

/-- After every step PERMIT is asserted exactly when the conditions of R30 hold, while the station serves: the job RUNNING, the path
CLEAR, fewer than six sheets in the path, A less than P×K, headroom by R9, and the station not OUT_OF_SERVICE. It is released without
supply and during start-up. (During the drain of a soft reset PERMIT keeps its value, a deduction of the model: log entry
20.) -/
def Obligations.PermitFollowsItsConditions : Prop :=
  ∀ s t : State, s.part.PermitSafe → step s = .next t →
    t.part.PermitSafe ∧
      (t.part.phase = .serving →
        (t.part.permit = true ↔
          t.part.job.state = .running ∧ t.part.path.jammed = false ∧ t.part.path.sheets.length < 6 ∧
            t.part.job.assigned < t.part.job.positions ∧
            t.part.job.acc.gross + t.part.job.acc.reserved + t.part.job.planReserve ≤ 1000 * t.part.job.amount ∧
            t.part.config.outcome ≠ .bad))

/-- After every step the ALERT output is driven exactly while the master enable is on and a flag that is set is enabled (R186). -/
def Obligations.AlertFollowsTheFlags : Prop :=
  ∀ s t : State, s.part.AlertDecided → step s = .next t →
    (t.part.alertOut = true ↔
      t.part.panel.master = true ∧
        ∃ i, i < 8 ∧ t.part.panel.flags.getLsbD i = true ∧ t.part.panel.enables.getLsbD i = true)

/-- The held amount of every account is the sum of its ACTIVE hold records, with the newest values, after every step in service (R86,
R163). It holds when the hold table comes into service (R103), and every change of a hold record in service keeps it: a grant, a
restore, an enlargement, a lapse, a mark settling, a removal, and the completion of any write. The premises on the state are that only
running records have pending values (R165), which the step keeps as well, and that the stored memory is canonical. -/
def Obligations.HeldAmountsAreTheActiveHolds : Prop :=
  (∀ (p : Part) (account : Nat), p.holdsInService.held account = activeHolds p.ledger account) ∧
    ∀ s t : State, s.part.Canonical → s.part.phase = .serving → s.part.HeldSums → step s = .next t →
      t.part.phase = .serving → t.part.HeldSums

/-- Every step in service keeps the sums of the open job (R13, R29): G and the reserve sum stay within 1,000 × H, the reserve sum
is that of the job's sheets in the path, and 0 ≤ D ≤ A ≤ P × K, with A − D the job's indexed sheets in the path. A job in
AUTHORIZE has charged and fed nothing; IDLE and SETTLING are left out, for no sheet is fed to a job there. (From IDLE, with no sheet in
the path that carries the number of the next job: the sheets of a job leave the path before it settles, R36.) -/
def Obligations.JobStaysWithinItsHoldAndPlan : Prop :=
  ∀ s t : State, s.part.InPlaces → s.part.phase = .serving → s.part.JobSums →
    (s.part.job.state = .idle → ∀ sheet ∈ s.part.path.sheets, sheet.owner ≠ some (nextJobNumber s.part.ledger.jobNumber)) →
    step s = .next t → t.part.phase = .serving → t.part.JobSums

/-- Entries of the deferred list and reserved slots together take at most its 16 places, after every step in service (R124): a slot is
reserved only where one is free (R21), each reservation belongs to the open job, the cancelled ask or an entry still to be written (R26,
R123, R125), and each is given back or used once. The premises on the state are that only running records have pending
values (R165), and that the work which waits writes entries under a reservation alone. -/
def Obligations.DeferredSlotsStayWithinTheirPlaces : Prop :=
  ∀ s t : State, s.part.Canonical → s.part.phase = .serving → s.part.DeferredSums → step s = .next t →
    t.part.phase = .serving → t.part.DeferredSums

/-- The stored memory changes at two commands alone: the completion of a write, and a loss of supply. Power-on, soft reset and
start-up change no stored record themselves (R160, R161, R166).
The image, the clamped values and the outcome change at a load alone; a soft reset keeps them, and no request or frame
changes them (R1, R188, R191). -/
def Obligations.StoredRecordsAndConfigurationAreKept : Prop :=
  (∀ (c : Instr) (s t : State), exec c s = .next t → c ≠ .writeComplete → (∀ b, c ≠ .powerLoss b) →
      t.part.store.stored = s.part.store.stored) ∧
    ∀ (c : Instr) (s t : State), exec c s = .next t → (∀ image, c ≠ .configLoadDone image) → t.part.config = s.part.config

/-- A frame built by section 12.1 is judged good by R141, with its own source, destination and message, each field at every value
that fits it. -/
def Obligations.BuiltFrameIsJudgedGood : Prop :=
  ∀ (source dest : Nat) (m : Message), isStation source = true → dest ≤ 30 → m.inWidth = true →
    judge (frameBytes source dest m) = .good source dest (some m)

/-! ### Supply, reset pin, config line and ledger store -/

/-- POWER_ON with the reset pin released: every volatile state takes its reset value, the stored records stay, and the load of the
image begins (R190). With the reset pin asserted, start-up waits. (That POWER_ON waits while the reset pin is asserted is a
deduction of the model, log entry 42; the outputs kept are the model's own field, log entry 38.)
POWER_LOSS: the record being programmed is found wholly with its old value or wholly with its new value, every other stored
record keeps its value, and every post, pending value and volatile state is gone (R166). (Which of the two values is found
is the command's operand, the model's choice: log entry 8.) -/
def Obligations.SupplyKeepsTheStoredRecords : Prop :=
  (∀ s : State, s.part.phase = .off →
      exec .powerOn s =
        .next
          { s with
            part :=
              { phase := if s.part.resetPin then .draining true else .loading
                resetPin := s.part.resetPin
                config := s.part.config
                store := { stored := s.part.store.stored }
                outputs := s.part.outputs } }) ∧
    ∀ (s : State) (programmed : Bool), s.part.phase ≠ .off →
      exec (.powerLoss programmed) s =
        .next
          { s with
            part :=
              { phase := .off
                resetPin := s.part.resetPin
                config := s.part.config
                store :=
                  { stored :=
                      match s.part.store.queue with
                      | [] => s.part.store.stored
                      | post :: _ => if programmed then program s.part.store.stored post.write else s.part.store.stored }
                outputs := s.part.outputs } }

/-- WRITE_COMPLETE: the memory holds the value of the oldest post, in every phase; at rest, and with no owner told, the post leaves
the queue, its place is free, and nothing else changes (R161). -/
def Obligations.WriteCompleteStoresTheOldestPost : Prop :=
  ∀ (s : State) (post : Post) (rest : List Post), s.part.store.queue = post :: rest →
    (∃ t, exec .writeComplete s = .next t ∧ t.part.store.stored = program s.part.store.stored post.write) ∧
      (s.part.AtRest → post.notes = [] →
        exec .writeComplete s =
          .next
            { s with
              part :=
                ({ s.part with
                    store :=
                      { s.part.store with stored := program s.part.store.stored post.write, queue := rest } } : Part).alert })

/-- How a post joins the queue (R161, R162): it replaces, in place, the waiting post of its record, whose owner's notes it joins, and
otherwise goes to the tail; the oldest post waits too while the write-dones before it are sent, and is otherwise being programmed; a
hold record, the apply record and the clearing of the checkpoint always go to the tail, and the clearing withdraws a waiting value
of the checkpoint. With all 8 places taken and nothing to replace (R164, R165): a post of an owner that waits is not made, and a
running record's value is kept as its pending value, the newest in the place of an older one, and is read as the record's newest
value (R163).
A place freed by WRITE_COMPLETE goes to the oldest pending value, and without one to the owner whose wait began first, whose step
then goes on (R164).
A request that finds no place makes its owner wait with the rest of its step: HOLD_KEEP of an ACTIVE record leaves the touched post
waiting, and until it is made the hold table takes no other request and no sweep visit (R104, R164). -/
def Obligations.PostsCoalesceWaitOrArePending : Prop :=
  (∀ (q : Store) (old : Post) (busy ahead behind : List Post) (w : Write) (notes : List Note),
      q.queue = busy ++ (ahead ++ old :: behind) →
      (q.starting = false ∧ busy.length = 1 ∨ q.starting = true ∧ busy = []) →
      old.write.name = w.name → (∀ x ∈ ahead, x.write.name ≠ w.name) →
      q.post w notes =
        { q with
          queue :=
            match w with
            | .hold _ _ | .apply _ | .checkpoint none => q.queue ++ [{ write := w, notes := notes }]
            | _ => busy ++ (ahead ++ { write := w, notes := old.notes ++ notes } :: behind) }) ∧
    (∀ (q : Store) (w : Write) (notes : List Note),
      (∀ x ∈ if q.starting then q.queue else q.queue.tail, x.write.name ≠ w.name) →
      q.post w notes = { q with queue := q.queue ++ [{ write := w, notes := notes }] }) ∧
    (∀ (q : Store) (first : Post) (rest : List Post), q.starting = false → q.queue = first :: rest → q.pending = [] →
      q.queue.length ≤ 8 →
      let kept :=
        first ::
          rest.filter
            (fun x =>
              match x.write with
              | .checkpoint (some _) => false
              | _ => true)
      q.clearCheckpoint =
        if kept.length < 8 then { q with queue := kept ++ [{ write := .checkpoint none, notes := [] }] }
        else { q with queue := kept, pending := [.checkpoint none] }) ∧
    (∀ (p : Part) (w : Write) (notes : List Note), p.store.starting = false → 8 ≤ p.store.queue.length →
      (∀ x ∈ p.store.queue.tail, x.write.name ≠ w.name) →
      p.tryPost w notes = none ∧
        ((∀ v ∈ p.store.pending, v.name ≠ w.name) →
          p.postRunning w = { p with store := { p.store with pending := p.store.pending ++ [w] } } ∧
            (p.postRunning w).ledger = program p.ledger w)) ∧
    (∀ (p : Part) (old w : Write) (ahead behind : List Write), p.store.starting = false → 8 ≤ p.store.queue.length →
      (∀ x ∈ p.store.queue.tail, x.write.name ≠ w.name) → p.store.pending = ahead ++ old :: behind → old.name = w.name →
      (∀ v ∈ ahead, v.name ≠ w.name) →
      p.postRunning w = { p with store := { p.store with pending := ahead ++ w :: behind } }) ∧
    (∀ (s : State) (post : Post) (rest : List Post) (x y : Work) (slot station job began since : Nat) (value : AccountSlot)
        (xs ys : List Note),
      x = { owner := .account, tasks := [.putAccount slot value xs], begun := true, since := some began } →
      y = { owner := .settlement, tasks := [.putMark station job ys], begun := true, since := some since } →
      ({ s.part with store := { s.part.store with pending := [], work := [] } } : Part).AtRest →
      s.part.store.queue = post :: rest → rest.length = 7 → post.notes = [] →
      (∀ z ∈ rest, z.write.name ≠ .account slot ∧ z.write.name ≠ .mark station) →
      let becomes := fun (queue : List Post) (pending : List Write) (work : List Work) =>
        exec .writeComplete s =
          .next
            { s with
              part :=
                ({ s.part with
                    store :=
                      { stored := program s.part.store.stored post.write, queue := queue, pending := pending, work := work } } :
                  Part).alert }
      (s.part.store.work = [x, y] → ∀ w more, s.part.store.pending = w :: more → w.isRunning = true →
          becomes (rest ++ [{ write := w, notes := [] }]) more [x, y]) ∧
        (s.part.store.work = [x, y] → s.part.store.pending = [] →
          becomes (rest ++ [{ write := .account slot value, notes := xs }]) [] [y]) ∧
        (s.part.store.work = [y, x] → s.part.store.pending = [] →
          becomes (rest ++ [{ write := .mark station job, notes := ys }]) [] [x])) ∧
    ∀ (s : State) (ahead behind : List InFrame) (source dest holdId job slot : Nat) (r : HoldRecord), s.part.AtRest →
      s.part.store.queue.length = 8 →
      s.part.line.inbound = ahead ++ { source := source, dest := dest, message := .holdKeep holdId job } :: behind →
      (∀ f ∈ ahead, f.message.isHoldRequest = false) → source ≠ s.part.config.values.station → job ≠ 0 →
      ownHold s.part.ledger source holdId job = some (slot, r) → r.state = .active →
      let waiting : State :=
        { s with
          part :=
            ({ s.part with
                line := { s.part.line with inbound := ahead ++ behind }
                store :=
                  { s.part.store with
                    work :=
                      [{ owner := .hold, tasks := [.putHold slot { r with touched := s.part.now / 1000 } []], begun := true
                         since := some s.part.now }] } } : Part).alert }
      exec .holdKeep s = .next waiting ∧
        ∀ c ∈ [Instr.holdAsk, Instr.holdMore, Instr.holdKeep, Instr.sweepVisit], exec c waiting = .next waiting

/-- RESET_PIN_ASSERT in service, with no owner waiting: a soft reset begins. The flags and the reject reason are cleared, ALERT is
released, the answer slot is driven no more, and the blocks take no new input; the queue, the stored records and everything else
stay for the drain (R158, R167, R186, R191). A second assertion changes nothing more. (That PERMIT keeps its value is a deduction of
the model, log entry 20; that asserting an asserted pin, an event that cannot happen, changes nothing is the model's choice, log
entry 6.)
RESET_PIN_RELEASE with the drain ended: start-up begins. It reads the image again when the reset began before the load had ended
(R191); otherwise the load is left out, and the time base starts at 0 with the path empty.
The drain ends at the WRITE_COMPLETE of its last post (R167): start-up begins at that event in the same way, unless the reset pin is
still asserted.
While a post is left an event of the engine, the card, a timer, the sweep, a block's frames or the line changes nothing, and a
transmission goes unanswered (R158, R167). (The ALERT output stays decided: AlertFollowsTheFlags.) -/
def Obligations.ResetPinDrainsThenStartsUp : Prop :=
  (∀ s : State, s.part.phase = .serving → s.part.store.work = [] → s.part.store.pending = [] →
      exec .resetPinAssert s =
        .next
          { s with
            part :=
              { s.part with
                phase := .draining false, resetPin := true, alertOut := false
                line := { s.part.line with answered := false }
                panel := { s.part.panel with flags := 0, reject := none, resetWaits := false } } } ∧
        ∀ t, exec .resetPinAssert s = .next t → exec .resetPinAssert t = .next t) ∧
    (∀ (s : State) (load : Bool), s.part.phase = .draining load → s.part.store.queue = [] → s.part.store.pending = [] →
      s.part.store.work = [] →
      (load = true →
        exec .resetPinRelease s =
          .next
            { s with
              part :=
                { phase := .loading, config := s.part.config, store := { stored := s.part.store.stored }
                  outputs := s.part.outputs } }) ∧
        (load = false →
          ∃ t, exec .resetPinRelease s = .next t ∧ t.part.resetPin = false ∧ t.part.now = 0 ∧ t.part.path = {} ∧
            t.part.config = s.part.config ∧ t.part.store.stored = s.part.store.stored ∧
            (t.part.phase = .recovering ∨ t.part.phase = .serving))) ∧
    ∀ (s : State) (load : Bool) (post : Post), s.part.phase = .draining load → s.part.store.queue = [post] →
      s.part.store.pending = [] → s.part.store.work = [] →
      let stored := program s.part.store.stored post.write
      (s.part.resetPin = true →
          exec .writeComplete s =
            .next
              { s with
                part := ({ s.part with store := { s.part.store with stored := stored, queue := [] } } : Part).alert }) ∧
        (s.part.resetPin = false → load = true →
          exec .writeComplete s =
            .next
              { s with
                part :=
                  { phase := .loading, config := s.part.config, store := { stored := stored }
                    outputs := s.part.outputs } }) ∧
        (s.part.resetPin = false → load = false →
          ∃ t, exec .writeComplete s = .next t ∧ t.part.resetPin = false ∧ t.part.now = 0 ∧ t.part.path = {} ∧
            t.part.config = s.part.config ∧ t.part.store.stored = stored ∧
            (t.part.phase = .recovering ∨ t.part.phase = .serving)) ∧
        (∀ bytes : List Byte,
          exec (.frameReceived bytes) s =
            .next { s with part := ({ s.part with line := { s.part.line with answered := false } } : Part).alert }) ∧
        ∀ (a b c d n m : Nat) (answered : Bool) (record : List Byte),
          ∀ event ∈
            [Instr.sheetFed a b c, .sensorOn n, .sensorOff n, .doorOpen, .doorClosed, .engineFault n, .engineMessageGarbled,
              .sheetDeadlineExpiry n, .cardIn record, .cardOut, .writeDone n m, .writeFail n, .cardMessageDiscarded,
              .writeDeadlineExpiry, .askTimerExpiry, .cancelledAskExpiry, .topupTimerExpiry, .keepAliveDue, .runOutDue, .idleTimeout,
              .holdGive a b c d n m, .holdDeny a b c, .holdGone a b c, .holdAsk, .holdMore, .holdKeep, .sweepVisit, .acctPut,
              .acctTopup, .acctQuery, .acctAnswer a b c d n, .periodClose, .announce, .settle, .settleQuickTimerExpiry n,
              .settleSlowTimerExpiry n, .settleAck, .tally a b c d n m, .lineQuietRest, .contentionLost, .sendResult answered],
            s.part.AlertDecided → exec event s = .next s

/-- CONFIG_LOAD_DONE during the load: the image is kept with its clamped values, its outcome and the count of clamps, and start-up
goes on. The outcome is BAD when the sum of the 64 words is not 0 in 16 bits or the station number is 0 or above 30, CLAMPED when
the image is good and a clamp changed a value, GOOD otherwise (R187, R188).
The clamps of the loader leave every value in its range, from any image (R1, R2, R3, R46, R81, R97, R188): the tier breaks with
1 ≤ B1 ≤ B2 and the tier percents with 100 ≥ t2 ≥ t3, as R2's steps leave them. -/
def Obligations.LoadKeepsTheClampedImage : Prop :=
  (∀ (s : State) (image : List Word16), s.part.phase = .loading →
      ∃ t, exec (.configLoadDone image) s = .next t ∧ t.part.config.image = image ∧
        t.part.config.values = clampValues image ∧ t.part.config.clamped = clampedCount image ∧
        (t.part.config.outcome = .bad ↔ imageSum image ≠ 0 ∨ imageWord image 0 = 0 ∨ 31 ≤ imageWord image 0) ∧
        (t.part.config.outcome = .clamped ↔ t.part.config.outcome ≠ .bad ∧ 0 < clampedCount image) ∧
        t.part.store.stored = s.part.store.stored ∧ t.part.path = s.part.path ∧ t.part.now = s.part.now ∧
        (t.part.phase = .recovering ∨ t.part.phase = .serving)) ∧
    ∀ image : List Word16,
      (clampValues image).b1 = max 1 (imageWord image 18) ∧
        (clampValues image).b2 = max (clampValues image).b1 (max 1 (imageWord image 19)) ∧
        (clampValues image).t2 = min 100 (imageWord image 20) ∧
        (clampValues image).t3 = min (clampValues image).t2 (min 100 (imageWord image 21)) ∧
        (clampValues image).base.length = 16 ∧ (∀ price ∈ (clampValues image).base, price ≤ 9999) ∧
        (clampValues image).backPct ≤ 100 ∧ (clampValues image).disc.length = 4 ∧ (∀ d ∈ (clampValues image).disc, d ≤ 50) ∧
        (clampValues image).minCharge ≤ 500 ∧ 10 ≤ (clampValues image).minGrant ∧ (clampValues image).minGrant ≤ 1000 ∧
        100 ≤ (clampValues image).holdStep ∧ (clampValues image).minGrant ≤ (clampValues image).holdStep ∧
        (clampValues image).holdStep ≤ 20000 ∧ 15 ≤ (clampValues image).idleTimeout ∧ (clampValues image).idleTimeout ≤ 600 ∧
        60 ≤ (clampValues image).lifetime ∧ (clampValues image).lifetime ≤ 900 ∧ 1 ≤ (clampValues image).grace ∧
        (clampValues image).grace ≤ 72 ∧ (clampValues image).floatLimit ≤ 5000 ∧ (clampValues image).floatPool ≤ 50000 ∧
        (∀ w ∈ [(clampValues image).w1, (clampValues image).w2, (clampValues image).w3], 50 ≤ w ∧ w ≤ 5000) ∧
        (clampValues image).dwell.length = 8 ∧ (∀ d ∈ (clampValues image).dwell, 100 ≤ d ∧ d ≤ 10000)

/-- On a new part the end of the load runs through the whole of start-up and enters service as one event (R190, R192): the line
ACTIVE with an ANNOUNCE of period 0 queued, or SILENT with nothing queued when the outcome is BAD; one RELEASE to the reader, in
its layout (section 12.9, R193); the sweep's first visit 250 ms later; CONFIG raised unless the outcome is GOOD; PERMIT
released. (That State.reset is a new part with its load running is the model's choice: log entry 3.)
On a part with records start-up recovers them first. An apply record found present is finished (R139): the debit, unless the
account's last apply sequence shows it stored, the hold's removal or the float mark, and the record's clearing are posted. A
checkpoint of ACCOUNT_REMOTE funding with no JOB record and no entry of its job is settled (R169): its deferred entry, its JOB
record DEFERRED with the end reason RESET and its clearing are posted. Each hold record is touched at 0, a SETTLING one ACTIVE
again (R103). With deferred entries alone, of homes that all differ, the part enters service with each in flight, its first send
counted, and float outstanding the sum over those with hold id 0 (R82, R140). (That a step waits for the writes of the step
before is a deduction of the model, log entry 9. The model's choices: the homes in deferred-slot order, log entry 63, and one post a
hold record in slot order, log entry 69.) -/
def Obligations.NewPartEntersService : Prop :=
  (∀ image : List Word16, ∃ t, exec (.configLoadDone image) State.reset = .next t ∧ t.part.phase = .serving ∧
      t.part.job = {} ∧ t.part.permit = false ∧ t.part.path = {} ∧ t.part.store.stored = {} ∧ t.part.store.queue = [] ∧
      t.part.outputs.card = [[0x08, 0xF8]] ∧ t.part.holds.due = some 250 ∧
      t.part.panel.isSet .config = decide (configOutcome image ≠ .good) ∧
      t.part.line.state = (if configOutcome image = .bad then .silent else .active) ∧
      t.part.line.outbound.map (fun f => (f.dest, f.message)) =
        (if configOutcome image = .bad then [] else [(0, .announce 0)])) ∧
    ∀ (image : List Word16) (l : Ledger), l.wf →
      let s : State := { State.reset with part := { State.reset.part with store := { stored := l } } }
      let v := clampValues image
      let posts := fun (writes : List Write) =>
        ∃ t, exec (.configLoadDone image) s = .next t ∧ t.part.phase = .recovering ∧ t.part.store.stored = l ∧
          t.part.store.queue.map Post.write = writes
      (∀ r, l.apply = some r →
          ∀ slot a, findAccount l r.account = some (slot, a) →
            let held :=
              ((l.holds.filter
                    (fun e => decide (e.2.account = r.account ∧ e.2.state = .active ∧ some e.2.id ≠ r.holdId))).map
                  (fun e => e.2.amount)).sum
            let debit : List Write :=
              if a.lastApply = r.sequence then []
              else
                [.account slot
                    (.used
                      { a with
                        overdrawn := a.overdrawn || decide (available a held < r.charge)
                        spent := min 4294967295 (a.spent + r.charge)
                        impressions := min 4294967295 (a.impressions + r.impressions)
                        credit :=
                          match a.credit with
                          | .charge limit => .charge limit
                          | .prepaid balance => .prepaid (max (balance - (r.charge : Int)) (-2147483648))
                        lastApply := r.sequence })]
            (r.holdId = none → posts (debit ++ [.mark r.station r.job, .apply none])) ∧
              ∀ id, r.holdId = some id →
                posts
                  (debit ++ (match findHold l id with
                    | none => []
                    | some (place, _) => [.hold place none]) ++ [.apply none])) ∧
        (l.apply = none →
          (∀ c slot, l.checkpoint = some c → c.funding = .accountRemote → configOutcome image ≠ .bad →
              newestJob l ≠ some c.job →
              (∀ e ∈ l.deferred, ¬(e.2.home = c.home.getD 0 ∧ e.2.job = c.job)) →
              lowestFree l.deferred 0 16 = some slot →
              let charge := finalCharge v c.gross c.delivered c.cls c.limit
              let sequence := l.journalSequence + 1
              posts
                [.deferred slot
                    (some
                      { number := nextEntryNumber l, home := c.home.getD 0, holdId := c.holdId.getD 0, account := c.payer
                        job := c.job, charge := charge, impressions := min 16777215 c.delivered, attempts := 0 }),
                  .counter .journalSequence sequence,
                  .journal (sequence % 256) { sequence := sequence, body := .job (c.journalEntry charge .deferred) },
                  .checkpoint none]) ∧
            (l.checkpoint = none →
              (l.holds ≠ [] → l.holds.length ≤ 8 →
                  posts
                    (l.holds.map
                      (fun e =>
                        .hold e.1
                          (some
                            { e.2 with
                              touched := 0, state := if e.2.state = .lapsed then .lapsed else .active })))) ∧
                (l.holds = [] → l.period.walking = false → l.deferred.length ≤ 8 →
                  (l.deferred.map (fun e => e.2.home)).Nodup → (l.deferred.map (fun e => e.2.number)).Nodup →
                  (∀ e ∈ l.deferred, e.2.home ≠ v.station) →
                  ∃ t, exec (.configLoadDone image) s = .next t ∧ t.part.phase = .serving ∧
                    t.part.settlement.flights =
                      l.deferred.map
                        (fun e => { home := e.2.home, number := e.2.number, slow := false, sends := 1, due := 400 }) ∧
                    t.part.store.queue.map Post.write =
                      l.deferred.map
                        (fun e => .deferred e.1 (some { e.2 with attempts := min 65535 (e.2.attempts + 1) })) ∧
                    t.part.settlement.floatOutstanding =
                      ((l.deferred.filter (fun e => decide (e.2.holdId = 0))).map (fun e => e.2.charge)).sum)))

/-! ### The charge unit -/

/-- The charge C is the discounted gross rounded to the nearest cent, an exact half cent rounded down: 0 cents up to 500 cu, then
one cent for every 1,000 cu more; and it never passes a hold that the gross does not pass (R15).
The final charge F (R16): 0 when no impression was delivered, whatever the minimum; otherwise at least the minimum charge or
the whole hold, never above the hold, and never below C when the gross stays within the hold. -/
def Obligations.ChargesAreRoundedAndCapped : Prop :=
  ((∀ n c : Nat, roundCents n = c ↔ (c = 0 ∧ n ≤ 500) ∨ (0 < c ∧ 1000 * c ≤ n + 499 ∧ n ≤ 1000 * c + 500)) ∧
      ∀ n limit : Nat, n ≤ 1000 * limit → roundCents n ≤ limit) ∧
    ∀ (v : Values) (gross delivered cls limit : Nat),
      (delivered = 0 → finalCharge v gross delivered cls limit = 0) ∧
        finalCharge v gross delivered cls limit ≤ limit ∧
        (delivered ≠ 0 →
          finalCharge v gross delivered cls limit = min (max (roundCents (discounted v gross cls)) v.minCharge) limit ∧
            (gross ≤ 1000 * limit → roundCents (discounted v gross cls) ≤ finalCharge v gross delivered cls limit) ∧
            (v.minCharge ≤ limit → v.minCharge ≤ finalCharge v gross delivered cls limit))

/-- A delivered sheet pays the lesser of its contributions and its reserve, gives the whole reserve back, and adds what nothing paid
for to the unbilled cu; an impression is unpermitted when it contributes something and finds nothing left of the reserve (R6, R11,
R12).
G plus the reserve sum stays within 1,000 × H at a feed, at a delivery and at a spoil (R8, R10, R13). -/
def Obligations.DeliveriesAndFeedsStayWithinTheHold : Prop :=
  (∀ (v : Values) (acc : Accumulators) (sheet : Sheet),
      let cs := contributions v acc.delivered (sidePrices v sheet.media sheet.colour sheet.twoSided)
      let after := chargeSheet v acc sheet
      cs.length = sheetImpressions sheet.twoSided ∧
        after.gross = acc.gross + min cs.sum sheet.reserve ∧
        after.reserved = acc.reserved - sheet.reserve ∧
        after.delivered = min Config.max32 (acc.delivered + cs.length) ∧
        after.unbilled = min Config.max32 (acc.unbilled + (cs.sum - sheet.reserve)) ∧
        after.unpermitted =
          min Config.max32
            (acc.unpermitted +
              (List.range cs.length).countP (fun i => decide (0 < cs.getD i 0) && decide (sheet.reserve ≤ (cs.take i).sum))) ∧
        after.mono = (if sheet.colour = .mono then min Config.max32 (acc.mono + cs.length) else acc.mono) ∧
        after.colour = (if sheet.colour = .colour then min Config.max32 (acc.colour + cs.length) else acc.colour)) ∧
    ∀ (v : Values) (acc : Accumulators) (limit full : Nat) (sheet : Sheet), acc.gross + acc.reserved ≤ 1000 * limit →
      acc.gross + (acc.reserved + min full (room limit acc.gross acc.reserved)) ≤ 1000 * limit ∧
        (sheet.reserve ≤ acc.reserved →
          (chargeSheet v acc sheet).gross + (chargeSheet v acc sheet).reserved ≤ acc.gross + acc.reserved) ∧
        acc.gross + (acc.reserved - sheet.reserve) ≤ 1000 * limit

/-- A quote is what the charge unit comes to when it charges the same sheets one by one, each paid from its full reserve: the same
gross, every impression billed, nothing unbilled (R18).
QUOTE in range is answered OK with the impressions and with F of the sum of the contributions of ordinals 1 to sheets × sides,
front before back, the hold taken as 100,000 cents; it changes the response store alone. Out of range it is answered RANGE (R18,
R19). (That a colour or sides field with no defined code is out of range is a deduction of the model: log entry 46.) -/
def Obligations.QuotesComeToTheFinalCharge : Prop :=
  (∀ (v : Values) (sheet : Sheet) (sheets : Nat), v.t2 ≤ 100 → v.t3 ≤ 100 → sheets ≤ 998001 →
      sheet.reserve = fullReserve v sheet.media sheet.colour sheet.twoSided →
      let charged := (List.replicate sheets sheet).foldl (chargeSheet v) { reserved := sheets * sheet.reserve }
      charged.gross = quoteGross v sheet.media sheet.colour sheet.twoSided sheets ∧
        charged.delivered = sheets * sheetImpressions sheet.twoSided ∧ charged.reserved = 0 ∧ charged.unbilled = 0 ∧
        charged.unpermitted = 0) ∧
    ∀ (s : State) (media colour sides sheets cls : Nat), s.part.phase = .serving → s.part.config.outcome ≠ .bad →
      s.part.panel.response = none →
      (media ≤ 7 ∧ colour ≤ 1 ∧ (sides = 1 ∨ sides = 2) ∧ sheets ≤ 998001 ∧ cls ≤ 3 →
        let v := s.part.config.values
        let front := v.base.getD (2 * media + colour) 0
        let price := fun i => if sides = 2 ∧ i % 2 = 1 then front * v.backPct / 100 else front
        let gross := ((List.range (sheets * sides)).map (fun i => contribution v (price i) (i + 1))).sum
        exec (.quote media colour sides sheets cls) s =
          .next
            { s with
              part :=
                s.part.answering 7 .ok
                  (field 3 (sheets * sides) ++ field 3 (finalCharge v gross (sheets * sides) cls 100000)) }) ∧
        (¬(media ≤ 7 ∧ colour ≤ 1 ∧ (sides = 1 ∨ sides = 2) ∧ sheets ≤ 998001 ∧ cls ≤ 3) →
          exec (.quote media colour sides sheets cls) s = .next { s with part := s.part.answering 7 .range [] })

/-! ### The panel port -/

/-- The requests that only read are answered OK from the state as it stands, and change the response store alone; a request that
names none is answered UNKNOWN (R20, R60, R155, R176, R182, R183, R184). STATUS carries 86 bytes, JOB_READ 64, HEARD_READ 64 and
ALERT_READ 6 (sections 12.4, 12.10). (A number too large for its field is a free value: log entry 7.)
The requests that name an index or an account: OK with the newest value, RANGE outside the index's range, NOT_FOUND for an
account with no record (R105, R122, R129, R179); each changes the response store alone. -/
def Obligations.ReadsAnswerFromTheNewestValues : Prop :=
  (∀ s : State, s.part.phase = .serving → s.part.panel.response = none →
      exec .status s = .next { s with part := s.part.answering 1 .ok s.part.statusBody } ∧
        exec .jobRead s = .next { s with part := s.part.answering 6 .ok s.part.job.snapshot } ∧
        (∀ first,
          exec (.journalRead first) s = .next { s with part := s.part.answering 8 .ok (s.part.journalBody first) }) ∧
        exec .jamLogRead s = .next { s with part := s.part.answering 11 .ok s.part.jamLogBody } ∧
        exec .heardRead s = .next { s with part := s.part.answering 15 .ok s.part.heardBody } ∧
        exec .alertRead s = .next { s with part := s.part.answering 16 .ok s.part.panel.alertBody } ∧
        (∀ code,
          exec (.panelRequestUnknown code) s = .next { s with part := s.part.answering code .unknown [] }) ∧
        s.part.statusBody.length = 86 ∧ s.part.job.snapshot.length = 64 ∧ s.part.heardBody.length = 64 ∧
        s.part.panel.alertBody.length = 6 ∧ s.part.jamLogBody.length = 1 + 18 * s.part.path.log.length) ∧
    ∀ (s : State) (n : Nat), s.part.phase = .serving → s.part.panel.response = none →
      exec (.meterRead n) s =
          .next
            { s with
              part :=
                if n ≤ 25 then s.part.answering 10 .ok (field 1 n ++ field 4 (countGet s.part.ledger.meters n))
                else s.part.answering 10 .range [] } ∧
        exec (.accountRead n) s =
          .next
            { s with
              part :=
                match if n = 0 then none else some (findAccount s.part.ledger n) with
                | none => s.part.answering 12 .range []
                | some none => s.part.answering 12 .notFound []
                | some (some (slot, a)) => s.part.answering 12 .ok (s.part.accountBody slot a) } ∧
        exec (.holdRead n) s =
          .next
            { s with
              part := if n ≤ 63 then s.part.answering 13 .ok (s.part.holdBody n) else s.part.answering 13 .range [] } ∧
        exec (.deferredRead n) s =
          .next
            { s with
              part := if n ≤ 15 then s.part.answering 14 .ok (s.part.deferredBody n) else s.part.answering 14 .range [] } ∧
        (s.part.holdBody n).length = 18 ∧ (s.part.deferredBody n).length = 27

/-- Test 1 of R182, while the image is being loaded: every request but STATUS is answered BUSY and changes nothing; STATUS carries
the station state STARTING alone (R183).
Test 3 of R182: an OUT_OF_SERVICE station answers OUT_OF_SERVICE to START, RESUME, END, CANCEL, QUOTE, JOURNAL_RELEASE and
RESET_STATION, and none of them changes anything else (R189).
A request whose transaction ends while a response waits unread is not decided: the response is discarded for a FULL response
that names both requests, and nothing else changes (R182, section 12.5). (The code of the FULL response, and FULL over FULL,
are deductions of the model: log entry 19.) -/
def Obligations.RequestsAreRefusedOrReplacedByFull : Prop :=
  (∀ (s : State) (c : Instr) (code : Nat), s.part.phase = .loading → s.part.job = {} → s.part.panel.response = none →
      s.part.AlertDecided → requestCode c = some code →
      exec c s =
        .next { s with part := if c = .status then s.part.answering 1 .ok [0] else s.part.answering code .busy [] }) ∧
    (∀ (s : State) (c : Instr) (code : Nat), s.part.AtRest → s.part.AlertDecided → s.part.config.outcome = .bad →
      s.part.job = {} → s.part.panel.response = none → requestCode c = some code → (∀ k, c ≠ .panelRequestUnknown k) →
      code ∈ refusedOutOfService →
      exec c s = .next { s with part := s.part.answering code .outOfService [] }) ∧
    ∀ (s : State) (c : Instr) (code : Nat) (waiting : Response), s.part.AtRest → s.part.AlertDecided →
      s.part.panel.response = some waiting → requestCode c = some code →
      exec c s =
        .next { s with part := s.part.answering waiting.code .full (field 1 waiting.code ++ field 1 code) }

/-- PANEL_READ carries out the response that waits, or one that says none waits, in the layout of section 12.5 (request code,
result code, length, body, check byte), and empties the store (R182, R193). When the response is that of RESET_STATION, a soft
reset begins at this event: the flags are cleared and the drain runs while a post is left (R191). With no post left the drain is over
at once, and start-up begins at this event: the time base and the volatile states start anew, the stored records and the
configuration stay (R167, R190).
RESET_STATION is taken in every job state: it is answered OK, and the soft reset waits for that response to be read (R191).
(Deductions of the model: PERMIT keeps its value through the drain, log entry 20; R191 is followed where R167 has the reset begin
when the request is taken, log entry 73.) -/
def Obligations.ResponsesAreReadAndResetWaits : Prop :=
  (∀ s : State, s.part.AtRest → s.part.AlertDecided →
      (s.part.panel.resetWaits = false →
        exec .panelRead s =
          .next
            { s with
              part :=
                { s.part with
                  panel := { s.part.panel with response := none }
                  outputs :=
                    { s.part.outputs with
                      panel :=
                        s.part.outputs.panel ++
                          [match s.part.panel.response with
                            | none => [0, 0, 0, 0]
                            | some r =>
                              withCheck
                                (field 1 r.code ++ field 1 r.result.code ++ field 1 r.body.length ++ r.body)] } } }) ∧
        (s.part.panel.resetWaits = true → s.part.store.queue ≠ [] →
          exec .panelRead s =
            .next
              { s with
                part :=
                  { s.part with
                    phase := .draining false, alertOut := false
                    line := { s.part.line with answered := false }
                    panel := { s.part.panel with response := none, resetWaits := false, flags := 0, reject := none }
                    outputs :=
                      { s.part.outputs with
                        panel :=
                          s.part.outputs.panel ++
                            [match s.part.panel.response with
                              | none => [0, 0, 0, 0]
                              | some r =>
                                withCheck
                                  (field 1 r.code ++ field 1 r.result.code ++ field 1 r.body.length ++ r.body)] } } })) ∧
    (∀ s : State, s.part.AtRest → s.part.config.outcome ≠ .bad → s.part.panel.response = none →
      exec .resetStation s =
        .next
          { s with
            part :=
              (({ s.part with panel := { s.part.panel with resetWaits := true } } : Part).answering 19 .ok []).alert }) ∧
    ∀ s : State, s.part.AtRest → s.part.panel.resetWaits = true → s.part.store.queue = [] → s.part.resetPin = false →
      ∃ t, exec .panelRead s = .next t ∧ t.part.now = 0 ∧ t.part.job = {} ∧ t.part.path = {} ∧ t.part.permit = false ∧
        t.part.panel.response = none ∧ t.part.panel.resetWaits = false ∧ t.part.config = s.part.config ∧
        t.part.store.stored = s.part.store.stored ∧
        t.part.outputs.panel =
          s.part.outputs.panel ++
            [match s.part.panel.response with
              | none => [0, 0, 0, 0]
              | some r => withCheck (field 1 r.code ++ field 1 r.result.code ++ field 1 r.body.length ++ r.body)] ∧
        (t.part.phase = .recovering ∨ t.part.phase = .serving)

/-- ALERT_ACK clears the flags it names, and the reject reason with CARD_REJECT, and answers the flags still set; ALERT_ENABLE sets
the enables to exactly the flags named and the master enable as given, and leaves the flags; a master field that is neither 0 nor 1
is out of range. The output follows at once (R185, R186). (That such a master field is out of range is a deduction of the
model: log entry 46.) -/
def Obligations.AlertRequestsSetFlagsAndEnables : Prop :=
  ∀ (s : State) (flags : Byte), s.part.AtRest → s.part.panel.response = none →
    exec (.alertAck flags) s =
        .next
          { s with
            part :=
              (({ s.part with
                  panel :=
                    { s.part.panel with
                      flags := s.part.panel.flags &&& ~~~flags
                      reject := if flags.getLsbD 2 then none else s.part.panel.reject } } : Part).answering 17 .ok
                [s.part.panel.flags &&& ~~~flags]).alert } ∧
      (∀ master : Nat, master ≤ 1 →
        exec (.alertEnable flags master) s =
          .next
            { s with
              part :=
                (({ s.part with
                    panel := { s.part.panel with enables := flags &&& 0x7F, master := decide (master = 1) } } : Part).answering
                  18 .ok [flags &&& 0x7F, BitVec.ofNat 8 master]).alert }) ∧
      ∀ master : Nat, 1 < master →
        exec (.alertEnable flags master) s = .next { s with part := (s.part.answering 18 .range []).alert }

/-- An accepted START (R28, R30): in READY, with the path CLEAR and the plan in range, the plan is stored with R_plan, A and D are 0,
the activity time is now, the record enters RUNNING, and with headroom PERMIT is asserted unless six sheets are in the path.
A refused START: RANGE with a field of the plan out of range, in every state; BUSY in any state but READY, or with the path
JAMMED. It changes nothing but the last activity time of an open job (R28, R41). (Deductions of the model: a field with no
defined code is out of range, log entry 46; the activity time is set in every state of an open job, log entry 39.) -/
def Obligations.StartBeginsThePlanOrIsRefused : Prop :=
  (∀ (s : State) (media colour sides originals copies collated : Nat), s.part.AtRest → s.part.config.outcome ≠ .bad →
      s.part.panel.response = none → s.part.job.state = .ready → s.part.path.jammed = false → s.part.job.exhausted = none →
      media ≤ 7 → colour ≤ 1 → (sides = 1 ∨ sides = 2) → 1 ≤ originals → originals ≤ 999 → 1 ≤ copies → copies ≤ 999 →
      collated ≤ 1 →
      let ink : Colour := if colour = 0 then .mono else .colour
      let reserve := fullReserve s.part.config.values media ink (decide (sides = 2))
      s.part.job.acc.gross + s.part.job.acc.reserved + reserve ≤ 1000 * s.part.job.amount →
      exec (.start media colour sides originals copies collated) s =
        .next
          { s with
            part :=
              (({ s.part with
                  job :=
                    { s.part.job with
                      state := .running
                      plan :=
                        some
                          { media := media, colour := ink, twoSided := decide (sides = 2), originals := originals
                            copies := copies, collated := decide (collated = 1) }
                      planReserve := reserve, assigned := 0, position := 0, lastActivity := s.part.now }
                  permit := decide (s.part.path.sheets.length < 6)
                  panel := s.part.panel.raise .jobState } : Part).answering 2 .ok []).alert }) ∧
    ∀ (s : State) (media colour sides originals copies collated : Nat), s.part.AtRest → s.part.config.outcome ≠ .bad →
      s.part.panel.response = none →
      let inRange :=
        media ≤ 7 ∧ colour ≤ 1 ∧ (sides = 1 ∨ sides = 2) ∧ 1 ≤ originals ∧ originals ≤ 999 ∧ 1 ≤ copies ∧ copies ≤ 999 ∧
          collated ≤ 1
      ¬inRange ∨ s.part.job.state ≠ .ready ∨ s.part.path.jammed = true →
      exec (.start media colour sides originals copies collated) s =
        .next
          { s with
            part :=
              (({ s.part with
                  job :=
                    if s.part.job.state = .idle then s.part.job
                    else { s.part.job with lastActivity := s.part.now } } : Part).answering 2
                (if inRange then .busy else .range) []).alert }

/-- RESUME: in PAUSED with the path CLEAR the record enters RUNNING, the activity time is now, and PERMIT is decided by R30; with
funds exhausted by the cause FUNDS, or no position left, and an empty path the run-out wait starts, of length W1 (R35). In any other
state, or with the path JAMMED, it is answered BUSY and nothing changes (R40). (A job that is then out of funds asks for more at the
same event, by R31; for a local home its answer, at the same event, is left to R31, R32 and R37.) -/
def Obligations.ResumeRunsAPausedJob : Prop :=
  ∀ s : State, s.part.AtRest → s.part.config.outcome ≠ .bad → s.part.panel.response = none →
    let j := s.part.job
    (j.state = .paused → s.part.path.jammed = false →
        j.headroom = true ∨ j.topupOutstanding = true ∨ j.exhausted.isSome = true →
      exec .resume s =
        .next
          { s with
            part :=
              (({ s.part with
                  job :=
                    { j with
                      state := .running, lastActivity := s.part.now
                      runOutDue :=
                        if s.part.path.sheets = [] ∧
                            (j.position = j.positions ∨ (j.exhausted = some .funds ∧ j.topupOutstanding = false)) then
                          some (s.part.now + s.part.config.values.w1)
                        else none }
                  permit :=
                    decide (s.part.path.sheets.length < 6) && decide (j.assigned < j.positions) && j.headroom
                  panel := s.part.panel.raise .jobState } : Part).answering 3 .ok []).alert }) ∧
      (j.state = .paused → s.part.path.jammed = false → j.funding ≠ some .accountLocal →
        ∃ t, exec .resume s = .next t ∧ t.part.job.state = .running ∧ t.part.job.lastActivity = s.part.now ∧
          t.part.permit =
            (decide (s.part.path.sheets.length < 6) && decide (j.assigned < j.positions) && j.headroom) ∧
          t.part.panel.response = some { code := 3, result := .ok, body := [] }) ∧
      (j.state ≠ .paused ∨ s.part.path.jammed = true →
        exec .resume s = .next { s with part := (s.part.answering 3 .busy []).alert })

/-- END and CANCEL of a funded job with sheets in the path: from READY, RUNNING and PAUSED the record enters DRAINING and PERMIT is
released; in JAMMED the drain mark is set; in DRAINING nothing changes but the activity time; in IDLE and SETTLING, and END in
AUTHORIZE, they are answered BUSY. The end reason is set once (R34, R42). -/
def Obligations.EndAndCancelDrainTheJob : Prop :=
  ∀ (s : State) (c : Instr) (code : Nat) (r : EndReason),
    (c = .endJob ∧ code = 4 ∧ r = .panelEnd) ∨ (c = .cancel ∧ code = 5 ∧ r = .panelCancel) → s.part.AtRest →
    s.part.config.outcome ≠ .bad → s.part.panel.response = none →
    (s.part.job.state = .ready ∨ s.part.job.state = .running ∨ s.part.job.state = .paused → s.part.path.sheets ≠ [] →
      exec c s =
        .next
          { s with
            part :=
              (({ s.part with
                  job :=
                    { s.part.job with
                      state := .draining, endReason := some (s.part.job.endReason.getD r), runOutDue := none
                      lastActivity := s.part.now }
                  permit := false
                  panel := s.part.panel.raise .jobState } : Part).answering code .ok []).alert }) ∧
      (s.part.job.state = .jammed →
        exec c s =
          .next
            { s with
              part :=
                (({ s.part with
                    job :=
                      { s.part.job with
                        endReason := some (s.part.job.endReason.getD r), drainMark := true
                        lastActivity := s.part.now } } : Part).answering code .ok []).alert }) ∧
      (s.part.job.state = .draining →
        exec c s =
          .next
            { s with
              part :=
                (({ s.part with job := { s.part.job with lastActivity := s.part.now } } : Part).answering code .ok []).alert }) ∧
      (s.part.job.state = .idle ∨ s.part.job.state = .settling ∨ (s.part.job.state = .authorize ∧ c = .endJob) →
        exec c s = .next { s with part := (s.part.answering code .busy []).alert })

/-- CANCEL in AUTHORIZE: the record returns to IDLE at once, the journal reservation is released, and the deferred reservation
passes to a cancelled-ask record with the job, the home and the account, which lives for the rest of the attempt in flight when the
home is remote (R26). -/
def Obligations.CancelOfAnAskKeepsARecord : Prop :=
  ∀ s : State, s.part.AtRest → s.part.config.outcome ≠ .bad → s.part.panel.response = none →
    s.part.job.state = .authorize → s.part.settlement.cancelled = none →
    exec .cancel s =
      .next
        { s with
          part :=
            (({ s.part with
                job := {}
                settlement :=
                  { s.part.settlement with
                    cancelled :=
                      some
                        { job := s.part.job.number, home := s.part.job.home.getD 0, account := s.part.job.payer
                          due := if s.part.job.funding = some .accountRemote then s.part.job.askDue else none
                          frame := s.part.job.askFrame } }
                journal := { s.part.journal with reserved := s.part.journal.reserved - 1 }
                panel := s.part.panel.raise .jobState } : Part).answering 5 .ok []).alert }

/-- The ends of an ACCOUNT_REMOTE or FLOAT job on an empty path each fix F, release PERMIT, stop the timers and post the deferred entry
under the job's reservation, as one event (R43, R123, R125), a FLOAT job's with hold id 0 and its H leaving float outstanding as F
enters it (R82): END and CANCEL (R34), the run-out wait (R35), HOLD_GONE for its hold (R37), the idle timeout (R41), and the last
delivery of a DRAINING job, after its charge (R36). The run-out wait ends with DONE when the plan is complete or FUNDS when the
funds are out; when both hold it is one of the two. (Which one is a free value: log entry 25. The ends by a clear are in
ClearPausesTheJob. That the entry of a job with hold id 0 counts in float outstanding is a deduction of the model, log entry 52; so
are that the row HOLD_GONE carries the frame's fields, log entry 5, and that the top-up's attempt count becomes 0, log entry 47.) -/
def Obligations.EndedRemoteJobSettles : Prop :=
  (∀ (s : State) (slot : Nat), s.part.AtRest → s.part.config.outcome ≠ .bad → s.part.path.sheets = [] →
      (s.part.job.funding = some .accountRemote ∨ s.part.job.funding = some .float) → s.part.deferredSlot = some slot →
      s.part.store.queue.length < 8 →
      let touched : Part := { s.part with job := { s.part.job with lastActivity := s.part.now } }
      let lost : Part :=
        { s.part with job := { s.part.job with exhausted := some .holdLost }, panel := s.part.panel.raise .funds }
      let open' := s.part.job.state = .ready ∨ s.part.job.state = .running ∨ s.part.job.state = .paused
      (s.part.panel.response = none → open' →
          exec .endJob s = .next { s with part := ((touched.settledRemote .panelEnd slot).answering 4 .ok []).alert } ∧
            exec .cancel s = .next { s with part := ((touched.settledRemote .panelCancel slot).answering 5 .ok []).alert }) ∧
        (∀ due, s.part.job.runOutDue = some due → due ≤ s.part.now →
          ∃ reason,
            exec .runOutDue s = .next { s with part := (s.part.settledRemote reason slot).alert } ∧
              (reason = .done ∧ s.part.job.position = s.part.job.positions ∨
                reason = .funds ∧ s.part.job.exhausted = some .funds ∧ s.part.job.topupOutstanding = false)) ∧
        (open' → s.part.config.values.idleTimeout * 1000 ≤ s.part.now - s.part.job.lastActivity →
          exec .idleTimeout s = .next { s with part := (s.part.settledRemote .idleTimeout slot).alert }) ∧
        ∀ source holdId, s.part.job.funding = some .accountRemote → s.part.job.home = some source →
          s.part.job.holdId = some holdId → open' →
          exec (.holdGone source holdId s.part.job.number) s =
            .next { s with part := (lost.settledRemote .holdLost slot).alert }) ∧
    ∀ (s : State) (slot : Nat) (sheet : Sheet) (r : EndReason), s.part.AtRest → s.part.path.jammed = false →
      s.part.path.sheets = [sheet] → sheet.stage = .atExit → s.part.job.state = .draining →
      s.part.job.endReason = some r → (s.part.job.funding = some .accountRemote ∨ s.part.job.funding = some .float) →
      s.part.deferredSlot = some slot →
      s.part.store.queue = [] →
      let j := s.part.job
      let index := 2 * sheet.media + (if sheet.colour = .mono then 0 else 1)
      let meter : Post :=
        { write :=
            .meter index (min 4294967295 (countGet s.part.ledger.meters index + (if sheet.twoSided then 2 else 1)))
          notes := [] }
      let charged : Job :=
        if sheet.owner = some j.number then
          { j with
            acc := chargeSheet s.part.config.values j.acc sheet
            position := if sheet.index.isSome then j.position + 1 else j.position
            consecutiveJams := if sheet.index.isSome then 0 else j.consecutiveJams
            lastActivity := s.part.now }
        else j
      let delivered : Part :=
        { s.part with
          job := charged
          path := { s.part.path.cover .exit false with sheets := [] }
          store :=
            { s.part.store with
              queue :=
                (if sheet.owner = some j.number then
                    charged.checkpoint.toList.map (fun c => { write := .checkpoint (some c), notes := [] })
                  else []) ++
                  [meter] } }
      exec (.sensorOff 2) s = .next { s with part := (delivered.settledRemote r slot).alert }

/-- A VALUE job that ends with a charge has its card written: SETTLING with F, the session WRITING with the new balance, a
WRITE_VALUE to the reader, in the layout of section 12.9, and a write deadline 2,000 ms later (R43, R75).
The end of a write-back (R76, R77, R78, R123, R172, R180): WRITE_DONE with the card's serial and its write count plus 1 gives
PAID; WRITE_FAIL with the serial, or the write deadline, gives UNPAID. RELEASE is sent, a return is expected unless the card was
removed, the session closes, and with room in the store the JOB record takes the next sequence under the job's reservation, the
checkpoint is cleared and the job returns to IDLE. An answer that does not match, or that comes with the session closed, held or
gone, is ignored. (That a write deadline that has not come, or that comes with no write in flight, changes nothing is the
model's choice, log entry 6; that the end of a job sets the top-up's attempt count to 0 is a deduction of the model, log entry
47.) -/
def Obligations.ValueJobsWriteTheirCard : Prop :=
  (∀ (s : State) (card : ValueCard) (job : Nat), s.part.AtRest → s.part.config.outcome ≠ .bad →
      s.part.panel.response = none → s.part.path.sheets = [] → s.part.job.funding = some .value →
      s.part.card.session = .held card job →
      (s.part.job.state = .ready ∨ s.part.job.state = .running ∨ s.part.job.state = .paused) →
      let charge := finalCharge s.part.config.values s.part.job.acc.gross s.part.job.acc.delivered s.part.job.cls s.part.job.amount
      charge ≠ 0 →
      exec .endJob s =
        .next
          { s with
            part :=
              (({ s.part with
                  permit := false
                  job :=
                    { s.part.job with
                      state := .settling, endReason := some (s.part.job.endReason.getD .panelEnd), charge := some charge
                      keepDue := none, runOutDue := none, topupOutstanding := false, topupAttempts := 0, topupDue := none
                      topupFrame := none, lastActivity := s.part.now }
                  card :=
                    { s.part.card with
                      session := .writing card job false charge (card.balance - charge) (s.part.now + 2000) }
                  outputs :=
                    { s.part.outputs with
                      card :=
                        s.part.outputs.card ++
                          [withCheck
                            (bytesOf 1 7 ++ field 4 card.serial ++ field 3 (card.balance - charge) ++ field 2 card.count)] }
                  panel := s.part.panel.raise .jobState } : Part).answering 4 .ok []).alert }) ∧
    (∀ (s : State) (card : ValueCard) (job serial count : Nat), s.part.AtRest →
      s.part.card.session = .closed ∨ s.part.card.session = .held card job ∨ s.part.card.session = .gone card job →
      exec (.writeDone serial count) s = .next { s with part := s.part.alert } ∧
        exec (.writeFail serial) s = .next { s with part := s.part.alert } ∧
        exec .writeDeadlineExpiry s = .next { s with part := s.part.alert }) ∧
    ∀ (s : State) (card : ValueCard) (job : Nat) (removed : Bool) (charge balance due : Nat), s.part.AtRest →
      s.part.card.session = .writing card job removed charge balance due →
      (∀ (c : Instr) (status : JournalStatus), s.part.job.state = .settling → s.part.store.queue = [] →
          0 < s.part.journal.reserved →
          (c = .writeDone card.serial ((card.count + 1) % 65536) ∧ status = .paid ∨
            c = .writeFail card.serial ∧ status = .unpaid ∨
            c = .writeDeadlineExpiry ∧ due ≤ s.part.now ∧ status = .unpaid) →
          let sequence := s.part.ledger.journalSequence + 1
          exec c s =
            .next
              { s with
                part :=
                  ({ s.part with
                      job := {}
                      card :=
                        { session := .closed
                          returns := if removed then s.part.card.returns else min 7 (s.part.card.returns + 1) }
                      journal := { s.part.journal with reserved := s.part.journal.reserved - 1 }
                      line := (s.part.sendFrame 0 s.part.job.tallyMessage).line
                      outputs := { s.part.outputs with card := s.part.outputs.card ++ [[0x08, 0xF8]] }
                      store :=
                        { s.part.store with
                          queue :=
                            [{ write := .counter .journalSequence sequence, notes := [] },
                              { write :=
                                  .journal (sequence % 256)
                                    { sequence := sequence, body := .job (s.part.job.journalEntry status) }
                                notes := [] },
                              { write := .checkpoint none, notes := [] }] }
                      panel := s.part.panel.raise .jobState } : Part).alert }) ∧
        (∀ serial count, ¬(serial = card.serial ∧ count = (card.count + 1) % 65536) →
          exec (.writeDone serial count) s = .next { s with part := s.part.alert }) ∧
        (∀ serial, serial ≠ card.serial → exec (.writeFail serial) s = .next { s with part := s.part.alert }) ∧
        (s.part.now < due → exec .writeDeadlineExpiry s = .next { s with part := s.part.alert })

/-- JOURNAL_RELEASE moves the export mark up to the sequence named, never past the newest and never back: the mark is posted, or the
request is BUSY when the queue has no place for the post; a mark that does not move is answered OK at once. The answer carries the
mark and the free count as they then stand (R177, R164).
Every command in service that takes the free count from above 16 to 16 or less leaves JOURNAL_LOW raised (R173, R175). -/
def Obligations.JournalReleaseRaisesTheExportMark : Prop :=
  (∀ (s : State) (upTo : Nat), s.part.AtRest → s.part.config.outcome ≠ .bad → s.part.panel.response = none →
      s.part.store.merges (.counter .releaseMark 0) = false →
      let mark := max s.part.ledger.releaseMark (min upTo s.part.ledger.journalSequence)
      (mark = s.part.ledger.releaseMark →
          exec (.journalRelease upTo) s =
            .next { s with part := (s.part.answering 9 .ok (field 4 mark ++ signedField 2 s.part.freeSlots)).alert }) ∧
        (mark ≠ s.part.ledger.releaseMark → s.part.store.queue.length < 8 →
          exec (.journalRelease upTo) s =
            .next
              { s with
                part :=
                  (({ s.part with
                      store :=
                        { s.part.store with
                          queue := s.part.store.queue ++ [{ write := .counter .releaseMark mark, notes := [] }] } } : Part).answering
                    9 .ok
                    (field 4 mark ++
                      signedField 2
                        (journalFree { s.part.ledger with releaseMark := mark } s.part.journal.reserved))).alert }) ∧
        (mark ≠ s.part.ledger.releaseMark → 8 ≤ s.part.store.queue.length →
          exec (.journalRelease upTo) s = .next { s with part := (s.part.answering 9 .busy []).alert })) ∧
    ∀ (c : Instr) (s t : State), exec c s = .next t → s.part.phase = .serving → t.part.phase = .serving →
      16 < s.part.freeSlots → t.part.freeSlots ≤ 16 → t.part.panel.isSet .journalLow = true

/-! ### The sheet path -/

/-- A feed with the path CLEAR, in every state of the part in service (R49, R50, R29, R8): with the door shut and a place in the
list it joins at the tail, stage FED, due in W1, owned by the open job with the lesser of its full reserve and the room, with
the next index while the job runs and positions are left, and otherwise unowned with reserve 0; with the door open it causes a
DOOR jam, and with six sheets in the list an OVERFEED jam, which spoil the fed sheet after the sheets of the list.
A feed that causes a DOOR jam in READY or PAUSED with an empty list (R39, R41, R57, R58, R59): the sheet is spoiled and in the
job's count, the jam is counted in the job, the last activity time is now, JAM is raised and the jam is logged. (That a feed
which is not tracked sets the activity time is a deduction of the model: log entry 48.)
A feed against a jammed path (R62, R51): it is not tracked; it is spoiled, in the job's count in READY, JAMMED, PAUSED and
DRAINING; the unpermitted-feed counter rises, the unowned-sheet counter too in IDLE, AUTHORIZE and SETTLING, and the
spoiled-sheet meter of its media. Nothing else changes. (That the meters of one feed are posted in this order is a deduction of
the model: log entry 50.) -/
def Obligations.FeedsJoinJamOrAreSpoiled : Prop :=
  (∀ (s : State) (media colour sides : Nat), s.part.phase = .serving → s.part.path.jammed = false → media ≤ 7 → colour ≤ 1 →
      (sides = 1 ∨ sides = 2) →
      let j := s.part.job
      let v := s.part.config.values
      let ink : Colour := if colour = 0 then .mono else .colour
      let owned := j.state = .ready ∨ j.state = .running ∨ j.state = .paused ∨ j.state = .draining
      (s.part.path.doorOpen = false → s.part.path.sheets.length < 6 →
          ∃ t, exec (.sheetFed media colour sides) s = .next t ∧
            t.part.path =
              { s.part.path with
                sheets :=
                  s.part.path.sheets ++
                    [{ owner := if owned then some j.number else none
                       index := if j.state = .running ∧ j.assigned < j.positions then some j.assigned else none
                       media := media, colour := ink, twoSided := decide (sides = 2)
                       reserve :=
                        if owned then
                          min (fullReserve v media ink (decide (sides = 2)))
                            (1000 * j.amount - j.acc.gross - j.acc.reserved)
                        else 0
                       stage := .fed, deadline := s.part.now + v.w1 }] }) ∧
        (s.part.path.doorOpen = true ∨ 6 ≤ s.part.path.sheets.length →
          ∃ t e, exec (.sheetFed media colour sides) s = .next t ∧
            t.part.path = { s.part.path with jammed := true, sheets := [], log := writeJam s.part.path.log e } ∧
            e.kind = (if s.part.path.doorOpen then .door else .overfeed) ∧ e.sensor = none ∧ e.code = none ∧
            e.spoiled = s.part.path.sheets.length + 1 ∧ e.time = s.part.now / 1000 ∧ t.part.permit = false ∧
            e.job = (if owned then some j.number else none) ∧
            (s.part.path.sheets.findSome? Sheet.index = none → e.first = none) ∧
            ∀ plan, j.plan = some plan →
              e.first =
                (s.part.path.sheets.findSome? Sheet.index).map
                  (fun i =>
                    if plan.collated then (i, i / plan.originals + 1, i % plan.originals + 1)
                    else (i, i % plan.copies + 1, i / plan.copies + 1)))) ∧
    (∀ (s : State) (media colour sides : Nat), s.part.AtRest → s.part.path.jammed = false → s.part.path.doorOpen = true →
      s.part.path.sheets = [] → (s.part.job.state = .ready ∨ s.part.job.state = .paused) → s.part.store.queue = [] →
      media ≤ 7 → colour ≤ 1 → (sides = 1 ∨ sides = 2) →
      let j := s.part.job
      let raised := fun i => ({ write := .meter i (min 4294967295 (countGet s.part.ledger.meters i + 1)), notes := [] } : Post)
      exec (.sheetFed media colour sides) s =
        .next
          { s with
            part :=
              ({ s.part with
                  permit := false
                  job :=
                    { j with
                      jams := j.jams + 1, assigned := j.position, spoiled := j.spoiled + 1, lastActivity := s.part.now }
                  path :=
                    { s.part.path with
                      jammed := true
                      log :=
                        writeJam s.part.path.log
                          { kind := .door, sensor := none, code := none, job := some j.number, first := none, spoiled := 1
                            time := s.part.now / 1000 } }
                  store := { s.part.store with queue := [raised 24, raised (16 + media)] }
                  panel := s.part.panel.raise .jam } : Part).alert }) ∧
    ∀ (s : State) (media colour sides : Nat), s.part.AtRest → s.part.path.jammed = true → s.part.store.queue = [] →
      media ≤ 7 → colour ≤ 1 → (sides = 1 ∨ sides = 2) →
      let st := s.part.job.state
      let raised := fun i => ({ write := .meter i (min 4294967295 (countGet s.part.ledger.meters i + 1)), notes := [] } : Post)
      exec (.sheetFed media colour sides) s =
        .next
          { s with
            part :=
              ({ s.part with
                  job :=
                    if st = .ready ∨ st = .jammed ∨ st = .paused ∨ st = .draining then
                      { s.part.job with spoiled := s.part.job.spoiled + 1 }
                    else s.part.job
                  store :=
                    { s.part.store with
                      queue :=
                        [raised 24] ++ (if st = .idle ∨ st = .authorize ∨ st = .settling then [raised 25] else []) ++
                          [raised (16 + media)] } } : Part).alert }

/-- A feed under PERMIT (R8, R29, R30, R50, R51): the sheet's reserve joins the reserve sum, A rises, the activity time is now, a
run-out wait ends, and PERMIT is decided again; no meter counts the feed, and nothing else changes.
A feed after which the next sheet has no headroom, with positions left (R9, R30, R31): PERMIT is released. With a place in the path, no
top-up outstanding and funds not exhausted, an account job with less than 100,000 asks for the lesser of the hold step and what is
left to 100,000: a remote one by HOLD_MORE to its home, with 400 ms to run, a local one of the own hold table at once (R94, R102); a
VALUE or FLOAT job, and one that holds 100,000, has funds exhausted, cause FUNDS, and FUNDS raised. (A local request that is not
granted is left to R32 and R37. No rule moves a local request's attempt count: log entry 12.) -/
def Obligations.PermittedFeedTakesItsReserve : Prop :=
  (∀ (s : State) (media colour sides : Nat), s.part.AtRest → s.part.permit = true → s.part.path.doorOpen = false →
      media ≤ 7 → colour ≤ 1 → (sides = 1 ∨ sides = 2) →
      let j := s.part.job
      let ink : Colour := if colour = 0 then .mono else .colour
      let reserve :=
        min (fullReserve s.part.config.values media ink (decide (sides = 2)))
          (1000 * j.amount - j.acc.gross - j.acc.reserved)
      let headroom := decide (j.acc.gross + (j.acc.reserved + reserve) + j.planReserve ≤ 1000 * j.amount)
      (j.assigned + 1 = j.positions ∨ headroom = true) →
      exec (.sheetFed media colour sides) s =
        .next
          { s with
            part :=
              ({ s.part with
                  job :=
                    { j with
                      acc := { j.acc with reserved := j.acc.reserved + reserve }, assigned := j.assigned + 1
                      lastActivity := s.part.now, runOutDue := none }
                  path :=
                    { s.part.path with
                      sheets :=
                        s.part.path.sheets ++
                          [{ owner := some j.number, index := some j.assigned, media := media, colour := ink
                             twoSided := decide (sides = 2), reserve := reserve, stage := .fed
                             deadline := s.part.now + s.part.config.values.w1 }] }
                  permit :=
                    decide (s.part.path.sheets.length + 1 < 6) && decide (j.assigned + 1 < j.positions) && headroom } :
                Part).alert }) ∧
    ∀ (s : State) (media colour sides : Nat), s.part.AtRest → s.part.permit = true → s.part.path.doorOpen = false →
      media ≤ 7 → colour ≤ 1 → (sides = 1 ∨ sides = 2) →
      let j := s.part.job
      let v := s.part.config.values
      let ink : Colour := if colour = 0 then .mono else .colour
      let reserve := min (fullReserve v media ink (decide (sides = 2))) (1000 * j.amount - j.acc.gross - j.acc.reserved)
      let increment := min v.holdStep (100000 - j.amount)
      let fed : Part :=
        { s.part with
          job :=
            { j with
              acc := { j.acc with reserved := j.acc.reserved + reserve }, assigned := j.assigned + 1
              lastActivity := s.part.now, runOutDue := none }
          path :=
            { s.part.path with
              sheets :=
                s.part.path.sheets ++
                  [{ owner := some j.number, index := some j.assigned, media := media, colour := ink
                     twoSided := decide (sides = 2), reserve := reserve, stage := .fed, deadline := s.part.now + v.w1 }] }
          permit := false }
      let becomes := fun (p : Part) => exec (.sheetFed media colour sides) s = .next { s with part := p.alert }
      j.assigned + 1 < j.positions → 1000 * j.amount < j.acc.gross + (j.acc.reserved + reserve) + j.planReserve →
      (s.part.path.sheets.length + 1 = 6 ∨ j.topupOutstanding = true ∨ j.exhausted.isSome = true → becomes fed) ∧
        (s.part.path.sheets.length + 1 < 6 → j.topupOutstanding = false → j.exhausted = none →
          (j.funding = some .value ∨ j.funding = some .float ∨ 100000 ≤ j.amount →
              becomes
                { fed with job := { fed.job with exhausted := some .funds }, panel := s.part.panel.raise .funds }) ∧
            (∀ home, j.home = some home → j.funding = some .accountRemote → j.amount < 100000 →
              becomes
                { fed with
                  job :=
                    { fed.job with
                      topupOutstanding := true, topupAttempts := j.topupAttempts + 1, topupDue := some (s.part.now + 400)
                      topupFrame := if s.part.refusesFrame home then none else some s.part.line.nextTicket }
                  line := (s.part.sendFrame home (.holdMore (j.holdId.getD 0) j.number increment)).line }) ∧
            ∀ slot r, ownHold s.part.ledger v.station (j.holdId.getD 0) j.number = some (slot, r) →
              j.funding = some .accountLocal → j.amount < 100000 → j.number ≠ 0 → r.state = .active →
              let grant := min (min increment (s.part.availableOf r.account)) (100000 - r.amount)
              s.part.isBlocked r.account = false → v.minGrant ≤ grant → s.part.store.queue = [] →
              ∃ t, exec (.sheetFed media colour sides) s = .next t ∧
                t =
                  { s with
                    part :=
                      ({ fed with
                          job := { fed.job with topupOutstanding := true }
                          accounts := { s.part.accounts with held := t.part.accounts.held }
                          store :=
                            { s.part.store with
                              queue :=
                                [{ write :=
                                    .hold slot (some { r with amount := r.amount + grant, touched := s.part.now / 1000 })
                                   notes := [.grant v.station slot r.id r.job] }] } } : Part).alert } ∧
                (tableGet s.part.ledger.holds slot = some r → r.amount ≤ s.part.held r.account →
                  Rising s.part.accounts.held →
                  ∀ n, t.part.held n = s.part.held n + (if n = r.account then grant else 0)))

/-- What jams a CLEAR path, in every state of the part in service: ENGINE_FAULT and a garbled message (R45, R56); DOOR_OPEN with a sheet
in the list or the job RUNNING (R56); a SENSOR_ON that the oldest sheet not yet at the sensor cannot meet, and a SENSOR_OFF with no
sheet at the sensor (R52, R53, R54); a deadline that comes (R55). The list is emptied, PERMIT is released, and the jam log takes an
entry of that kind (R57, R59), with the job in READY, RUNNING, PAUSED or DRAINING and the first spoiled index with its copy and page
(R29). -/
def Obligations.JamsStopThePath : Prop :=
  ∀ s : State, s.part.phase = .serving → s.part.path.jammed = false →
    let p := s.part.path
    let owns :=
      s.part.job.state = .ready ∨ s.part.job.state = .running ∨ s.part.job.state = .paused ∨ s.part.job.state = .draining
    let ofJob := fun (e : JamEntry) =>
      e.job = (if owns then some s.part.job.number else none) ∧
        (p.sheets.findSome? Sheet.index = none → e.first = none) ∧
          ∀ plan, s.part.job.plan = some plan →
            e.first =
              (p.sheets.findSome? Sheet.index).map
                (fun i =>
                  if plan.collated then (i, i / plan.originals + 1, i % plan.originals + 1)
                  else (i, i % plan.copies + 1, i / plan.copies + 1))
    let jams := fun (c : Instr) (path : PathMonitor) (kind : JamKind) (sensor : Option Sensor) (code : Option Nat) =>
      ∃ t e, exec c s = .next t ∧ t.part.path = { path with jammed := true, sheets := [], log := writeJam p.log e } ∧
        e.kind = kind ∧ e.sensor = sensor ∧ e.code = code ∧ e.spoiled = p.sheets.length ∧ e.time = s.part.now / 1000 ∧
        t.part.permit = false ∧ ofJob e
    (∀ code, code ≤ 255 → jams (.engineFault code) p .engine none (some code)) ∧
      jams .engineMessageGarbled p .engine none none ∧
      (p.sheets ≠ [] ∨ s.part.job.state = .running → jams .doorOpen { p with doorOpen := true } .door none none) ∧
      (∀ x : Sensor,
        (p.sheets.any (fun sheet => sheet.stage = x.stage) = true ∨
            (p.sheets.find? (fun sheet => decide (sheet.stage.rank < x.stage.rank))).map Sheet.stage ≠ some x.stageBefore) →
          jams (.sensorOn x.code) (p.cover x true) .stray (some x) none) ∧
      (∀ x : Sensor, (∀ sheet ∈ p.sheets, sheet.stage ≠ x.stage) →
          jams (.sensorOff x.code) (p.cover x false) .stray (some x) none) ∧
      ∀ (place : Nat) (sheet : Sheet), p.sheets[place]? = some sheet → sheet.deadline ≤ s.part.now →
        jams (.sheetDeadlineExpiry place) p
          (match sheet.stage with
          | .fed | .toFuse | .toExit => .late
          | .atReg | .atFuse | .atExit => .stuck)
          (some
            (match sheet.stage with
            | .fed | .atReg => .reg
            | .toFuse | .atFuse => .fuse
            | .toExit | .atExit => .exit))
          none

/-- What a jam does to the job (R10, R39, R57, R58), for every cause but a feed: an ENGINE_FAULT, a garbled message, a DOOR_OPEN, a
stray sensor event, and a deadline that comes. Its sheets are spoiled and their reserves return, A is set to D, jams in
job rises; a RUNNING or DRAINING job enters JAMMED with consecutive jams raised, its run-out wait ended, and the drain mark set
when it was DRAINING; a READY or PAUSED job keeps its state; in the other states the job is not concerned. The spoiled-sheet
meter of each sheet's media rises. JAM is raised. (A jam that empties the list after the idle time has been reached ends a READY
or PAUSED job by R41 as well; that event is left to R41.) (Log entry 28.) -/
def Obligations.JamSpoilsTheJobsSheets : Prop :=
  ∀ (s : State) (c : Instr), s.part.AtRest → s.part.path.jammed = false →
    ((∃ code, c = .engineFault code) ∨ c = .engineMessageGarbled ∨
      (c = .doorOpen ∧ (s.part.path.sheets ≠ [] ∨ s.part.job.state = .running)) ∨
      (∃ x : Sensor,
        c = .sensorOn x.code ∧
          (s.part.path.sheets.any (fun sheet => sheet.stage = x.stage) = true ∨
            (s.part.path.sheets.find? (fun sheet => decide (sheet.stage.rank < x.stage.rank))).map Sheet.stage ≠
              some x.stageBefore)) ∨
      (∃ x : Sensor, c = .sensorOff x.code ∧ ∀ sheet ∈ s.part.path.sheets, sheet.stage ≠ x.stage) ∨
      ∃ place,
        c = .sheetDeadlineExpiry place ∧
          (s.part.path.sheets[place]?).any (fun sheet => decide (sheet.deadline ≤ s.part.now)) = true) →
    (s.part.job.state = .ready ∨ s.part.job.state = .paused →
      s.part.path.sheets = [] ∨ s.part.now - s.part.job.lastActivity < s.part.config.values.idleTimeout * 1000) →
    s.part.Canonical →
    ∃ t, exec c s = .next t ∧
      let j := s.part.job
      let own := s.part.path.sheets.filter (fun sheet => decide (sheet.owner = some j.number))
      let spoilt : Job :=
        { j with
          spoiled := j.spoiled + own.length
          acc := { j.acc with reserved := j.acc.reserved - (own.map Sheet.reserve).sum } }
      let ran := j.state = .running ∨ j.state = .draining
      let kept := j.state = .ready ∨ j.state = .paused
      t =
        { s with
          part :=
            ({ s.part with
                job :=
                  if ran then
                    { spoilt with
                      state := .jammed, jams := j.jams + 1, consecutiveJams := j.consecutiveJams + 1, assigned := j.position
                      runOutDue := none, drainMark := j.drainMark || decide (j.state = .draining) }
                  else if kept then { spoilt with jams := j.jams + 1, assigned := j.position }
                  else spoilt
                permit := false
                path := t.part.path
                store := t.part.store
                panel := ((if ran then s.part.panel.raise .jobState else s.part.panel).raise .jam) } : Part).alert } ∧
        t.part.store.stored = s.part.store.stored ∧ t.part.store.work = [] ∧
        t.part.ledger = { s.part.ledger with meters := t.part.ledger.meters } ∧
        ∀ i,
          let spoils := s.part.path.sheets.countP (fun sheet => decide (16 + sheet.media = i))
          countGet t.part.ledger.meters i =
            if spoils = 0 then countGet s.part.ledger.meters i
            else min 4294967295 (countGet s.part.ledger.meters i + spoils)

/-- A sheet moves along the path (R52, R53): at SENSOR_ON the oldest sheet not yet at the sensor, when it is in the stage just
before, moves onto it with its media's dwell limit; at SENSOR_OFF of REG or FUSE the sheet on it moves off with the next window. The
sensor's covered state follows (R48), and nothing else changes.
What the path monitor only records: on a jammed path a SENSOR_ON, a DOOR_OPEN, a fault or a garbled message, and a SENSOR_OFF or
DOOR_CLOSED that does not clear it (R61, R63, R64); on a CLEAR path the closing of the door, and its opening with an empty list and
no job RUNNING (R56); and a deadline that has no entry or has not come (R55). (A deadline with no entry, or that has not
come, is an event the part never meets; that it changes nothing is the model's choice: log entry 6.) -/
def Obligations.SensorsMoveTheirSheetOrAreRecorded : Prop :=
  (∀ (s : State) (x : Sensor) (ahead behind : List Sheet) (sheet : Sheet), s.part.AtRest → s.part.path.jammed = false →
      s.part.path.sheets = ahead ++ sheet :: behind →
      ((∀ y ∈ ahead, x.stage.rank < y.stage.rank) → sheet.stage = x.stageBefore → (∀ y ∈ behind, y.stage ≠ x.stage) →
          exec (.sensorOn x.code) s =
            .next
              { s with
                part :=
                  ({ s.part with
                      path :=
                        { s.part.path.cover x true with
                          sheets :=
                            ahead ++
                              { sheet with
                                  stage := x.stage
                                  deadline := s.part.now + s.part.config.values.dwell.getD sheet.media 0 } ::
                                behind } } : Part).alert }) ∧
        ((∀ y ∈ ahead, y.stage ≠ x.stage) → sheet.stage = x.stage → x ≠ .exit →
          exec (.sensorOff x.code) s =
            .next
              { s with
                part :=
                  ({ s.part with
                      path :=
                        { s.part.path.cover x false with
                          sheets :=
                            ahead ++
                              { sheet with
                                  stage := if x = .reg then .toFuse else .toExit
                                  deadline :=
                                    s.part.now + (if x = .reg then s.part.config.values.w2 else s.part.config.values.w3) } ::
                                behind } } : Part).alert })) ∧
    ∀ s : State, s.part.AtRest →
      let p := s.part.path
      let records := fun (c : Instr) (path : PathMonitor) =>
        exec c s = .next { s with part := ({ s.part with path := path } : Part).alert }
      (p.jammed = true →
          (∀ x : Sensor, records (.sensorOn x.code) (p.cover x true)) ∧ records .doorOpen { p with doorOpen := true } ∧
            (∀ code, records (.engineFault code) p) ∧ records .engineMessageGarbled p ∧
            (∀ x : Sensor, (p.cover x false).isClear = false → records (.sensorOff x.code) (p.cover x false)) ∧
            (p.regCovered = true ∨ p.fuseCovered = true ∨ p.exitCovered = true →
              records .doorClosed { p with doorOpen := false })) ∧
        (p.jammed = false →
          records .doorClosed { p with doorOpen := false } ∧
            (p.sheets = [] → s.part.job.state ≠ .running → records .doorOpen { p with doorOpen := true })) ∧
        ∀ place, (∀ sheet, p.sheets[place]? = some sheet → s.part.now < sheet.deadline) →
          records (.sheetDeadlineExpiry place) p

/-- The clear (R39, R64, R65): at the DOOR_CLOSED or SENSOR_OFF that leaves the sensors uncovered and the door closed the path is CLEAR
again; a JAMMED job with positions left, fewer than three jams in a row and no drain mark enters PAUSED with its activity time now;
a job in IDLE, AUTHORIZE, READY, PAUSED or SETTLING is left as it is. A JAMMED job of ACCOUNT_REMOTE or FLOAT funding settles at the
clear (R39 items 1 and 2, R42, R43, R123): with its third jam in a row, JAM_LIMIT; with the drain mark; with no positions left,
DONE; an end reason already set stays. (Deductions of the model: the entry of a job with hold id 0 counts in float outstanding, log
entry 52; the top-up's attempt count becomes 0, log entry 47.) -/
def Obligations.ClearPausesTheJob : Prop :=
  ∀ (s : State) (c : Instr) (path : PathMonitor), s.part.AtRest → s.part.path.jammed = true →
    ((c = .doorClosed ∧ path = { s.part.path with doorOpen := false }) ∨
      ∃ x : Sensor, c = .sensorOff x.code ∧ path = s.part.path.cover x false) →
    path.regCovered = false → path.fuseCovered = false → path.exitCovered = false → path.doorOpen = false →
    (s.part.job.state = .jammed → s.part.job.drainMark = false → s.part.job.consecutiveJams ≠ 3 →
        s.part.job.position ≠ s.part.job.positions →
        exec c s =
          .next
            { s with
              part :=
                ({ s.part with
                    path := { path with jammed := false }
                    job := { s.part.job with state := .paused, lastActivity := s.part.now }
                    panel := s.part.panel.raise .jobState } : Part).alert }) ∧
      (s.part.job.state = .idle ∨ s.part.job.state = .authorize ∨ s.part.job.state = .ready ∨ s.part.job.state = .paused ∨
          s.part.job.state = .settling →
        exec c s = .next { s with part := ({ s.part with path := { path with jammed := false } } : Part).alert }) ∧
      ∀ slot, s.part.job.state = .jammed →
        (s.part.job.funding = some .accountRemote ∨ s.part.job.funding = some .float) → s.part.deferredSlot = some slot →
        s.part.store.queue.length < 8 →
        let cleared : Part := { s.part with path := { path with jammed := false } }
        (s.part.job.consecutiveJams = 3 →
            exec c s = .next { s with part := (cleared.settledRemote .jamLimit slot).alert }) ∧
          (s.part.job.consecutiveJams ≠ 3 → s.part.job.drainMark = true →
            ∀ r, s.part.job.endReason = some r →
              exec c s = .next { s with part := (cleared.settledRemote r slot).alert }) ∧
          (s.part.job.consecutiveJams ≠ 3 → s.part.job.drainMark = false → s.part.job.position = s.part.job.positions →
            exec c s = .next { s with part := (cleared.settledRemote .done slot).alert })

/-- A delivery (R11, R29, R35, R54): SENSOR_OFF(EXIT) takes the sheet at EXIT off the head of the list. A sheet of the job, in READY,
RUNNING, PAUSED or DRAINING, is charged; an indexed one raises D and ends the run of jams; the activity time is now, and the checkpoint
is posted. A sheet that is not the job's, in every state, charges no job. The meter of its media and colour rises by its impressions.
A RUNNING job whose list is then empty with no position left, or with its funds out, starts its run-out wait; PERMIT is decided again.
Nothing else changes. (The delivery that empties the list of a DRAINING job is in EndedRemoteJobSettles. A job out of funds that then
asks for more, and an unowned sheet that empties the list after the idle time, are left to R31 and R41.) -/
def Obligations.DeliveryChargesTheSheet : Prop :=
  ∀ (s : State) (sheet : Sheet) (behind : List Sheet), s.part.AtRest → s.part.path.jammed = false →
    s.part.store.queue = [] → s.part.path.sheets = sheet :: behind → sheet.stage = .atExit →
    s.part.config.values.idleTimeout ≠ 0 →
    let j := s.part.job
    let own := sheet.owner = some j.number
    let index := 2 * sheet.media + (if sheet.colour = .mono then 0 else 1)
    let meter : Post :=
      { write :=
          .meter index (min 4294967295 (countGet s.part.ledger.meters index + (if sheet.twoSided then 2 else 1)))
        notes := [] }
    let charged : Job :=
      if own then
        { j with
          acc := chargeSheet s.part.config.values j.acc sheet
          position := if sheet.index.isSome then j.position + 1 else j.position
          consecutiveJams := if sheet.index.isSome then 0 else j.consecutiveJams
          lastActivity := s.part.now }
      else j
    (own → j.state = .ready ∨ j.state = .running ∨ j.state = .paused ∨ j.state = .draining) →
    (j.state = .draining → behind ≠ []) →
    (j.state = .running → charged.headroom = true ∨ j.topupOutstanding = true ∨ j.exhausted.isSome = true) →
    (¬own → j.state = .ready ∨ j.state = .running ∨ j.state = .paused →
      behind ≠ [] ∨ s.part.now - j.lastActivity < s.part.config.values.idleTimeout * 1000) →
    exec (.sensorOff 2) s =
      .next
        { s with
          part :=
            ({ s.part with
                job :=
                  { charged with
                    runOutDue :=
                      if j.state = .running ∧ behind = [] ∧
                          (charged.position = charged.positions ∨
                            (j.exhausted = some .funds ∧ j.topupOutstanding = false)) then
                        some (s.part.now + s.part.config.values.w1)
                      else none }
                path := { s.part.path.cover .exit false with sheets := behind }
                permit :=
                  decide (j.state = .running) && decide (s.part.config.outcome ≠ .bad) && decide (behind.length < 6) &&
                    decide (charged.assigned < charged.positions) && charged.headroom
                store :=
                  { s.part.store with
                    queue :=
                      (if own then
                          charged.checkpoint.toList.map (fun c => { write := .checkpoint (some c), notes := [] })
                        else []) ++
                        [meter] } } : Part).alert }

/-! ### Cards -/

/-- The validation of a card record, in the order of its tests (R69, R70, section 12.2): a record whose bytes do not sum to 0 gives
CARD_CHECK; so does one that sums to 0 but is not of its kind's length, 6 bytes for an account card and 12 for a value card; one that
sums to 0 with a first byte that is neither kind gives CARD_KIND; an account record of that layout is valid exactly with an account that is not 0 and a home of 1 to 30; a value record
exactly with a balance of 1 to 100,000 and a class of 0 to 3, a balance of 0 giving CARD_EMPTY. (That an empty record gives
CARD_CHECK is a deduction of the model: log entry 22.) -/
def Obligations.CardRecordsAreValidatedInOrder : Prop :=
  (∀ bytes : List Byte, byteSum bytes ≠ 0 → validateCard bytes = .error .cardCheck) ∧
    validateCard [] = .error .cardCheck ∧
    (∀ (kind : Byte) (rest : List Byte), byteSum (kind :: rest) = 0 →
      (kind = 1 ∧ rest.length ≠ 5 ∨ kind = 2 ∧ rest.length ≠ 11 → validateCard (kind :: rest) = .error .cardCheck) ∧
        (kind ≠ 1 → kind ≠ 2 → validateCard (kind :: rest) = .error .cardKind)) ∧
    (∀ number home : Nat, fits 3 number = true → fits 1 home = true →
      validateCard (withCheck (bytesOf 1 1 ++ bytesOf 3 number ++ bytesOf 1 home)) =
        if number = 0 ∨ home = 0 ∨ 30 < home then .error .cardField else .ok (.account number home)) ∧
    ∀ serial balance cls count : Nat, fits 4 serial = true → fits 3 balance = true → fits 1 cls = true → fits 2 count = true →
      validateCard (withCheck (bytesOf 1 2 ++ bytesOf 4 serial ++ bytesOf 3 balance ++ bytesOf 1 cls ++ bytesOf 2 count)) =
        if 100000 < balance ∨ 3 < cls then .error .cardField
        else if balance = 0 then .error .cardEmpty
        else .ok (.value { serial := serial, balance := balance, cls := cls, count := count })

/-- A card that fails validation, or that the job controller refuses by the first of its tests that fails (R21), is answered
EJECT (section 12.9); a return is expected, up to 7; CARD_REJECT is raised with the reason. It takes no job number and no
reservation (R70, R71, R72).
An accepted value card (R21, R22, R71, R168): RETAIN (section 12.9); the job READY with the next number, VALUE, the serial,
H the balance and the class of the card; a session that holds the card; a journal slot reserved; the number and the checkpoint
posted. -/
def Obligations.CardsAreRefusedOrOpenAValueJob : Prop :=
  (∀ (s : State) (record : List Byte) (reason : Reject), s.part.AtRest →
      (validateCard record = .error reason ∨
        ∃ card, validateCard record = .ok card ∧
          (if s.part.job.state ≠ .idle then some Reject.busy
            else if s.part.config.outcome = .bad then some Reject.outOfService
            else if s.part.freeSlots ≤ 8 then some Reject.stationFull
            else
              match card with
              | .account _ _ =>
                if 16 ≤ s.part.deferredUsed + s.part.settlement.reserved then some Reject.stationFull else none
              | .value _ => none) = some reason) →
      exec (.cardIn record) s =
        .next
          { s with
            part :=
              ({ s.part with
                  card := { s.part.card with returns := min 7 (s.part.card.returns + 1) }
                  outputs := { s.part.outputs with card := s.part.outputs.card ++ [[0x06, 0xFA]] }
                  panel := { s.part.panel.raise .cardReject with reject := some reason } } : Part).alert }) ∧
    ∀ (s : State) (record : List Byte) (card : ValueCard), s.part.AtRest → validateCard record = .ok (.value card) →
      s.part.job = {} → s.part.config.outcome ≠ .bad → 17 < s.part.freeSlots → s.part.store.queue = [] →
      let number := if 65535 ≤ s.part.ledger.jobNumber then 1 else s.part.ledger.jobNumber + 1
      exec (.cardIn record) s =
        .next
          { s with
            part :=
              ({ s.part with
                  job :=
                    { ({} : Job) with
                      state := .ready, number := number, funding := some .value, payer := card.serial
                      limit := some card.balance, cls := card.cls, lastActivity := s.part.now }
                  card := { s.part.card with session := .held card number }
                  journal := { s.part.journal with reserved := s.part.journal.reserved + 1 }
                  outputs := { s.part.outputs with card := s.part.outputs.card ++ [[0x05, 0xFB]] }
                  store :=
                    { s.part.store with
                      queue :=
                        [{ write := .counter .jobNumber number, notes := [] },
                          { write :=
                              .checkpoint
                                (some
                                  { job := number, funding := .value, payer := card.serial, home := none, holdId := none
                                    limit := card.balance, cls := card.cls, gross := 0, delivered := 0, mono := 0, colour := 0
                                    position := 0, unbilled := 0, unpermitted := 0, spoiled := 0, jams := 0 })
                            notes := [] }] }
                  panel := s.part.panel.raise .jobState } : Part).alert }

/-- An accepted account card with a remote home (R21, R24, R72): the job in AUTHORIZE with the next number, a journal slot and a
deferred slot reserved, a return expected, and the first ask: HOLD_ASK with the hold step queued for the home, unless the line
refuses it, and 400 ms to run.
With this station as the home (R21, R23, R90, R102) the own hold table decides the ask at the same event, with no frame and no timer: a
denial, by the first test that fails, returns the record to IDLE, both reservations released, CARD_REJECT with its reason; a grant
counts as held and posts the hold id and the record, and the job waits in AUTHORIZE for the write. (The grant's write-done is in
HoldAsksAreGrantedOrDenied.) -/
def Obligations.AccountCardAsksItsHome : Prop :=
  (∀ (s : State) (record : List Byte) (number home : Nat), s.part.AtRest →
      validateCard record = .ok (.account number home) → home ≠ s.part.config.values.station → s.part.job = {} →
      s.part.config.outcome ≠ .bad → 17 < s.part.freeSlots → s.part.deferredUsed + s.part.settlement.reserved < 16 →
      s.part.store.queue = [] →
      let job := if 65535 ≤ s.part.ledger.jobNumber then 1 else s.part.ledger.jobNumber + 1
      let ticket := s.part.line.nextTicket
      let sent := s.part.refusesFrame home = false
      exec (.cardIn record) s =
        .next
          { s with
            part :=
              ({ s.part with
                  job :=
                    { ({} : Job) with
                      state := .authorize, number := job, funding := some .accountRemote, payer := number, home := some home
                      askAttempts := 1, askDue := some (s.part.now + 400), askFrame := if sent then some ticket else none }
                  card := { s.part.card with returns := min 7 (s.part.card.returns + 1) }
                  journal := { s.part.journal with reserved := s.part.journal.reserved + 1 }
                  settlement := { s.part.settlement with reserved := s.part.settlement.reserved + 1 }
                  line :=
                    if sent then
                      { s.part.line with
                        outbound :=
                          insertFrame s.part.line.outbound
                            { ticket := ticket, dest := home, message := .holdAsk number job s.part.config.values.holdStep }
                        nextTicket := ticket + 1 }
                    else s.part.line
                  store := { s.part.store with queue := [{ write := .counter .jobNumber job, notes := [] }] }
                  panel := s.part.panel.raise .jobState } : Part).alert }) ∧
    ∀ (s : State) (record : List Byte) (account : Nat), s.part.AtRest →
      validateCard record = .ok (.account account s.part.config.values.station) → s.part.job = {} →
      s.part.config.outcome ≠ .bad → 17 < s.part.freeSlots → s.part.deferredUsed + s.part.settlement.reserved < 16 →
      s.part.store.queue = [] →
      let job := if 65535 ≤ s.part.ledger.jobNumber then 1 else s.part.ledger.jobNumber + 1
      let l := s.part.ledger
      let station := s.part.config.values.station
      let counted : Post := { write := .counter .jobNumber job, notes := [] }
      let returned : CardInterface := { s.part.card with returns := min 7 (s.part.card.returns + 1) }
      let denied := fun (reason : Nat) =>
        exec (.cardIn record) s =
          .next
            { s with
              part :=
                ({ s.part with
                    card := returned
                    store := { s.part.store with queue := [counted] }
                    panel :=
                      { (s.part.panel.raise .jobState).raise .cardReject with reject := some (.denied reason) } } :
                  Part).alert }
      repeatOf l station account job = none →
      (findAccount l account = none → denied 1) ∧
        ∀ place a, findAccount l account = some (place, a) →
          let grant := min (min s.part.config.values.holdStep (available a (s.part.held account))) 100000
          (a.blocked = true → denied 2) ∧
            (a.blocked = false → grant < s.part.config.values.minGrant → denied 3) ∧
            ∀ slot, lowestFree l.holds 0 64 = some slot → a.blocked = false → s.part.config.values.minGrant ≤ grant →
              let id := nextHoldId l.holds 65 l.holdId
              exec (.cardIn record) s =
                .next
                  { s with
                    part :=
                      ({ s.part with
                          job :=
                            { ({} : Job) with
                              state := .authorize, number := job, funding := some .accountLocal, payer := account
                              home := some station }
                          card := returned
                          journal := { s.part.journal with reserved := s.part.journal.reserved + 1 }
                          settlement := { s.part.settlement with reserved := s.part.settlement.reserved + 1 }
                          accounts :=
                            { s.part.accounts with
                              held := countSet s.part.accounts.held account (s.part.held account + grant) }
                          store :=
                            { s.part.store with
                              queue :=
                                [counted, { write := .counter .holdId id, notes := [] },
                                  { write :=
                                      .hold slot
                                        (some
                                          { id := id, account := account, station := station, job := job, amount := grant
                                            state := .active, touched := s.part.now / 1000 })
                                    notes := [.grant station slot id job] }] }
                          panel := s.part.panel.raise .jobState } : Part).alert }

/-- CARD_OUT (R38, R72, R74): with a return expected it is taken as that return; with none expected it reaches the session: a held
card is gone, which ends a READY, RUNNING or PAUSED job with sheets in the path in DRAINING, CARD_GONE; a card being written is
marked removed; with no session, or the card already gone, it is ignored.
A held card that is gone marks a JAMMED job with the drain mark and leaves a DRAINING one as it is, with the reason CARD_GONE unless
one is set (R38, R42). On an empty path the job settles at this event (R43, R75, R78, R123): with no card to write, RELEASE is
sent and no return is expected, the session closes, the JOB record takes the next sequence under the job's reservation, PAID when
nothing is charged and UNPAID otherwise, the TALLY is queued, the checkpoint is cleared and the record returns to IDLE. (The TALLY has
no end reason: log entry 49.) -/
def Obligations.CardOutReachesTheSession : Prop :=
  (∀ (s : State) (card : ValueCard) (job : Nat), s.part.AtRest →
      (0 < s.part.card.returns →
          exec .cardOut s =
            .next
              { s with part := ({ s.part with card := { s.part.card with returns := s.part.card.returns - 1 } } : Part).alert }) ∧
        (s.part.card.returns = 0 → s.part.card.session = .closed ∨ s.part.card.session = .gone card job →
          exec .cardOut s = .next { s with part := s.part.alert }) ∧
        (∀ removed charge balance due, s.part.card.session = .writing card job removed charge balance due →
          s.part.card.returns = 0 →
          exec .cardOut s =
            .next
              { s with
                part :=
                  ({ s.part with
                      card := { s.part.card with session := .writing card job true charge balance due } } : Part).alert }) ∧
        (s.part.card.returns = 0 → s.part.card.session = .held card job →
          s.part.job.state = .ready ∨ s.part.job.state = .running ∨ s.part.job.state = .paused → s.part.path.sheets ≠ [] →
          exec .cardOut s =
            .next
              { s with
                part :=
                  ({ s.part with
                      card := { s.part.card with session := .gone card job }
                      job :=
                        { s.part.job with
                          state := .draining, endReason := some (s.part.job.endReason.getD .cardGone), runOutDue := none }
                      permit := false
                      panel := s.part.panel.raise .jobState } : Part).alert })) ∧
    ∀ (s : State) (card : ValueCard) (job : Nat), s.part.AtRest → s.part.card.returns = 0 →
      s.part.card.session = .held card job →
      let j := s.part.job
      let gone : CardInterface := { s.part.card with session := .gone card job }
      let reason := some (j.endReason.getD .cardGone)
      (j.state = .jammed →
          exec .cardOut s =
            .next
              { s with
                part := ({ s.part with card := gone, job := { j with endReason := reason, drainMark := true } } : Part).alert }) ∧
        (j.state = .draining →
          exec .cardOut s =
            .next { s with part := ({ s.part with card := gone, job := { j with endReason := reason } } : Part).alert }) ∧
        (j.state = .ready ∨ j.state = .running ∨ j.state = .paused → s.part.path.sheets = [] → j.funding = some .value →
          s.part.store.queue = [] → 0 < s.part.journal.reserved →
          let charge := finalCharge s.part.config.values j.acc.gross j.acc.delivered j.cls j.amount
          let ended : Job := { j with endReason := reason, charge := some charge }
          let sequence := s.part.ledger.journalSequence + 1
          exec .cardOut s =
            .next
              { s with
                part :=
                  ({ s.part with
                      permit := false, job := {}, card := { s.part.card with session := .closed }
                      journal := { s.part.journal with reserved := s.part.journal.reserved - 1 }
                      line := (s.part.sendFrame 0 ended.tallyMessage).line
                      outputs := { s.part.outputs with card := s.part.outputs.card ++ [[0x08, 0xF8]] }
                      store :=
                        { s.part.store with
                          queue :=
                            [{ write := .counter .journalSequence sequence, notes := [] },
                              { write :=
                                  .journal (sequence % 256)
                                    { sequence := sequence
                                      body := .job (ended.journalEntry (if charge = 0 then .paid else .unpaid)) }
                                notes := [] },
                              { write := .checkpoint none, notes := [] }] }
                      panel := s.part.panel.raise .jobState } : Part).alert })

/-- What is discarded changes nothing: a card message that fails its check or has no kind of the reader's (R68), an ACCT_ANSWER
(R110) and a TALLY (R142) that are received. (That the rows ACCT_ANSWER and TALLY carry the frame's fields is a deduction of
the model: log entry 5.) -/
def Obligations.DiscardedMessagesChangeNothing : Prop :=
  ∀ s : State, exec .cardMessageDiscarded s = .next s ∧
    (∀ source account result available spent, exec (.acctAnswer source account result available spent) s = .next s) ∧
    ∀ source job funding id charge impressions, exec (.tally source job funding id charge impressions) s = .next s

/-! ### Funding: asks, top-ups, holds kept and lost -/

/-- The end of an ask attempt (R24, R25, R83): while fewer than three have been made the next is made at once; after the third the
float decision is taken: with a grant of at least minGrant the job is READY as FLOAT with H the grant and class 0, and without it the
record returns to IDLE, both reservations released, HOME_SILENT.
The other timers of a job: a top-up attempt that ends is followed by the next, and the third sets funds exhausted (R31, R32); the
hold is kept when its time comes, and the time advances by half the lifetime (R33); the cancelled-ask record ends with its attempt
and gives its reserved slot back (R26). (That the attempt count becomes 0 with the top-up is a deduction of the model: log entry
47.) -/
def Obligations.TimersAskAgainKeepTheHoldOrGiveUp : Prop :=
  (∀ (s : State) (home due : Nat), s.part.AtRest → s.part.job.state = .authorize → s.part.job.home = some home →
      s.part.job.askDue = some due → due ≤ s.part.now →
      let j := s.part.job
      let v := s.part.config.values
      let grant := min v.floatLimit (v.floatPool - s.part.settlement.floatOutstanding)
      (j.askAttempts < 3 → s.part.refusesFrame home = false →
          exec .askTimerExpiry s =
            .next
              { s with
                part :=
                  ({ s.part with
                      job :=
                        { j with
                          askAttempts := j.askAttempts + 1, askDue := some (s.part.now + 400)
                          askFrame := some s.part.line.nextTicket }
                      line :=
                        { s.part.line with
                          outbound :=
                            insertFrame s.part.line.outbound
                              { ticket := s.part.line.nextTicket, dest := home
                                message := .holdAsk j.payer j.number v.holdStep }
                          nextTicket := s.part.line.nextTicket + 1 } } : Part).alert }) ∧
        (3 ≤ j.askAttempts → v.minGrant ≤ grant → s.part.store.queue = [] →
          let floated : Job :=
            { j with
              state := .ready, funding := some .float, limit := some grant, cls := 0, holdId := none, lifetime := none
              askDue := none, askFrame := none, lastActivity := s.part.now }
          exec .askTimerExpiry s =
            .next
              { s with
                part :=
                  ({ s.part with
                      job := floated
                      settlement :=
                        { s.part.settlement with floatOutstanding := s.part.settlement.floatOutstanding + grant }
                      store :=
                        { s.part.store with
                          queue := [{ write := .checkpoint floated.checkpoint, notes := [] }] }
                      panel := s.part.panel.raise .jobState } : Part).alert }) ∧
        (3 ≤ j.askAttempts → grant < v.minGrant →
          exec .askTimerExpiry s =
            .next
              { s with
                part :=
                  ({ s.part with
                      job := {}
                      journal := { s.part.journal with reserved := s.part.journal.reserved - 1 }
                      settlement := { s.part.settlement with reserved := s.part.settlement.reserved - 1 }
                      panel :=
                        { (s.part.panel.raise .jobState).raise .cardReject with reject := some .homeSilent } } : Part).alert })) ∧
    ∀ (s : State) (home due : Nat), s.part.AtRest → due ≤ s.part.now →
      let j := s.part.job
      let hold := j.holdId.getD 0
      (j.home = some home → j.topupOutstanding = true → j.topupDue = some due → j.topupAttempts < 3 →
          s.part.refusesFrame home = false →
          exec .topupTimerExpiry s =
            .next
              { s with
                part :=
                  ({ s.part with
                      job :=
                        { j with
                          topupAttempts := j.topupAttempts + 1, topupDue := some (s.part.now + 400)
                          topupFrame := some s.part.line.nextTicket }
                      line :=
                        { s.part.line with
                          outbound :=
                            insertFrame s.part.line.outbound
                              { ticket := s.part.line.nextTicket, dest := home
                                message := .holdMore hold j.number (min s.part.config.values.holdStep (100000 - j.amount)) }
                          nextTicket := s.part.line.nextTicket + 1 } } : Part).alert }) ∧
        (j.topupOutstanding = true → j.topupDue = some due → 3 ≤ j.topupAttempts → j.state = .running →
          s.part.path.sheets ≠ [] →
          exec .topupTimerExpiry s =
            .next
              { s with
                part :=
                  ({ s.part with
                      job :=
                        { j with
                          topupOutstanding := false, topupAttempts := 0, topupDue := none, topupFrame := none
                          exhausted := some .funds }
                      panel := s.part.panel.raise .funds } : Part).alert }) ∧
        (∀ lifetime, j.lifetime = some lifetime → j.home = some home → j.funding = some .accountRemote →
          j.keepDue = some due → s.part.refusesFrame home = false →
          exec .keepAliveDue s =
            .next
              { s with
                part :=
                  ({ s.part with
                      job := { j with keepDue := some (due + 1000 * max 1 (lifetime / 2)) }
                      line :=
                        { s.part.line with
                          outbound :=
                            insertFrame s.part.line.outbound
                              { ticket := s.part.line.nextTicket, dest := home, message := .holdKeep hold j.number }
                          nextTicket := s.part.line.nextTicket + 1 } } : Part).alert }) ∧
        ∀ c : CancelledAsk, s.part.settlement.cancelled = some c → c.due = some due →
          exec .cancelledAskExpiry s =
            .next
              { s with
                part :=
                  ({ s.part with
                      settlement :=
                        { s.part.settlement with cancelled := none, reserved := s.part.settlement.reserved - 1 } } : Part).alert }

/-- HOLD_GIVE and HOLD_DENY in AUTHORIZE, from the job's home with its number (R24, R33): a grant that is not 0, of a class up to 3,
makes the job READY with the hold, H the amount up to 100,000, the class and the lifetime, the hold kept from half its lifetime on,
and the checkpoint posted; a denial returns the record to IDLE with both reservations released and the frame's reason. An answer
from another station, for another job, or for no open job and no cancelled ask, is ignored.
For a funded account job (R32): a grant for its hold raises H to the amount, ends the top-up and posts the checkpoint, and PERMIT and
the run-out wait are decided again; a denial sets funds exhausted, FUNDS raised. (A RUNNING job still without headroom asks again by
R31.) A FLOAT job in READY adopts a usable grant that covers G and its reserves: ACCOUNT_REMOTE, float outstanding down by the old H
(R27, R82); in any other case, and for a denial, it is left as it is.
For a cancelled ask (R26): a denial ends its record and gives the slot back; a remote grant ends it and posts an entry of charge 0
under its reservation; a local one, told at the write-done of its hold, begins a settlement of charge 0 (R135, R138). (Deductions of the
model: these rows carry the frame's fields, log entry 5; the top-up's attempt count becomes 0, log entry 47; marking a hold sets its
touched time, log entry 13.) -/
def Obligations.HoldAnswersFundOrEndTheJob : Prop :=
  (∀ (s : State) (source holdId job amount cls lifetime reason : Nat), s.part.AtRest →
      let j := s.part.job
      (j.state = .authorize → j.home = some source → j.number = job → j.funding = some .accountRemote → amount ≠ 0 → cls ≤ 3 →
          s.part.store.queue = [] →
          let funded : Job :=
            { j with
              state := .ready, holdId := some holdId, limit := some (min amount 100000), cls := cls, lifetime := some lifetime
              askDue := none, askFrame := none, lastActivity := s.part.now
              keepDue := some (s.part.now + 1000 * max 1 (lifetime / 2)) }
          exec (.holdGive source holdId job amount cls lifetime) s =
            .next
              { s with
                part :=
                  ({ s.part with
                      job := funded
                      store :=
                        { s.part.store with queue := [{ write := .checkpoint funded.checkpoint, notes := [] }] }
                      panel := s.part.panel.raise .jobState } : Part).alert }) ∧
        (j.state = .authorize → j.home = some source → j.number = job →
          exec (.holdDeny source job reason) s =
            .next
              { s with
                part :=
                  ({ s.part with
                      job := {}
                      journal := { s.part.journal with reserved := s.part.journal.reserved - 1 }
                      settlement := { s.part.settlement with reserved := s.part.settlement.reserved - 1 }
                      panel :=
                        { (s.part.panel.raise .jobState).raise .cardReject with
                          reject := some (.denied reason) } } : Part).alert }) ∧
        (j.state = .idle ∨ j.home ≠ some source ∨ j.number ≠ job → s.part.settlement.cancelled = none →
          exec (.holdGive source holdId job amount cls lifetime) s = .next { s with part := s.part.alert } ∧
            exec (.holdDeny source job reason) s = .next { s with part := s.part.alert } ∧
            exec (.holdGone source holdId job) s = .next { s with part := s.part.alert })) ∧
    (∀ (s : State) (source holdId job amount cls lifetime reason : Nat), s.part.AtRest → s.part.job.home = some source →
      s.part.job.number = job →
      let j := s.part.job
      let give := exec (.holdGive source holdId job amount cls lifetime) s
      let deny := exec (.holdDeny source job reason) s
      let becomes := fun (p : Part) => (.next { s with part := p.alert } : Host.Outcome State Fault Refusal)
      let topped : Job := { j with topupOutstanding := false, topupAttempts := 0, topupDue := none, topupFrame := none }
      let granted : Job := { topped with limit := some (max j.amount (min amount 100000)) }
      let ended := fun (exhausted : Option FundsCause) =>
        if j.state = .running ∧ s.part.path.sheets = [] ∧ (j.position = j.positions ∨ exhausted = some .funds) then
          some (j.runOutDue.getD (s.part.now + s.part.config.values.w1))
        else none
      let tops := j.state = .ready ∨ j.state = .running ∨ j.state = .jammed ∨ j.state = .paused ∨ j.state = .draining
      let adopts := j.state = .ready ∧ amount ≠ 0 ∧ cls ≤ 3 ∧ j.acc.gross + j.acc.reserved ≤ 1000 * min amount 100000
      (j.funding = some .accountLocal ∨ j.funding = some .accountRemote → tops →
          (j.holdId = some holdId → (j.state = .running → granted.headroom = true ∨ j.exhausted.isSome = true) →
              s.part.store.queue = [] →
              give =
                becomes
                  { s.part with
                    job := { granted with runOutDue := ended j.exhausted }
                    permit :=
                      decide (j.state = .running) && decide (s.part.config.outcome ≠ .bad) && !s.part.path.jammed &&
                        decide (s.part.path.sheets.length < 6) && decide (j.assigned < j.positions) && granted.headroom
                    store := { s.part.store with queue := [{ write := .checkpoint granted.checkpoint, notes := [] }] } }) ∧
            (j.holdId ≠ some holdId → give = becomes s.part) ∧
            deny =
              becomes
                { s.part with
                  job := { topped with exhausted := some .funds, runOutDue := ended (some .funds) }
                  panel := s.part.panel.raise .funds }) ∧
        (j.funding = some .float → adopts → s.part.store.queue = [] →
          let adopted : Job :=
            { j with
              funding := some .accountRemote, holdId := some holdId, limit := some (min amount 100000), cls := cls
              lifetime := some lifetime, keepDue := some (s.part.now + 1000 * max 1 (lifetime / 2)) }
          give =
            becomes
              { s.part with
                job := adopted
                settlement :=
                  { s.part.settlement with floatOutstanding := s.part.settlement.floatOutstanding - j.amount }
                store := { s.part.store with queue := [{ write := .checkpoint adopted.checkpoint, notes := [] }] } }) ∧
        (j.funding = some .float → tops → (¬adopts → give = becomes s.part) ∧ deny = becomes s.part)) ∧
    (∀ (s : State) (source holdId job amount cls lifetime reason : Nat) (x : CancelledAsk), s.part.AtRest →
      s.part.settlement.cancelled = some x → x.home = source → x.job = job →
      (s.part.job.state = .idle ∨ s.part.job.home ≠ some source ∨ s.part.job.number ≠ job) →
      let freed := { s.part.settlement with cancelled := none, reserved := s.part.settlement.reserved - 1 }
      exec (.holdDeny source job reason) s = .next { s with part := ({ s.part with settlement := freed } : Part).alert } ∧
        ∀ slot, s.part.deferredSlot = some slot → x.due.isSome = true → s.part.store.queue.length < 8 →
          let number := nextEntryNumber s.part.ledger
          exec (.holdGive source holdId job amount cls lifetime) s =
            .next
              { s with
                part :=
                  ({ s.part with
                      settlement := freed
                      store :=
                        { s.part.store with
                          queue :=
                            s.part.store.queue ++
                              [{ write :=
                                  .deferred slot
                                    (some
                                      { number := number, home := source, holdId := holdId, account := x.account
                                        job := job, charge := 0, impressions := 0, attempts := 0 })
                                 notes := [.entryStored number false] }] } } : Part).alert }) ∧
    ∀ (s : State) (slot : Nat) (r : HoldRecord) (x : CancelledAsk), s.part.AtRest →
      s.part.settlement.cancelled = some x → x.due = none → x.home = s.part.config.values.station →
      s.part.store.queue =
        [{ write := .hold slot (some r), notes := [.grant s.part.config.values.station slot r.id x.job] }] →
      (s.part.job.state = .idle ∨ s.part.job.home ≠ some s.part.config.values.station ∨ s.part.job.number ≠ x.job) →
      s.part.settlement.stage = .free → s.part.settlement.requests = [] →
      (∀ f ∈ s.part.line.inbound, f.message.isSettle = false) → r.id ≠ 0 →
      let station := s.part.config.values.station
      let stored := program s.part.store.stored (.hold slot (some r))
      let sequence := stored.applySequence + 1
      ownHold stored station r.id x.job = some (slot, r) → tableGet stored.holds slot = some r →
      (findAccount stored r.account).isSome = true → Rising s.part.accounts.held →
      ∃ t, exec .writeComplete s = .next t ∧
        t =
          { s with
            part :=
              ({ s.part with
                  accounts := { s.part.accounts with held := t.part.accounts.held }
                  settlement :=
                    { s.part.settlement with
                      stage := .recording, sequence := sequence
                      current :=
                        some
                          { source := station, holdId := r.id, account := r.account, job := x.job, charge := 0
                            impressions := 0, requester := .cancelledAsk x.job } }
                  store :=
                    { s.part.store with
                      stored := stored
                      queue :=
                        [{ write := .hold slot (some { r with state := .settling, touched := s.part.now / 1000 }), notes := [] },
                          { write := .counter .applySequence sequence, notes := [] },
                          { write :=
                              .apply
                                (some
                                  { sequence := sequence, holdId := some r.id, station := station, job := x.job
                                    account := r.account, charge := 0, impressions := 0 })
                            notes := [.applyRecorded] }] } } : Part).alert } ∧
        ∀ n, t.part.held n = s.part.held n - (if n = r.account ∧ r.state = .active then r.amount else 0)

/-- HOLD_GONE for the job's hold (R37, R42): funds exhausted with the cause HOLD_LOST, the top-up cleared, FUNDS raised. A READY,
RUNNING or PAUSED job with sheets in the path enters DRAINING; a JAMMED job, whose path list is empty, takes the drain mark; a DRAINING
job goes on. The end reason is HOLD_LOST unless one is set. In AUTHORIZE and SETTLING nothing changes. (A READY, RUNNING or PAUSED job on
an empty path settles: EndedRemoteJobSettles. Deductions of the model: the row carries the frame's fields, log entry 5; the top-up's
attempt count becomes 0, log entry 47.) -/
def Obligations.LostHoldEndsTheJob : Prop :=
  ∀ (s : State) (source holdId : Nat), s.part.AtRest → s.part.job.home = some source →
    s.part.job.holdId = some holdId →
    let j := s.part.job
    let lost : Job :=
      { j with
        topupOutstanding := false, topupAttempts := 0, topupDue := none, topupFrame := none, exhausted := some .holdLost
        endReason := some (j.endReason.getD .holdLost) }
    (j.state = .ready ∨ j.state = .running ∨ j.state = .paused → s.part.path.sheets ≠ [] →
        exec (.holdGone source holdId j.number) s =
          .next
            { s with
              part :=
                ({ s.part with
                    job := { lost with state := .draining, runOutDue := none }
                    permit := false
                    panel := (s.part.panel.raise .funds).raise .jobState } : Part).alert }) ∧
      (j.state = .jammed →
        exec (.holdGone source holdId j.number) s =
          .next
            { s with
              part :=
                ({ s.part with job := { lost with drainMark := true }, panel := s.part.panel.raise .funds } : Part).alert }) ∧
      (j.state = .draining →
        exec (.holdGone source holdId j.number) s =
          .next { s with part := ({ s.part with job := lost, panel := s.part.panel.raise .funds } : Part).alert }) ∧
      (j.state = .authorize ∨ j.state = .settling →
        exec (.holdGone source holdId j.number) s = .next { s with part := s.part.alert })

/-! ### The home station: holds, accounts, settlement -/

/-- HOLD_ASK (R85, R88, R89, R90, R92): the hold table takes its oldest frame. With no record of the same ask it answers HOLD_DENY 1
for an unknown account, 2 for a BLOCKED one, 3 when the grant, the least of the amount wanted, the available amount and 100,000, is
below minGrant; otherwise it takes the next hold id and the lowest free slot, posts both, and counts the grant as held. A repeat of
an ask keeps its record, touched again: with no write of it queued HOLD_GIVE is sent at once, and otherwise at the write-done of
its last post. An ask with job number 0 is discarded. With all 64 slots in use (R91) the LAPSED record of the smallest
touched time, in the lowest slot among equals, is evicted: its LAPSE_DROPPED record is journalled, it is removed, and the new record
takes its slot; with no LAPSED record the answer is HOLD_DENY 4.
A grant is told when its record is stored (R92, R161): the write-done of the hold record sends HOLD_GIVE with the id, the job, the
amount, the account's class and the configured lifetime; a grant to this station's own job makes that job READY at the write-done
(R23, R102). (Deductions of the model: an ask sent to all stations is taken, log entry 44; the order of an eviction's writes, log
entry 11; the repeat's own post does not count among the queued writes, log entry 68.) -/
def Obligations.HoldAsksAreGrantedOrDenied : Prop :=
  (∀ (s : State) (ahead behind : List InFrame) (source dest account job wanted : Nat), s.part.AtRest →
      s.part.line.inbound = ahead ++ { source := source, dest := dest, message := .holdAsk account job wanted } :: behind →
      (∀ f ∈ ahead, f.message.isHoldRequest = false) → source ≠ s.part.config.values.station →
      let taken : Part := { s.part with line := { s.part.line with inbound := ahead ++ behind } }
      let l := s.part.ledger
      let answers := fun (m : Message) => exec .holdAsk s = .next { s with part := (taken.sendFrame source m).alert }
      (job = 0 → exec .holdAsk s = .next { s with part := taken.alert }) ∧
        (job ≠ 0 → repeatOf l source account job = none →
          (findAccount l account = none → answers (.holdDeny job 1)) ∧
            ∀ place a, findAccount l account = some (place, a) →
              let grant := min (min wanted (available a (s.part.held account))) 100000
              (a.blocked = true → answers (.holdDeny job 2)) ∧
                (a.blocked = false → grant < s.part.config.values.minGrant → answers (.holdDeny job 3)) ∧
                ∀ slot, lowestFree l.holds 0 64 = some slot → a.blocked = false → s.part.config.values.minGrant ≤ grant →
                  s.part.store.queue = [] →
                  let id := nextHoldId l.holds 65 l.holdId
                  exec .holdAsk s =
                    .next
                      { s with
                        part :=
                          ({ taken with
                              accounts :=
                                { s.part.accounts with
                                  held := countSet s.part.accounts.held account (s.part.held account + grant) }
                              store :=
                                { s.part.store with
                                  queue :=
                                    [{ write := .counter .holdId id, notes := [] },
                                      { write :=
                                          .hold slot
                                            (some
                                              { id := id, account := account, station := source, job := job, amount := grant
                                                state := .active, touched := s.part.now / 1000 })
                                        notes := [.grant source slot id job] }] } } : Part).alert }) ∧
        (∀ place a, findAccount l account = some (place, a) → job ≠ 0 → repeatOf l source account job = none →
          a.blocked = false → lowestFree l.holds 0 64 = none →
          let grant := min (min wanted (available a (s.part.held account))) 100000
          s.part.config.values.minGrant ≤ grant →
          ((∀ e ∈ l.holds, e.2.state ≠ .lapsed) → answers (.holdDeny job 4)) ∧
            ∀ slot r, tableGet l.holds slot = some r → r.state = .lapsed → slot < 64 →
              (∀ e ∈ l.holds, e.2.state = .lapsed →
                r.touched < e.2.touched ∨ (r.touched = e.2.touched ∧ slot ≤ e.1)) →
              s.part.Canonical → Rising s.part.accounts.held → 17 < s.part.freeSlots → s.part.store.queue = [] →
              let sequence := l.journalSequence + 1
              let id := nextHoldId (tableErase l.holds slot) 65 l.holdId
              ∃ t, exec .holdAsk s = .next t ∧
                t =
                  { s with
                    part :=
                      ({ taken with
                          accounts := { s.part.accounts with held := t.part.accounts.held }
                          store :=
                            { s.part.store with
                              queue :=
                                [{ write := .counter .journalSequence sequence, notes := [] },
                                  { write :=
                                      .journal (sequence % 256)
                                        { sequence := sequence
                                          body := .lapseDropped r.station r.job r.id r.account r.amount .evicted }
                                    notes := [] },
                                  { write := .hold slot none, notes := [] },
                                  { write := .counter .holdId id, notes := [] },
                                  { write :=
                                      .hold slot
                                        (some
                                          { id := id, account := account, station := source, job := job, amount := grant
                                            state := .active, touched := s.part.now / 1000 })
                                    notes := [.grant source slot id job] }] } } : Part).alert } ∧
                ∀ n, t.part.held n = s.part.held n + (if n = account then grant else 0)) ∧
        ∀ slot r, repeatOf l source account job = some (slot, r) → job ≠ 0 → tableGet l.holds slot = some r →
          s.part.store.queue.length < 8 →
          let becomes := fun (q : Part) (notes : List Note) =>
            ∃ t, exec .holdAsk s = .next t ∧
              t =
                { s with
                  part :=
                    ({ q with
                        accounts := { s.part.accounts with held := t.part.accounts.held }
                        store :=
                          { s.part.store with
                            queue :=
                              s.part.store.queue ++
                                [{ write := .hold slot (some { r with touched := s.part.now / 1000 }), notes := notes }] } } :
                      Part).alert } ∧
              (r.amount ≤ s.part.held r.account → Rising s.part.accounts.held → ∀ n, t.part.held n = s.part.held n)
          let cls :=
            match findAccount l r.account with
            | none => 0
            | some (_, a) => a.cls
          ((∀ post ∈ s.part.store.queue, post.write.name ≠ .hold slot) →
              becomes (taken.sendFrame source (.holdGive r.id job r.amount cls s.part.config.values.lifetime)) []) ∧
            ((s.part.store.queue.any (fun post => decide (post.write.name = .hold slot))) = true →
              becomes taken [.grant source slot r.id job])) ∧
    ∀ (s : State) (source slot job : Nat) (r : HoldRecord), s.part.AtRest →
      s.part.store.queue = [{ write := .hold slot (some r), notes := [.grant source slot r.id job] }] →
      let stored := program s.part.store.stored (.hold slot (some r))
      let cls :=
        match findAccount stored r.account with
        | none => 0
        | some (_, a) => a.cls
      (source ≠ s.part.config.values.station →
          exec .writeComplete s =
            .next
              { s with
                part :=
                  ((({ s.part with store := { s.part.store with stored := stored, queue := [] } } : Part).sendFrame source
                      (.holdGive r.id job r.amount cls s.part.config.values.lifetime))).alert }) ∧
        (source = s.part.config.values.station → s.part.job.state = .authorize → s.part.job.home = some source →
          s.part.job.number = job → s.part.job.funding = some .accountLocal → r.amount ≠ 0 → cls ≤ 3 →
          let lifetime := s.part.config.values.lifetime
          let funded : Job :=
            { s.part.job with
              state := .ready, holdId := some r.id, limit := some (min r.amount 100000), cls := cls
              lifetime := some lifetime, askDue := none, askFrame := none, lastActivity := s.part.now
              keepDue := some (s.part.now + 1000 * max 1 (lifetime / 2)) }
          exec .writeComplete s =
            .next
              { s with
                part :=
                  ({ s.part with
                      job := funded
                      store :=
                        { s.part.store with
                          stored := stored, queue := [{ write := .checkpoint funded.checkpoint, notes := [] }] }
                      panel := s.part.panel.raise .jobState } : Part).alert })

/-- HOLD_MORE, HOLD_KEEP and the sweep (R93 to R98): a request that belongs to no record of the station and job is answered
HOLD_GONE; an ACTIVE record is enlarged by the least of the increment, the available amount and what is left to 100,000, or denied
when its account is BLOCKED or the grant is below minGrant; a LAPSED one is restored first when the account covers its amount and the
increment, and is otherwise answered HOLD_GONE, as a SETTLING one is. A keep touches an ACTIVE record and has no answer; it
restores a LAPSED record whole when the account covers it, and is answered HOLD_GONE otherwise and for a SETTLING one. The sweep visits
one slot every 250 ms; an ACTIVE record not touched for a lifetime becomes LAPSED, and anything younger stays. A
LAPSED record not touched for the grace time is dropped, its LAPSE_DROPPED record journalled first (R99, R171); a younger one stays, and
a SETTLING one is passed (R97). (Deductions of the model: a
restore with its grant is one post, log entry 13; when the next visit is due after a late one, log entry 27; a request sent to all
stations is taken, log entry 44. That a visit before its due time changes nothing is the model's choice: log entry 6.) -/
def Obligations.HoldsAreEnlargedKeptAndSwept : Prop :=
  (∀ (s : State) (ahead behind : List InFrame) (source dest holdId job increment : Nat), s.part.AtRest →
      s.part.line.inbound = ahead ++ { source := source, dest := dest, message := .holdMore holdId job increment } :: behind →
      (∀ f ∈ ahead, f.message.isHoldRequest = false) → source ≠ s.part.config.values.station → job ≠ 0 →
      let taken : Part := { s.part with line := { s.part.line with inbound := ahead ++ behind } }
      let answers := fun (m : Message) => exec .holdMore s = .next { s with part := (taken.sendFrame source m).alert }
      (ownHold s.part.ledger source holdId job = none → answers (.holdGone holdId job)) ∧
        ∀ slot r, ownHold s.part.ledger source holdId job = some (slot, r) → r.state = .active →
          let grant := min (min increment (s.part.availableOf r.account)) (100000 - r.amount)
          (s.part.isBlocked r.account = true → answers (.holdDeny r.job 2)) ∧
            (s.part.isBlocked r.account = false → grant < s.part.config.values.minGrant → answers (.holdDeny r.job 3)) ∧
            (s.part.isBlocked r.account = false → s.part.config.values.minGrant ≤ grant → s.part.store.queue = [] →
              ∃ t, exec .holdMore s = .next t ∧
                t =
                  { s with
                    part :=
                      ({ taken with
                          accounts := { s.part.accounts with held := t.part.accounts.held }
                          store :=
                            { s.part.store with
                              queue :=
                                [{ write :=
                                    .hold slot (some { r with amount := r.amount + grant, touched := s.part.now / 1000 })
                                   notes := [.grant source slot r.id r.job] }] } } : Part).alert } ∧
                (tableGet s.part.ledger.holds slot = some r → r.amount ≤ s.part.held r.account →
                  Rising s.part.accounts.held →
                  ∀ n, t.part.held n = s.part.held n + (if n = r.account then grant else 0)))) ∧
    (∀ (s : State) (ahead behind : List InFrame) (source dest holdId job increment : Nat), s.part.AtRest →
      s.part.line.inbound = ahead ++ { source := source, dest := dest, message := .holdMore holdId job increment } :: behind →
      (∀ f ∈ ahead, f.message.isHoldRequest = false) → source ≠ s.part.config.values.station →
      let taken : Part := { s.part with line := { s.part.line with inbound := ahead ++ behind } }
      let answers := fun (m : Message) => exec .holdMore s = .next { s with part := (taken.sendFrame source m).alert }
      (job = 0 → exec .holdMore s = .next { s with part := taken.alert }) ∧
        ∀ slot r, ownHold s.part.ledger source holdId job = some (slot, r) → job ≠ 0 →
          let spare := s.part.availableOf r.account
          let grant := min (min increment (spare - r.amount)) (100000 - r.amount)
          let becomes := fun (q : Part) (amount : Nat) (notes : List Note) =>
            ∃ t, exec .holdMore s = .next t ∧
              t =
                { s with
                  part :=
                    ({ q with
                        accounts := { s.part.accounts with held := t.part.accounts.held }
                        store :=
                          { s.part.store with
                            queue :=
                              [{ write :=
                                  .hold slot
                                    (some { r with state := .active, amount := amount, touched := s.part.now / 1000 })
                                 notes := notes }] } } : Part).alert } ∧
              (tableGet s.part.ledger.holds slot = some r → Rising s.part.accounts.held →
                ∀ n, t.part.held n = s.part.held n + (if n = r.account then amount else 0))
          (r.state = .settling → answers (.holdGone holdId job)) ∧
            (r.state = .lapsed → spare < r.amount + increment → answers (.holdGone holdId job)) ∧
            (r.state = .lapsed → r.amount + increment ≤ spare → s.part.store.queue = [] →
              (s.part.isBlocked r.account = true → becomes (taken.sendFrame source (.holdDeny r.job 2)) r.amount []) ∧
                (s.part.isBlocked r.account = false → grant < s.part.config.values.minGrant →
                  becomes (taken.sendFrame source (.holdDeny r.job 3)) r.amount []) ∧
                (s.part.isBlocked r.account = false → s.part.config.values.minGrant ≤ grant →
                  becomes taken (r.amount + grant) [.grant source slot r.id r.job]))) ∧
    (∀ (s : State) (ahead behind : List InFrame) (source dest holdId job : Nat), s.part.AtRest →
      s.part.line.inbound = ahead ++ { source := source, dest := dest, message := .holdKeep holdId job } :: behind →
      (∀ f ∈ ahead, f.message.isHoldRequest = false) → source ≠ s.part.config.values.station → job ≠ 0 →
      let taken : Part := { s.part with line := { s.part.line with inbound := ahead ++ behind } }
      (ownHold s.part.ledger source holdId job = none →
          exec .holdKeep s = .next { s with part := (taken.sendFrame source (.holdGone holdId job)).alert }) ∧
        ∀ slot r, ownHold s.part.ledger source holdId job = some (slot, r) → r.state = .active →
          s.part.store.queue = [] →
          ∃ t, exec .holdKeep s = .next t ∧
            t =
              { s with
                part :=
                  ({ taken with
                      accounts := { s.part.accounts with held := t.part.accounts.held }
                      store :=
                        { s.part.store with
                          queue :=
                            [{ write := .hold slot (some { r with touched := s.part.now / 1000 }), notes := [] }] } } :
                    Part).alert } ∧
            (tableGet s.part.ledger.holds slot = some r → r.amount ≤ s.part.held r.account →
              Rising s.part.accounts.held → ∀ n, t.part.held n = s.part.held n)) ∧
    (∀ (s : State) (ahead behind : List InFrame) (source dest holdId job : Nat), s.part.AtRest →
      s.part.line.inbound = ahead ++ { source := source, dest := dest, message := .holdKeep holdId job } :: behind →
      (∀ f ∈ ahead, f.message.isHoldRequest = false) → source ≠ s.part.config.values.station →
      let taken : Part := { s.part with line := { s.part.line with inbound := ahead ++ behind } }
      let gone := exec .holdKeep s = .next { s with part := (taken.sendFrame source (.holdGone holdId job)).alert }
      (job = 0 → exec .holdKeep s = .next { s with part := taken.alert }) ∧
        ∀ slot r, ownHold s.part.ledger source holdId job = some (slot, r) → job ≠ 0 →
          (r.state = .settling → gone) ∧ (r.state = .lapsed → s.part.availableOf r.account < r.amount → gone) ∧
            (r.state = .lapsed → r.amount ≤ s.part.availableOf r.account → s.part.store.queue = [] →
              ∃ t, exec .holdKeep s = .next t ∧
                t =
                  { s with
                    part :=
                      ({ taken with
                          accounts := { s.part.accounts with held := t.part.accounts.held }
                          store :=
                            { s.part.store with
                              queue :=
                                [{ write := .hold slot (some { r with state := .active, touched := s.part.now / 1000 })
                                   notes := [] }] } } : Part).alert } ∧
                (tableGet s.part.ledger.holds slot = some r → Rising s.part.accounts.held →
                  ∀ n, t.part.held n = s.part.held n + (if n = r.account then r.amount else 0)))) ∧
    (∀ (s : State) (due : Nat), s.part.AtRest → s.part.holds.due = some due →
      let slot := s.part.holds.pointer
      let visited : Part :=
        { s.part with
          holds :=
            { pointer := (slot + 1) % 64
              due := some (if s.part.now < due + 250 then due + 250 else s.part.now + 250) } }
      (s.part.now < due → exec .sweepVisit s = .next { s with part := s.part.alert }) ∧
        (due ≤ s.part.now → tableGet s.part.ledger.holds slot = none →
          exec .sweepVisit s = .next { s with part := visited.alert }) ∧
        ∀ r, tableGet s.part.ledger.holds slot = some r → due ≤ s.part.now → r.state = .active →
          (s.part.now / 1000 - r.touched < s.part.config.values.lifetime →
              exec .sweepVisit s = .next { s with part := visited.alert }) ∧
            (s.part.config.values.lifetime ≤ s.part.now / 1000 - r.touched → s.part.store.queue = [] →
              ∃ t, exec .sweepVisit s = .next t ∧
                t =
                  { s with
                    part :=
                      ({ visited with
                          accounts := { s.part.accounts with held := t.part.accounts.held }
                          store :=
                            { s.part.store with
                              queue :=
                                [{ write := .hold slot (some { r with state := .lapsed, touched := s.part.now / 1000 })
                                   notes := [] }] } } : Part).alert } ∧
                (Rising s.part.accounts.held →
                  ∀ n, t.part.held n = s.part.held n - (if n = r.account then r.amount else 0)))) ∧
    ∀ (s : State) (due : Nat) (r : HoldRecord), s.part.AtRest → s.part.holds.due = some due → due ≤ s.part.now →
      tableGet s.part.ledger.holds s.part.holds.pointer = some r →
      let slot := s.part.holds.pointer
      let visited : Part :=
        { s.part with
          holds :=
            { pointer := (slot + 1) % 64
              due := some (if s.part.now < due + 250 then due + 250 else s.part.now + 250) } }
      (r.state = .settling → exec .sweepVisit s = .next { s with part := visited.alert }) ∧
        (r.state = .lapsed → s.part.now / 1000 - r.touched < 3600 * s.part.config.values.grace →
          exec .sweepVisit s = .next { s with part := visited.alert }) ∧
        (r.state = .lapsed → 3600 * s.part.config.values.grace ≤ s.part.now / 1000 - r.touched → s.part.store.queue = [] →
          17 < s.part.freeSlots →
          let sequence := s.part.ledger.journalSequence + 1
          ∃ t, exec .sweepVisit s = .next t ∧
            t =
              { s with
                part :=
                  ({ visited with
                      accounts := { s.part.accounts with held := t.part.accounts.held }
                      store :=
                        { s.part.store with
                          queue :=
                            [{ write := .counter .journalSequence sequence, notes := [] },
                              { write :=
                                  .journal (sequence % 256)
                                    { sequence := sequence
                                      body := .lapseDropped r.station r.job r.id r.account r.amount .sweep }
                                notes := [] },
                              { write := .hold slot none, notes := [] }] } } : Part).alert } ∧
            (Rising s.part.accounts.held → ∀ n, t.part.held n = s.part.held n))

/-- ACCT_PUT (R109, R110, R111): it creates a record in the first slot of its run that holds none, changes one of the same kind,
vacates the slot of one that no hold names, or answers RANGE, UNKNOWN_ACCOUNT, IN_USE, WRONG_KIND or TABLE_FULL. A frame sent to all
stations is discarded. The value is the frame's 32 bits (section 12.1): every step keeps every frame of the inbound queue within the
widths of its fields. A vacating post that waits is made when a place frees (R164), unless a hold has come to name the account: then
the answer is IN_USE (R101). (That the question is asked again at the post is a deduction of the model, log entry 61.) -/
def Obligations.AcctPutKeepsTheAccounts : Prop :=
  (∀ (s : State) (ahead behind : List InFrame) (source dest account kind cls state value : Nat), s.part.AtRest →
        value < 4294967296 →
        s.part.line.inbound =
          ahead ++ { source := source, dest := dest, message := .acctPut account kind cls state value } :: behind →
        (∀ f ∈ ahead, f.message.isAccountFrame = false) →
        let taken : Part := { s.part with line := { s.part.line with inbound := ahead ++ behind } }
        let l := s.part.ledger
        let outOfRange := account = 0 ∨ 1 < kind ∨ 3 < cls ∨ 2 < state ∨ (kind = 0 ∧ 10000000 < value)
        let credit : Credit :=
          if kind = 0 then .charge value
          else .prepaid (if value < 2147483648 then (value : Int) else (value : Int) - 4294967296)
        let answers := fun (result available spent : Nat) =>
          exec .acctPut s =
            .next { s with part := (taken.sendFrame source (.acctAnswer account result available spent)).alert }
        (dest = 0 → exec .acctPut s = .next { s with part := taken.alert }) ∧
          (dest ≠ 0 → outOfRange → answers 7 0 0) ∧
          (dest ≠ 0 → ¬outOfRange → findAccount l account = none → state = 2 → answers 4 0 0) ∧
          (dest ≠ 0 → ¬outOfRange → findAccount l account = none → state ≠ 2 → insertionSlot l account = none →
            answers 8 0 0) ∧
          (∀ slot, insertionSlot l account = some slot → dest ≠ 0 → ¬outOfRange → findAccount l account = none → state ≠ 2 →
            s.part.store.queue = [] →
            exec .acctPut s =
              .next
                { s with
                  part :=
                    ({ taken with
                        store :=
                          { s.part.store with
                            queue :=
                              [{ write :=
                                  .account slot
                                    (.used
                                      { number := account, credit := credit, cls := cls, blocked := decide (state = 1)
                                        spent := 0, lastSpent := 0, impressions := 0, overdrawn := false
                                        closedPeriod := l.period.current, lastApply := 0 })
                                 notes := [.answer source account .created] }] } } : Part).alert }) ∧
          (∀ slot a, findAccount l account = some (slot, a) → dest ≠ 0 → ¬outOfRange → state ≠ 2 →
            a.credit.isKind kind = false →
            answers 5 (available a (s.part.held account)) a.spent) ∧
          (∀ slot a, findAccount l account = some (slot, a) → dest ≠ 0 → ¬outOfRange → state = 2 →
            let named := l.holds.any (fun e => decide (e.2.account = account))
            (named = true → answers 6 (available a (s.part.held account)) a.spent) ∧
              (named = false → s.part.store.queue = [] →
                exec .acctPut s =
                  .next
                    { s with
                      part :=
                        ({ taken with
                            store :=
                              { s.part.store with
                                queue :=
                                  [{ write := .account slot .vacated, notes := [.answer source account .ok] }] } } :
                          Part).alert })) ∧
          ∀ slot a, findAccount l account = some (slot, a) → dest ≠ 0 → ¬outOfRange → state ≠ 2 → a.credit.isKind kind = true →
            s.part.store.queue = [] →
            exec .acctPut s =
              .next
                { s with
                  part :=
                    ({ taken with
                        store :=
                          { s.part.store with
                            queue :=
                              [{ write :=
                                  .account slot
                                    (.used
                                      { a with
                                        credit := credit, cls := cls, blocked := decide (state = 1)
                                        overdrawn := if kind = 1 ∧ value < 2147483648 then false else a.overdrawn })
                                 notes := [.answer source account .ok] }] } } : Part).alert }) ∧
    (∀ s t : State, (∀ f ∈ s.part.line.inbound, f.message.inWidth = true) → step s = .next t →
      ∀ f ∈ t.part.line.inbound, f.message.inWidth = true) ∧
    ∀ (s : State) (post : Post) (rest : List Post) (slot account source since : Nat),
      s.part.store.work = [{ owner := .account, tasks := [.vacate slot account source], begun := true, since := some since }] →
      ({ s.part with store := { s.part.store with work := [] } } : Part).AtRest → s.part.store.queue = post :: rest →
      rest.length = 7 → post.notes = [] → (∀ x ∈ rest, x.write.name ≠ .account slot) →
      let stored : Part :=
        { s.part with
          store := { s.part.store with stored := program s.part.store.stored post.write, queue := rest, work := [] } }
      let named := s.part.ledger.holds.any (fun e => decide (e.2.account = account))
      (named = false →
          exec .writeComplete s =
            .next
              { s with
                part :=
                  ({ stored with
                      store :=
                        { stored.store with
                          queue := rest ++ [{ write := .account slot .vacated, notes := [.answer source account .ok] }] } } :
                    Part).alert }) ∧
        ∀ place a, named = true → findAccount s.part.ledger account = some (place, a) →
          exec .writeComplete s =
            .next
              { s with
                part :=
                  (stored.sendFrame source
                    (.acctAnswer account 6 (available a (s.part.held account)) a.spent)).alert }

/-- ACCT_TOPUP adds to a PREPAID balance, up to 2,147,483,647, and clears overdrawn when the balance is then 0 or more; an amount that
is not 1 to 2,147,483,647 gives RANGE, an account not found UNKNOWN_ACCOUNT, a CHARGE account WRONG_KIND (R112). ACCT_QUERY is
answered at once with the record as it stands, OVERDRAWN or OK, what is available and what is spent in the period, or
UNKNOWN_ACCOUNT with both 0, and changes nothing (R113).
An account write that an ACCT_PUT or ACCT_TOPUP posted is answered at its write-done (R110, R161): ACCT_ANSWER CREATED or OK to the sender,
with what is then available and spent, both 0 when the account is no longer in the table. -/
def Obligations.TopupsAndQueriesAreAnswered : Prop :=
  (∀ (s : State) (ahead behind : List InFrame) (source dest account amount : Nat), s.part.AtRest →
      s.part.line.inbound = ahead ++ { source := source, dest := dest, message := .acctTopup account amount } :: behind →
      (∀ f ∈ ahead, f.message.isAccountFrame = false) → dest ≠ 0 →
      let taken : Part := { s.part with line := { s.part.line with inbound := ahead ++ behind } }
      let answers := fun (result available spent : Nat) =>
        exec .acctTopup s =
          .next { s with part := (taken.sendFrame source (.acctAnswer account result available spent)).alert }
      let sum := findAccount s.part.ledger account
      (amount = 0 ∨ 2147483647 < amount → answers 7 0 0) ∧
        (0 < amount → amount ≤ 2147483647 → sum = none → answers 4 0 0) ∧
        ∀ slot a, sum = some (slot, a) → 0 < amount → amount ≤ 2147483647 →
          (a.credit.isKind 0 = true → answers 5 (available a (s.part.held account)) a.spent) ∧
            ∀ balance : Int, a.credit = .prepaid balance → s.part.store.queue = [] →
              let paid := min (balance + (amount : Int)) 2147483647
              exec .acctTopup s =
                .next
                  { s with
                    part :=
                      ({ taken with
                          store :=
                            { s.part.store with
                              queue :=
                                [{ write :=
                                    .account slot
                                      (.used
                                        { a with
                                          credit := .prepaid paid
                                          overdrawn := if 0 ≤ paid then false else a.overdrawn })
                                   notes := [.answer source account .ok] }] } } : Part).alert }) ∧
    (∀ (s : State) (ahead behind : List InFrame) (source dest account : Nat), s.part.AtRest →
      s.part.line.inbound = ahead ++ { source := source, dest := dest, message := .acctQuery account } :: behind →
      (∀ f ∈ ahead, f.message.isAccountFrame = false) → dest ≠ 0 →
      let taken : Part := { s.part with line := { s.part.line with inbound := ahead ++ behind } }
      exec .acctQuery s =
        .next
          { s with
            part :=
              (taken.sendFrame source
                  (match findAccount s.part.ledger account with
                  | none => .acctAnswer account 4 0 0
                  | some (_, a) =>
                    .acctAnswer account (if a.overdrawn then 3 else 2) (available a (s.part.held account)) a.spent)).alert }) ∧
    ∀ (s : State) (dest account slot : Nat) (value : AccountSlot) (result : AccountResult), s.part.AtRest →
      s.part.store.queue = [{ write := .account slot value, notes := [.answer dest account result] }] →
      (result = .created ∨ result = .ok) →
      let stored := program s.part.store.stored (.account slot value)
      exec .writeComplete s =
        .next
          { s with
            part :=
              ((({ s.part with store := { s.part.store with stored := stored, queue := [] } } : Part).sendFrame dest
                  (match findAccount stored account with
                  | none => .acctAnswer account (if result = .created then 1 else 2) 0 0
                  | some (_, a) =>
                    .acctAnswer account (if result = .created then 1 else 2) (available a (s.part.held account)) a.spent))).alert }

/-- PERIOD_CLOSE and ANNOUNCE (R116, R117, R119, R120): a number not above the current period changes nothing; with a walk in progress
the greatest number waits; a greater one with no walk in progress posts the period record with the walk flag, and the walk visits the
slots 0 to 511 in order. It passes the empty and the vacated slots and the records closed for the number already, carries the others
into the new period (the spent amount becomes the last period's, the counts start at 0, a CHARGE record's overdrawn is cleared), and
pauses with four of its slot writes queued. With nothing to carry it ends at once, the period record posted with the flag clear.
At the write-done of one of its slot writes the walk goes on from the pointer, until four are queued again or every slot is visited; when
the last of its writes is stored and none is left to carry, the period record is posted with the flag clear (R117, R161). Each record is
carried once: its own period is then the current one, and the pointer has passed its slot. -/
def Obligations.PeriodClosesWalkTheTable : Prop :=
  (∀ (s : State) (c : Instr) (m : Message) (ahead behind : List InFrame) (source dest number : Nat), s.part.AtRest →
      (c = .periodClose ∧ m = .periodClose number ∨ c = .announce ∧ m = .announce number) →
      s.part.line.inbound = ahead ++ { source := source, dest := dest, message := m } :: behind →
      (∀ f ∈ ahead, f.message.isAccountFrame = false) →
      let taken : Part := { s.part with line := { s.part.line with inbound := ahead ++ behind } }
      let period := s.part.ledger.period
      (number ≤ period.current → exec c s = .next { s with part := taken.alert }) ∧
        (period.current < number → period.walking = true →
          exec c s =
            .next
              { s with
                part :=
                  ({ taken with
                      accounts :=
                        { s.part.accounts with
                          pendingClose := some (max number (s.part.accounts.pendingClose.getD 0)) } } : Part).alert }) ∧
        (period.current < number → period.walking = false → s.part.store.queue = [] → s.part.accounts.queued = 0 →
          s.part.accounts.pendingClose = none → s.part.Canonical →
          let due := s.part.ledger.accounts.filter (walkCarries 0 number)
          let first := due.take 4
          exec c s =
            .next
              { s with
                part :=
                  ({ taken with
                      accounts :=
                        { s.part.accounts with
                          pointer :=
                            if due.length < 4 then 512
                            else
                              match first.getLast? with
                              | none => 512
                              | some e => e.1 + 1
                          queued := first.length }
                      store :=
                        { s.part.store with
                          queue :=
                            { write := .period { current := number, walking := true }, notes := [] } ::
                              (walkPosts number first ++
                                if due = [] then
                                  [{ write := .period { current := number, walking := false }, notes := [] }]
                                else []) } } : Part).alert })) ∧
    ∀ (s : State) (slot : Nat) (value : AccountSlot) (rest : List Post), s.part.AtRest →
      s.part.store.queue = { write := .account slot value, notes := [.walk] } :: rest →
      s.part.ledger.period.walking = true → s.part.accounts.pendingClose = none → 1 ≤ s.part.accounts.queued →
      s.part.accounts.queued ≤ 4 → Rising s.part.ledger.accounts →
      let number := s.part.ledger.period.current
      let due := s.part.ledger.accounts.filter (walkCarries s.part.accounts.pointer number)
      let next := due.take (5 - s.part.accounts.queued)
      rest.length + next.length < 8 →
      (∀ post ∈ rest, post.write.name ≠ .period ∧ ∀ e ∈ due, post.write.name ≠ .account e.1) →
      exec .writeComplete s =
        .next
          { s with
            part :=
              ({ s.part with
                  accounts :=
                    { s.part.accounts with
                      pointer :=
                        if due.length < 5 - s.part.accounts.queued then 512
                        else
                          match next.getLast? with
                          | none => 512
                          | some e => e.1 + 1
                      queued := s.part.accounts.queued - 1 + next.length }
                  store :=
                    { s.part.store with
                      stored := program s.part.store.stored (.account slot value)
                      queue :=
                        rest ++ walkPosts number next ++
                          if due = [] ∧ s.part.accounts.queued = 1 then
                            [{ write := .period { current := number, walking := false }, notes := [] }]
                          else [] } } : Part).alert }

/-- SETTLE with the apply procedure FREE (R130, R132, R133, R135): one with job number 0, a charge above 100,000 or no single
destination is discarded; one that belongs to no hold of the sender, or that is not newer than the sender's float mark, is answered
SETTLE_ACK DUPLICATE; a new float settlement of a known account takes the next apply sequence and posts the sequence and the apply
record. One that names a hold of the sender, in any state, whose account is known marks it SETTLING first, and an ACTIVE hold's amount
leaves the held amount (R100, R133, R135). With the account not in the table it is an orphan (R134, R171): the hold is marked and removed,
or the mark rises to the job number, an ORPHAN record is journalled, and the procedure is CLOSING. (Deductions of the model:
marking sets the touched time, log entry 13; the ORPHAN record of a hold names the hold record's account, log entry 67.) -/
def Obligations.SettleIsDiscardedDuplicateOrApplied : Prop :=
  ∀ (s : State) (ahead behind : List InFrame) (source dest holdId account job charge impressions : Nat), s.part.AtRest →
    s.part.settlement.stage = .free → s.part.settlement.requests = [] →
    s.part.line.inbound =
      ahead ++ { source := source, dest := dest, message := .settle holdId account job charge impressions } :: behind →
    (∀ f ∈ ahead, f.message.isSettle = false) →
    let taken : Part := { s.part with line := { s.part.line with inbound := ahead ++ behind } }
    let l := s.part.ledger
    let mark := countGet l.marks source
    let ahead' := (job + 65535 - mark) % 65535
    let newer := mark = 0 ∨ (1 ≤ ahead' ∧ ahead' ≤ 32767)
    let sequence := l.applySequence + 1
    let record := l.journalSequence + 1
    let orphanPosts := fun (hold of : Nat) =>
      ([{ write := .counter .journalSequence record, notes := [] },
        { write := .journal (record % 256) { sequence := record, body := .orphan source job hold of charge impressions }
          notes := [] }] : List Post)
    (dest = 0 ∨ job = 0 ∨ 100000 < charge → exec .settle s = .next { s with part := taken.alert }) ∧
      (dest ≠ 0 → job ≠ 0 → charge ≤ 100000 →
        ((holdId ≠ 0 ∧ ownHold l source holdId job = none) ∨ (holdId = 0 ∧ ¬newer) →
            exec .settle s = .next { s with part := (taken.sendFrame source (.settleAck holdId job 2)).alert }) ∧
          (holdId = 0 → newer → (findAccount l account).isSome = true → s.part.store.queue = [] →
            exec .settle s =
              .next
                { s with
                  part :=
                    ({ taken with
                        settlement :=
                          { s.part.settlement with
                            stage := .recording, sequence := sequence
                            current :=
                              some
                                { source := source, holdId := 0, account := account, job := job, charge := charge
                                  impressions := impressions, requester := .remote } }
                        store :=
                          { s.part.store with
                            queue :=
                              [{ write := .counter .applySequence sequence, notes := [] },
                                { write :=
                                    .apply
                                      (some
                                        { sequence := sequence, holdId := none, station := source, job := job
                                          account := account, charge := charge, impressions := impressions })
                                  notes := [.applyRecorded] }] } } : Part).alert }) ∧
          (holdId = 0 → newer → findAccount l account = none → s.part.store.queue = [] → 17 < s.part.freeSlots →
            exec .settle s =
              .next
                { s with
                  part :=
                    ({ taken with
                        settlement :=
                          { s.part.settlement with
                            stage := .closing
                            current :=
                              some
                                { source := source, holdId := 0, account := account, job := job, charge := charge
                                  impressions := impressions, requester := .remote } }
                        store :=
                          { s.part.store with
                            queue :=
                              { write := .mark source job, notes := [.applyClosed .orphan] } ::
                                orphanPosts 0 account } } : Part).alert }) ∧
          ∀ slot r, ownHold l source holdId job = some (slot, r) → holdId ≠ 0 → tableGet l.holds slot = some r →
            Rising s.part.accounts.held → s.part.store.queue = [] →
            let x : Settlement :=
              { source := source, holdId := holdId, account := r.account, job := job, charge := charge
                impressions := impressions, requester := .remote }
            let marked : Post :=
              { write := .hold slot (some { r with state := .settling, touched := s.part.now / 1000 }), notes := [] }
            ((findAccount l r.account).isSome = true →
                ∃ t, exec .settle s = .next t ∧
                  t =
                    { s with
                      part :=
                        ({ taken with
                            accounts := { s.part.accounts with held := t.part.accounts.held }
                            settlement :=
                              { s.part.settlement with stage := .recording, sequence := sequence, current := some x }
                            store :=
                              { s.part.store with
                                queue :=
                                  [marked, { write := .counter .applySequence sequence, notes := [] },
                                    { write :=
                                        .apply
                                          (some
                                            { sequence := sequence, holdId := some holdId, station := source, job := job
                                              account := r.account, charge := charge, impressions := impressions })
                                      notes := [.applyRecorded] }] } } : Part).alert } ∧
                  ∀ n, t.part.held n = s.part.held n - (if n = r.account ∧ r.state = .active then r.amount else 0)) ∧
              (findAccount l r.account = none → 17 < s.part.freeSlots → s.part.Canonical →
                ∃ t, exec .settle s = .next t ∧
                  t =
                    { s with
                      part :=
                        ({ taken with
                            accounts := { s.part.accounts with held := t.part.accounts.held }
                            settlement := { s.part.settlement with stage := .closing, current := some x }
                            store :=
                              { s.part.store with
                                queue :=
                                  [marked, { write := .hold slot none, notes := [.applyClosed .orphan] }] ++
                                    orphanPosts holdId r.account } } : Part).alert } ∧
                  ∀ n, t.part.held n = s.part.held n - (if n = r.account ∧ r.state = .active then r.amount else 0)))

/-- The stages of an apply follow its write-dones (R114, R115, R135). The apply record stored, the account is debited, overdrawn when
the charge is above what is available; the debit coalesces into a next post of the account's slot (R161, R162). The debit stored,
the float mark rises, or the hold is removed (R100), and the apply record is cleared. The last write stored, the procedure is FREE
and gives its result: SETTLE_ACK with the hold id, the job and APPLIED, or ORPHAN after an orphan's last write (R134), to another
station; and to this station's own job (R123, R138, R180) its JOB record, PAID when APPLIED, DROPPED when DUPLICATE and ORPHAN when
an orphan, and its TALLY, the checkpoint is cleared and the job returns to IDLE; for a local cancelled ask its record ends and its
slot is given back (R26).
The settlement of such a job begins at its end (R43, R123, R132, R138): END of an ACCOUNT_LOCAL job on an empty path fixes F,
releases the deferred reservation, marks its hold SETTLING and posts the apply record under the next apply sequence. (Marking sets
the touched time: log entry 13; the top-up's attempt count becomes 0: log entry 47; the TALLY has no end reason: log entry 49.) -/
def Obligations.ApplyFollowsItsWriteDones : Prop :=
  (∀ (s : State) (x : Settlement), s.part.AtRest → s.part.settlement.current = some x → s.part.settlement.requests = [] →
      (∀ record slot a waiting, s.part.store.queue = { write := .apply record, notes := [.applyRecorded] } :: waiting →
          waiting = [] ∨ (∃ value notes, waiting = [{ write := .account slot value, notes := notes }]) →
          findAccount s.part.ledger x.account = some (slot, a) →
          let held := s.part.held x.account
          exec .writeComplete s =
            .next
              { s with
                part :=
                  ({ s.part with
                      settlement := { s.part.settlement with stage := .debiting }
                      store :=
                        { s.part.store with
                          stored := { s.part.store.stored with apply := record }
                          queue :=
                            [{ write :=
                                .account slot
                                  (.used
                                    { a with
                                      overdrawn := a.overdrawn || decide (available a held < x.charge)
                                      spent := min 4294967295 (a.spent + x.charge)
                                      impressions := min 4294967295 (a.impressions + x.impressions)
                                      credit :=
                                        match a.credit with
                                        | .charge limit => .charge limit
                                        | .prepaid balance => .prepaid (max (balance - (x.charge : Int)) (-2147483648))
                                      lastApply := s.part.settlement.sequence })
                               notes := waiting.flatMap Post.notes ++ [.debited] }] } } : Part).alert }) ∧
        (∀ slot value, s.part.store.queue = [{ write := .account slot value, notes := [.debited] }] →
          let cleared : Post := { write := .apply none, notes := [.applyClosed .applied] }
          let closing := fun (posts : List Post) (held : Table Nat) =>
            { s with
              part :=
                ({ s.part with
                    settlement := { s.part.settlement with stage := .closing }
                    accounts := { s.part.accounts with held := held }
                    store :=
                      { s.part.store with
                        stored := program s.part.store.stored (.account slot value), queue := posts } } : Part).alert }
          (x.holdId = 0 →
              exec .writeComplete s =
                .next (closing [{ write := .mark x.source x.job, notes := [] }, cleared] s.part.accounts.held)) ∧
            (x.holdId ≠ 0 →
              (findHold s.part.ledger x.holdId = none →
                  exec .writeComplete s = .next (closing [cleared] s.part.accounts.held)) ∧
                ∀ place r, findHold s.part.ledger x.holdId = some (place, r) → r.state = .settling →
                  tableGet s.part.ledger.holds place = some r → Rising s.part.accounts.held →
                  ∃ t, exec .writeComplete s = .next t ∧
                    t = closing [{ write := .hold place none, notes := [] }, cleared] t.part.accounts.held ∧
                    ∀ n, t.part.held n = s.part.held n)) ∧
        ∀ write result, s.part.store.queue = [{ write := write, notes := [.applyClosed result] }] →
          let free : Part :=
            { s.part with
              settlement := { s.part.settlement with stage := .free, current := none }
              store := { s.part.store with stored := program s.part.store.stored write, queue := [] } }
          (x.requester = .remote →
              exec .writeComplete s =
                .next { s with part := (free.sendFrame x.source (.settleAck x.holdId x.job result.code)).alert }) ∧
            (∀ c, s.part.settlement.cancelled = some c → x.requester = .cancelledAsk c.job → c.home = x.source →
              exec .writeComplete s =
                .next
                  { s with
                    part :=
                      ({ free with
                          settlement :=
                            { free.settlement with cancelled := none, reserved := s.part.settlement.reserved - 1 } } :
                        Part).alert }) ∧
            (x.requester = .job → s.part.job.state = .settling → 0 < s.part.journal.reserved →
              let sequence := s.part.ledger.journalSequence + 1
              let status : JournalStatus :=
                match result with
                | .applied => .paid
                | .duplicate => .dropped
                | .orphan => .orphan
              exec .writeComplete s =
                .next
                  { s with
                    part :=
                      ({ free with
                          job := {}
                          journal := { s.part.journal with reserved := s.part.journal.reserved - 1 }
                          line := (s.part.sendFrame 0 s.part.job.tallyMessage).line
                          store :=
                            { free.store with
                              queue :=
                                [{ write := .counter .journalSequence sequence, notes := [] },
                                  { write :=
                                      .journal (sequence % 256)
                                        { sequence := sequence, body := .job (s.part.job.journalEntry status) }
                                    notes := [] },
                                  { write := .checkpoint none, notes := [] }] }
                          panel := s.part.panel.raise .jobState } : Part).alert })) ∧
    ∀ (s : State) (holdId slot : Nat) (r : HoldRecord), s.part.AtRest → s.part.config.outcome ≠ .bad →
      s.part.panel.response = none → s.part.path.sheets = [] → s.part.job.funding = some .accountLocal →
      (s.part.job.state = .ready ∨ s.part.job.state = .running ∨ s.part.job.state = .paused) →
      s.part.settlement.stage = .free → s.part.settlement.requests = [] →
      (∀ f ∈ s.part.line.inbound, f.message.isSettle = false) → s.part.store.queue = [] →
      s.part.job.holdId = some holdId → holdId ≠ 0 →
      ownHold s.part.ledger s.part.config.values.station holdId s.part.job.number = some (slot, r) →
      tableGet s.part.ledger.holds slot = some r → (findAccount s.part.ledger r.account).isSome = true →
      Rising s.part.accounts.held →
      let charge := finalCharge s.part.config.values s.part.job.acc.gross s.part.job.acc.delivered s.part.job.cls s.part.job.amount
      let sequence := s.part.ledger.applySequence + 1
      ∃ t, exec .endJob s = .next t ∧
        t =
          { s with
            part :=
              (({ s.part with
                  permit := false
                  job :=
                    { s.part.job with
                      state := .settling, endReason := some (s.part.job.endReason.getD .panelEnd), charge := some charge
                      keepDue := none, runOutDue := none, topupOutstanding := false, topupAttempts := 0, topupDue := none
                      topupFrame := none, lastActivity := s.part.now }
                  accounts := { s.part.accounts with held := t.part.accounts.held }
                  settlement :=
                    { s.part.settlement with
                      reserved := s.part.settlement.reserved - 1, stage := .recording, sequence := sequence
                      current :=
                        some
                          { source := s.part.config.values.station, holdId := holdId, account := r.account
                            job := s.part.job.number, charge := charge, impressions := s.part.job.acc.delivered
                            requester := .job } }
                  store :=
                    { s.part.store with
                      queue :=
                        [{ write := .hold slot (some { r with state := .settling, touched := s.part.now / 1000 }), notes := [] },
                          { write := .counter .applySequence sequence, notes := [] },
                          { write :=
                              .apply
                                (some
                                  { sequence := sequence, holdId := some holdId, station := s.part.config.values.station
                                    job := s.part.job.number, account := r.account, charge := charge
                                    impressions := s.part.job.acc.delivered })
                            notes := [.applyRecorded] }] }
                  panel := s.part.panel.raise .jobState } : Part).answering 4 .ok []).alert } ∧
        ∀ n, t.part.held n = s.part.held n - (if n = r.account ∧ r.state = .active then r.amount else 0)

/-- The sending of deferred entries (R126, R128): when the quick timer of an entry in flight runs out it is sent again, and after the
third send the slow phase begins; in the slow phase it is sent every 30 s; each send raises its attempts. A SETTLE_ACK that matches
the entry in flight for its sender removes the entry, counts the result and gives back the float it held; one that does not match, or
whose sender has no entry in flight, is ignored. At the write-done of a new entry, with none in flight for its home, it comes into flight with its first send (R125, R126). When it is
the open job's, the hand-off completes first (R123, R180): the JOB record DEFERRED under the job's reservation, the TALLY, the checkpoint
cleared, the record IDLE. (Deductions of the model: a SETTLE_ACK sent to all stations is taken, log entry 44; the TALLY has no end
reason, log entry 49.) -/
def Obligations.DeferredEntriesAreSentUntilAcknowledged : Prop :=
  (∀ (s : State) (home slot : Nat) (f : Flight) (e : DeferredEntry), s.part.AtRest → s.part.flightFor home = some f →
      home ≠ s.part.config.values.station → findEntry s.part.ledger f.number = some (slot, e) → e.home = home →
      s.part.Canonical →
      let sent := fun (g : Flight) =>
        (({ s.part with
            settlement :=
              { s.part.settlement with flights := s.part.settlement.flights.map (fun x => if x.home = home then g else x) }
            store :=
              { s.part.store with
                queue :=
                  [{ write := .deferred slot (some { e with attempts := min 65535 (e.attempts + 1) }), notes := [] }] } } :
            Part).sendFrame home (.settle e.holdId e.account e.job e.charge e.impressions)).alert
      (f.slow = false → f.due ≤ s.part.now → f.sends < 3 → s.part.store.queue = [] →
          exec (.settleQuickTimerExpiry home) s =
            .next { s with part := sent { f with sends := f.sends + 1, due := s.part.now + 400 } }) ∧
        (f.slow = false → f.due ≤ s.part.now → 3 ≤ f.sends →
          exec (.settleQuickTimerExpiry home) s =
            .next
              { s with
                part :=
                  ({ s.part with
                      settlement :=
                        { s.part.settlement with
                          flights :=
                            s.part.settlement.flights.map
                              (fun x => if x.home = home then { f with slow := true, due := s.part.now + 30000 } else x) } } :
                    Part).alert }) ∧
        (f.slow = true → f.due ≤ s.part.now → s.part.store.queue = [] →
          exec (.settleSlowTimerExpiry home) s = .next { s with part := sent { f with due := s.part.now + 30000 } }) ∧
        ∀ (ahead behind : List InFrame) (dest holdId job result : Nat),
          s.part.line.inbound = ahead ++ { source := home, dest := dest, message := .settleAck holdId job result } :: behind →
          (∀ g ∈ ahead, g.message.isAck = false) →
          let line := { s.part.line with inbound := ahead ++ behind }
          (e.holdId ≠ holdId ∨ e.job ≠ job →
              exec .settleAck s = .next { s with part := ({ s.part with line := line } : Part).alert }) ∧
            (e.holdId = holdId → e.job = job → s.part.store.queue = [] →
              (∀ x ∈ s.part.ledger.deferred, x.2.home = home → x = (slot, e)) →
              exec .settleAck s =
                .next
                  { s with
                    part :=
                      ({ s.part with
                          line := line
                          settlement :=
                            { s.part.settlement with
                              flights := s.part.settlement.flights.filter (fun g => decide (g.home ≠ home))
                              floatOutstanding :=
                                if holdId = 0 then s.part.settlement.floatOutstanding - e.charge
                                else s.part.settlement.floatOutstanding
                              applied :=
                                if result = 1 then min 65535 (s.part.settlement.applied + 1) else s.part.settlement.applied
                              duplicate :=
                                if result ≠ 1 ∧ result ≠ 3 then min 65535 (s.part.settlement.duplicate + 1)
                                else s.part.settlement.duplicate
                              orphan :=
                                if result = 3 then min 65535 (s.part.settlement.orphan + 1) else s.part.settlement.orphan }
                          store :=
                            { s.part.store with queue := [{ write := .deferred slot none, notes := [] }] } } : Part).alert })) ∧
    (∀ (s : State) (ahead behind : List InFrame) (source dest holdId job result : Nat), s.part.AtRest →
      s.part.line.inbound = ahead ++ { source := source, dest := dest, message := .settleAck holdId job result } :: behind →
      (∀ g ∈ ahead, g.message.isAck = false) → s.part.flightFor source = none →
      exec .settleAck s =
        .next { s with part := ({ s.part with line := { s.part.line with inbound := ahead ++ behind } } : Part).alert }) ∧
    ∀ (s : State) (slot : Nat) (e : DeferredEntry) (forJob : Bool), s.part.AtRest → s.part.Canonical →
      s.part.store.queue = [{ write := .deferred slot (some e), notes := [.entryStored e.number forJob] }] →
      e.home ≠ s.part.config.values.station → s.part.flightFor e.home = none →
      let stored := program s.part.store.stored (.deferred slot (some e))
      (∀ x ∈ stored.deferred, x.1 ≠ slot → x.2.home ≠ e.home ∧ x.2.number ≠ e.number) →
      let settlement :=
        { s.part.settlement with
          flights :=
            s.part.settlement.flights ++
              [{ home := e.home, number := e.number, slow := false, sends := 1, due := s.part.now + 400 }] }
      let settle : Message := .settle e.holdId e.account e.job e.charge e.impressions
      let counted : Post :=
        { write := .deferred slot (some { e with attempts := min 65535 (e.attempts + 1) }), notes := [] }
      let sequence := stored.journalSequence + 1
      (forJob = false →
          exec .writeComplete s =
            .next
              { s with
                part :=
                  ((({ s.part with
                      settlement := settlement
                      store := { s.part.store with stored := stored, queue := [counted] } } : Part).sendFrame e.home
                    settle)).alert }) ∧
        (forJob = true → s.part.job.state = .settling → 0 < s.part.journal.reserved →
          exec .writeComplete s =
            .next
              { s with
                part :=
                  ({ s.part with
                      job := {}
                      settlement := settlement
                      journal := { s.part.journal with reserved := s.part.journal.reserved - 1 }
                      line := ((s.part.sendFrame 0 s.part.job.tallyMessage).sendFrame e.home settle).line
                      store :=
                        { s.part.store with
                          stored := stored
                          queue :=
                            [{ write := .counter .journalSequence sequence, notes := [] },
                              { write :=
                                  .journal (sequence % 256)
                                    { sequence := sequence, body := .job (s.part.job.journalEntry .deferred) }
                                notes := [] },
                              { write := .checkpoint none, notes := [] }, counted] }
                      panel := s.part.panel.raise .jobState } : Part).alert })

/-! ### The shop line -/

/-- Rests (R143, R144, R151, R152): in ACTIVE and GUARDED a rest that ends 10 ms of quiet starts the head of the outbound queue; in
WITHDRAWN it is counted, and the 64th makes the line ACTIVE with score 0 and an ANNOUNCE queued; in SILENT, and during a send, it
does nothing. Contention lost leaves the frame in its place. (The model's choices: that the command is the rest itself, its 10 ms of
quiet already past, log entry 2; that a rest during a send, and contention lost with no send going on, events that cannot happen, change
nothing, log entry 6.) -/
def Obligations.RestsStartSendsOrAreCounted : Prop :=
  ∀ s : State, s.part.AtRest →
    (s.part.line.sending = none →
        (s.part.line.state = .active ∨ s.part.line.state = .guarded →
            exec .lineQuietRest s =
              .next
                { s with
                  part :=
                    ({ s.part with
                        line := { s.part.line with sending := s.part.line.outbound.head?.map OutFrame.ticket } } :
                      Part).alert }) ∧
          (s.part.line.state = .withdrawn → s.part.line.rests < 63 →
            exec .lineQuietRest s =
              .next
                { s with
                  part := ({ s.part with line := { s.part.line with rests := s.part.line.rests + 1 } } : Part).alert }) ∧
          (s.part.line.state = .withdrawn → 63 ≤ s.part.line.rests →
            exec .lineQuietRest s =
              .next
                { s with
                  part :=
                    (({ s.part with
                        line := { s.part.line with state := .active, score := 0, rests := 0 }
                        panel := s.part.panel.raise .line } : Part).sendFrame 0
                      (.announce s.part.ledger.period.current)).alert }) ∧
          (s.part.line.state = .silent → exec .lineQuietRest s = .next { s with part := s.part.alert })) ∧
      (s.part.line.sending.isSome = true → exec .lineQuietRest s = .next { s with part := s.part.alert }) ∧
      exec .contentionLost s =
        .next { s with part := ({ s.part with line := { s.part.line with sending := none } } : Part).alert }

/-- The outcome of a send in ACTIVE, away from the score's thresholds (R147, R149, R150): answered, the frame leaves the queue and the
score falls by 1; unanswered, its attempts rise and it keeps its place, or at the 16th it is dropped and counted, and the score
rises by 8. The rest that ends the transmission then starts the next head. At a score of 96 the line is GUARDED, and LINE is raised.
In each case the frame has gone out whole, with this station's number, its length and its check (R141, section 12.1).
At a score of 192 the line is WITHDRAWN (R150, R151), after an unanswered send or a bad transmission: the outbound queue is dropped
and the owner of each frame told, so that an ask or a top-up with an attempt left makes it, refused and left to its timer, and a
cancelled ask ends. The rest count is 0, and LINE is raised. In GUARDED the same outcomes hold below 192, no frame is started by the
rest (R143), and a fall to 95 makes the line ACTIVE again, LINE raised.
A frame dropped at its 16th send is told to its owner (R147): an asking job asks again and a topping-up job asks for more again,
before the third attempt (R24, R31), and a cancelled ask ends and gives its slot back (R26). (The third attempts are those of the
timers: TimersAskAgainKeepTheHoldOrGiveUp. The order within the 16th unanswered send is a deduction of the model, log entry 14; so are that
the rest which ends the withdrawing transmission is not counted, log entry 17, and that the frames dropped in WITHDRAWN are not
counted, log entry 33. The outputs kept are the model's own field: log entry 38.) -/
def Obligations.SendsAreAnsweredOrCounted : Prop :=
  (∀ (s : State) (ticket : Nat), s.part.AtRest → s.part.line.sending = some ticket → s.part.line.state = .active →
      let line := s.part.line
      let outputs :=
        { s.part.outputs with
          line :=
            s.part.outputs.line ++
              (line.outbound.find? (fun f => decide (f.ticket = ticket))).toList.map
                (fun f => frameBytes s.part.config.values.station f.dest f.message) }
      let others := line.outbound.filter (fun f => decide (f.ticket ≠ ticket))
      let counted := line.outbound.map (fun f => if f.ticket = ticket then { f with attempts := f.attempts + 1 } else f)
      let last := line.outbound.any (fun f => decide (f.ticket = ticket) && decide (15 ≤ f.attempts))
      (line.score < 97 →
          exec (.sendResult true) s =
            .next
              { s with
                part :=
                  ({ s.part with
                      outputs := outputs
                      line :=
                        { line with
                          outbound := others, score := line.score - 1, sending := others.head?.map OutFrame.ticket } } :
                    Part).alert }) ∧
        (line.score < 88 → last = false →
          exec (.sendResult false) s =
            .next
              { s with
                part :=
                  ({ s.part with
                      outputs := outputs
                      line :=
                        { line with
                          outbound := counted, score := line.score + 8, sending := counted.head?.map OutFrame.ticket } } :
                    Part).alert }) ∧
        (line.score < 88 → last = true → s.part.job.state ≠ .authorize → s.part.job.topupOutstanding = false →
          s.part.settlement.cancelled = none →
          exec (.sendResult false) s =
            .next
              { s with
                part :=
                  ({ s.part with
                      outputs := outputs
                      line :=
                        { line with
                          outbound := counted.filter (fun f => decide (f.ticket ≠ ticket)), score := line.score + 8
                          dropped := min 65535 (line.dropped + 1)
                          sending := (counted.filter (fun f => decide (f.ticket ≠ ticket))).head?.map OutFrame.ticket } } :
                    Part).alert }) ∧
        (88 ≤ line.score → line.score < 184 → last = false →
          exec (.sendResult false) s =
            .next
              { s with
                part :=
                  ({ s.part with
                      outputs := outputs
                      line := { line with outbound := counted, score := line.score + 8, state := .guarded, sending := none }
                      panel := s.part.panel.raise .line } : Part).alert })) ∧
    (∀ s : State, s.part.AtRest → s.part.line.state = .guarded → s.part.AttemptsLeft →
      let line := s.part.line
      let withdrawn := fun (score dropped : Nat) (answered : Bool) (sent : List (List Byte)) =>
        { s with
          part :=
            ({ s.part with
                job := s.part.job.told line.outbound s.part.now
                settlement := s.part.settlement.told line.outbound
                line :=
                  { line with
                    state := .withdrawn, score := score, rests := 0, outbound := [], sending := none, answered := answered
                    dropped := dropped }
                outputs := { s.part.outputs with line := s.part.outputs.line ++ sent }
                panel := s.part.panel.raise .line } : Part).alert }
      (∀ ticket, line.sending = some ticket → 184 ≤ line.score →
          exec (.sendResult false) s =
            .next
              (withdrawn (min 255 (line.score + 8))
                (if line.outbound.any (fun f => decide (f.ticket = ticket) && decide (15 ≤ f.attempts)) then
                  min 65535 (line.dropped + 1)
                else line.dropped)
                line.answered
                ((line.outbound.find? (fun f => decide (f.ticket = ticket))).toList.map
                  (fun f => frameBytes s.part.config.values.station f.dest f.message)))) ∧
        ∀ bytes, judge bytes = .bad → 191 ≤ line.score →
          exec (.frameReceived bytes) s = .next (withdrawn (min 255 (line.score + 1)) line.dropped false [])) ∧
    (∀ (s : State) (ticket : Nat), s.part.AtRest → s.part.line.sending = some ticket → s.part.line.state = .guarded →
      let line := s.part.line
      let outputs :=
        { s.part.outputs with
          line :=
            s.part.outputs.line ++
              (line.outbound.find? (fun f => decide (f.ticket = ticket))).toList.map
                (fun f => frameBytes s.part.config.values.station f.dest f.message) }
      let others := line.outbound.filter (fun f => decide (f.ticket ≠ ticket))
      let counted := line.outbound.map (fun f => if f.ticket = ticket then { f with attempts := f.attempts + 1 } else f)
      let last := line.outbound.any (fun f => decide (f.ticket = ticket) && decide (15 ≤ f.attempts))
      let becomes := fun (answered : Bool) (l : Line) (panel : Panel) =>
        exec (.sendResult answered) s =
          .next { s with part := ({ s.part with outputs := outputs, line := l, panel := panel } : Part).alert }
      (97 ≤ line.score → line.score ≤ 192 →
          becomes true { line with outbound := others, score := line.score - 1, sending := none } s.part.panel) ∧
        (line.score = 96 →
          becomes true
            { line with
              outbound := others, score := 95, state := .active, sending := others.head?.map OutFrame.ticket }
            (s.part.panel.raise .line)) ∧
        (88 ≤ line.score → line.score < 184 → last = false →
          becomes false { line with outbound := counted, score := line.score + 8, sending := none } s.part.panel) ∧
        (88 ≤ line.score → line.score < 184 → last = true → s.part.job.state ≠ .authorize →
          s.part.job.topupOutstanding = false → s.part.settlement.cancelled = none →
          becomes false
            { line with
              outbound := others, score := line.score + 8, sending := none, dropped := min 65535 (line.dropped + 1) }
            s.part.panel)) ∧
    ∀ (s : State) (ticket home : Nat), s.part.AtRest → s.part.line.sending = some ticket → s.part.line.state = .active →
      s.part.line.score < 88 → home ≠ s.part.config.values.station → home ≠ 31 →
      let line := s.part.line
      let job := s.part.job
      let left := line.outbound.filter (fun f => decide (f.ticket ≠ ticket))
      line.outbound.any (fun f => decide (f.ticket = ticket) && decide (15 ≤ f.attempts)) = true → left.length < 8 →
      let becomes := fun (outbound : List OutFrame) (next : Nat) (j : Job) (unit : SettlementUnit) =>
        exec (.sendResult false) s =
          .next
            { s with
              part :=
                ({ s.part with
                    job := j
                    settlement := unit
                    outputs :=
                      { s.part.outputs with
                        line :=
                          s.part.outputs.line ++
                            (line.outbound.find? (fun f => decide (f.ticket = ticket))).toList.map
                              (fun f => frameBytes s.part.config.values.station f.dest f.message) }
                    line :=
                      { line with
                        outbound := outbound, score := line.score + 8, dropped := min 65535 (line.dropped + 1)
                        sending := outbound.head?.map OutFrame.ticket, nextTicket := next } } : Part).alert }
      (job.home = some home → job.state = .authorize → job.askFrame = some ticket → job.askAttempts < 3 →
          becomes
            (insertFrame left
              { ticket := line.nextTicket, dest := home
                message := .holdAsk job.payer job.number s.part.config.values.holdStep })
            (line.nextTicket + 1)
            { job with
              askAttempts := job.askAttempts + 1, askDue := some (s.part.now + 400), askFrame := some line.nextTicket }
            s.part.settlement) ∧
        (job.home = some home → job.state ≠ .authorize → job.topupOutstanding = true → job.topupFrame = some ticket →
          job.topupAttempts < 3 →
          becomes
            (insertFrame left
              { ticket := line.nextTicket, dest := home
                message :=
                  .holdMore (job.holdId.getD 0) job.number (min s.part.config.values.holdStep (100000 - job.amount)) })
            (line.nextTicket + 1)
            { job with
              topupAttempts := job.topupAttempts + 1, topupDue := some (s.part.now + 400)
              topupFrame := some line.nextTicket }
            s.part.settlement) ∧
        ∀ c : CancelledAsk, s.part.settlement.cancelled = some c → c.frame = some ticket → job.state ≠ .authorize →
          job.topupOutstanding = false →
          becomes left line.nextTicket job
            { s.part.settlement with cancelled := none, reserved := s.part.settlement.reserved - 1 }

/-- A transmission received in ACTIVE with no send going on, away from the score's thresholds (R141, R145, R148, R149, R154): a bad one
raises the score by 1; a good one lowers it by 1, sets the sender's heard entry, and, when it is known, for this station or for all, and
the inbound queue has a place, is accepted: the answer slot is driven and a frame for a block goes to the tail of the queue; with no place
it is counted and left unanswered. An accepted answer to a hold, ACCT_ANSWER or TALLY does what its own command does, with the slot driven.
The rest that ends it then starts the head of the outbound queue. In GUARDED the same holds, but the rest starts no frame (R143).
A good frame from this station's own number makes the line SILENT (R153), and the queue is dropped with its owners told.
A bad transmission that ends a send by a mismatch raises the score by 1, and then the send counts as unanswered (R144).
In SILENT nothing is answered and the score stands: a good frame of another station sets its heard entry, and a PERIOD_CLOSE or
ANNOUNCE to all is queued for the account table while there is a place. In WITHDRAWN every transmission is ignored (R151); the
rest that ends it is counted, and the 64th makes the line ACTIVE with score 0 and an ANNOUNCE queued (R152).
A good frame of a station with an entry in flight in its slow phase has that entry sent at once, its attempts raised, before the frame is
accepted (R126, R155), so that the checkpoint of a job which the frame funds stands behind them; one in the quick phase is left to
its timer. (Deductions of the model: the frame of a clash lowers the score first, log entry 15; bytes behind a frame's check are ignored,
log entry 21; at a heard report a slow timer that has run out keeps its own send, log entry 58.) -/
def Obligations.TransmissionsAreJudgedAndTaken : Prop :=
  (∀ (s : State) (bytes : List Byte), s.part.AtRest → s.part.line.state = .active → s.part.line.sending = none →
      s.part.line.score < 95 →
      let line := s.part.line
      let next := line.outbound.head?.map OutFrame.ticket
      let becomes := fun (l : Line) => exec (.frameReceived bytes) s = .next { s with part := ({ s.part with line := l } : Part).alert }
      (judge bytes = .bad → becomes { line with score := line.score + 1, answered := false, sending := next }) ∧
        ∀ source dest message, judge bytes = .good source dest message →
          let heard := { line with score := line.score - 1, answered := false, heard := tablePut line.heard source s.part.now }
          (source ≠ s.part.config.values.station → s.part.flightFor source = none →
              (message = none ∨ (dest ≠ 0 ∧ dest ≠ s.part.config.values.station) → becomes { heard with sending := next }) ∧
                ∀ m, message = some m → dest = 0 ∨ dest = s.part.config.values.station →
                  (8 ≤ line.inbound.length →
                      becomes { heard with inboundFull := min 65535 (line.inboundFull + 1), sending := next }) ∧
                    (line.inbound.length < 8 →
                      m.isHoldRequest = true ∨ m.isAccountFrame = true ∨ m.isSettle = true ∨ m.isAck = true →
                      becomes
                        { heard with
                          answered := true, sending := next
                          inbound := line.inbound ++ [{ source := source, dest := dest, message := m }] }))) ∧
    (∀ (s : State) (bytes : List Byte) (dest : Nat) (message : Option Message), s.part.AtRest →
      s.part.line.state = .active ∨ s.part.line.state = .guarded → s.part.line.score ≤ 192 →
      judge bytes = .good s.part.config.values.station dest message →
      s.part.line.outbound = [] ∨ s.part.AttemptsLeft →
      let line := s.part.line
      exec (.frameReceived bytes) s =
        .next
          { s with
            part :=
              ({ s.part with
                  job := s.part.job.told line.outbound s.part.now
                  settlement := s.part.settlement.told line.outbound
                  line :=
                    { line with
                      score := line.score - 1, answered := false, state := .silent, outbound := [], sending := none }
                  panel := s.part.panel.raise .line } : Part).alert }) ∧
    (∀ (s : State) (bytes : List Byte) (source dest : Nat) (m : Message) (command : Instr), s.part.AtRest →
      s.part.line.sending = none →
      (s.part.line.state = .active ∧ s.part.line.score < 97) ∨
          (s.part.line.state = .guarded ∧ 97 ≤ s.part.line.score ∧ s.part.line.score ≤ 192) →
      judge bytes = .good source dest (some m) → source ≠ s.part.config.values.station →
      dest = 0 ∨ dest = s.part.config.values.station → s.part.flightFor source = none → s.part.line.inbound.length < 8 →
      answerCommand source m = some command →
      let line := s.part.line
      let heard : State :=
        { s with
          part :=
            { s.part with
              line := { line with score := line.score - 1, answered := true, heard := tablePut line.heard source s.part.now } } }
      ∃ t, exec command heard = .next t ∧
        exec (.frameReceived bytes) s =
          .next
            { t with
              part :=
                ({ t.part with
                    line :=
                      { t.part.line with
                        sending :=
                          if line.state = .active then t.part.line.outbound.head?.map OutFrame.ticket else none } } :
                  Part).alert }) ∧
    (∀ (s : State) (bytes : List Byte) (ticket : Nat), s.part.AtRest → s.part.line.sending = some ticket →
      judge bytes = .bad →
      let line := s.part.line
      let counted := line.outbound.map (fun f => if f.ticket = ticket then { f with attempts := f.attempts + 1 } else f)
      let left := line.outbound.filter (fun f => decide (f.ticket ≠ ticket))
      let last := line.outbound.any (fun f => decide (f.ticket = ticket) && decide (15 ≤ f.attempts))
      let becomes := fun (outbound : List OutFrame) (dropped : Nat) (sending : Option Nat) =>
        exec (.frameReceived bytes) s =
          .next
            { s with
              part :=
                ({ s.part with
                    line :=
                      { line with
                        outbound := outbound, dropped := dropped, sending := sending, score := line.score + 9
                        answered := false } } : Part).alert }
      (line.state = .active → line.score < 87 → last = false →
          becomes counted line.dropped (counted.head?.map OutFrame.ticket)) ∧
        (line.state = .guarded → 96 ≤ line.score → line.score < 183 → last = false → becomes counted line.dropped none) ∧
        (last = true → s.part.job.state ≠ .authorize → s.part.job.topupOutstanding = false →
          s.part.settlement.cancelled = none →
          (line.state = .active → line.score < 87 →
              becomes left (min 65535 (line.dropped + 1)) (left.head?.map OutFrame.ticket)) ∧
            (line.state = .guarded → 96 ≤ line.score → line.score < 183 →
              becomes left (min 65535 (line.dropped + 1)) none))) ∧
    (∀ (s : State) (bytes : List Byte), s.part.AtRest → s.part.line.state = .guarded → s.part.line.sending = none →
      97 ≤ s.part.line.score → s.part.line.score < 191 →
      let line := s.part.line
      let becomes := fun (l : Line) => exec (.frameReceived bytes) s = .next { s with part := ({ s.part with line := l } : Part).alert }
      (judge bytes = .bad → becomes { line with score := line.score + 1, answered := false }) ∧
        ∀ source dest message, judge bytes = .good source dest message → source ≠ s.part.config.values.station →
          s.part.flightFor source = none →
          let heard := { line with score := line.score - 1, answered := false, heard := tablePut line.heard source s.part.now }
          (message = none ∨ (dest ≠ 0 ∧ dest ≠ s.part.config.values.station) → becomes heard) ∧
            ∀ m, message = some m → dest = 0 ∨ dest = s.part.config.values.station →
              (8 ≤ line.inbound.length → becomes { heard with inboundFull := min 65535 (line.inboundFull + 1) }) ∧
                (line.inbound.length < 8 →
                  m.isHoldRequest = true ∨ m.isAccountFrame = true ∨ m.isSettle = true ∨ m.isAck = true →
                  becomes
                    { heard with
                      answered := true, inbound := line.inbound ++ [{ source := source, dest := dest, message := m }] })) ∧
    (∀ (s : State) (bytes : List Byte), s.part.AtRest → s.part.line.sending = none →
      let line := s.part.line
      let becomes := fun (l : Line) => exec (.frameReceived bytes) s = .next { s with part := ({ s.part with line := l } : Part).alert }
      (line.state = .silent →
          (judge bytes = .bad → becomes { line with answered := false }) ∧
            ∀ source dest message, judge bytes = .good source dest message →
              let heard :=
                { line with
                  answered := false
                  heard :=
                    if source = s.part.config.values.station then line.heard else tablePut line.heard source s.part.now }
              (message = none ∨ dest ≠ 0 ∨ 8 ≤ line.inbound.length → becomes heard) ∧
                ∀ m, message = some m → dest = 0 → line.inbound.length < 8 →
                  (m.announcesPeriod = false → becomes heard) ∧
                    (m.announcesPeriod = true →
                      becomes { heard with inbound := line.inbound ++ [{ source := source, dest := 0, message := m }] })) ∧
        (line.state = .withdrawn →
          (line.rests < 63 → becomes { line with answered := false, rests := line.rests + 1 }) ∧
            (63 ≤ line.rests →
              exec (.frameReceived bytes) s =
                .next
                  { s with
                    part :=
                      ((({ s.part with
                          line := { line with state := .active, score := 0, rests := 0, answered := false }
                          panel := s.part.panel.raise .line } : Part).sendFrame 0
                        (.announce s.part.ledger.period.current))).alert }))) ∧
    (∀ (s : State) (bytes : List Byte) (source dest slot : Nat) (f : Flight) (e : DeferredEntry), s.part.AtRest →
      s.part.line.state = .active → s.part.line.sending = none → s.part.line.score < 95 →
      judge bytes = .good source dest none → source ≠ s.part.config.values.station →
      s.part.flightFor source = some f → findEntry s.part.ledger f.number = some (slot, e) → s.part.store.queue = [] →
      let heard : Part :=
        { s.part with
          line :=
            { s.part.line with
              score := s.part.line.score - 1, answered := false
              heard := tablePut s.part.line.heard source s.part.now } }
      let started := fun (p : Part) =>
        { p with line := { p.line with sending := p.line.outbound.head?.map OutFrame.ticket } }
      (f.slow = false → exec (.frameReceived bytes) s = .next { s with part := (started heard).alert }) ∧
        (f.slow = true →
          exec (.frameReceived bytes) s =
            .next
              { s with
                part :=
                  (started
                      (({ heard with
                          settlement :=
                            { s.part.settlement with
                              flights :=
                                s.part.settlement.flights.map
                                  (fun x =>
                                    if x.home = source then
                                      { f with due := if f.due ≤ s.part.now then f.due else s.part.now + 30000 }
                                    else x) }
                          store :=
                            { s.part.store with
                              queue :=
                                [{ write := .deferred slot (some { e with attempts := min 65535 (e.attempts + 1) })
                                   notes := [] }] } } : Part).sendFrame source
                        (.settle e.holdId e.account e.job e.charge e.impressions))).alert })) ∧
    ∀ (s : State) (bytes : List Byte) (source dest slot holdId amount cls lifetime : Nat) (f : Flight) (e : DeferredEntry),
      s.part.AtRest → s.part.line.state = .active → s.part.line.sending = none → s.part.line.score < 95 →
      judge bytes = .good source dest (some (.holdGive holdId s.part.job.number amount cls lifetime)) →
      dest = 0 ∨ dest = s.part.config.values.station → source ≠ s.part.config.values.station → s.part.line.inbound.length < 8 →
      s.part.flightFor source = some f → f.slow = true → findEntry s.part.ledger f.number = some (slot, e) →
      s.part.store.queue = [] → s.part.job.state = .authorize → s.part.job.home = some source →
      s.part.job.funding = some .accountRemote → amount ≠ 0 → cls ≤ 3 →
      ∃ t, exec (.frameReceived bytes) s = .next t ∧ t.part.job.state = .ready ∧ t.part.job.limit = some (min amount 100000) ∧
        t.part.line.answered = true ∧
        t.part.line.outbound =
          (s.part.sendFrame source (.settle e.holdId e.account e.job e.charge e.impressions)).line.outbound ∧
        t.part.store.queue =
          [{ write := .deferred slot (some { e with attempts := min 65535 (e.attempts + 1) }), notes := [] },
            { write := .checkpoint t.part.job.checkpoint, notes := [] }]
end

