-- ==== Sys2Proof/Laws/Frames.lean ====
section
/-! SUPPORT. What every shared operation leaves alone: one lemma per operation, for each field of the part (and of its store) that
it cannot change. -/

-- One theorem after another: many small theorems elaborated at once need more threads than the check allows.
set_option Elab.async false

namespace Sys2Proof.Machine

open Sys2Proof

/-- Between two commands the oldest post is being programmed, and the others wait (R161). -/
theorem Store.waiting_eq_tail {s : Store} (h : s.starting = false) : s.waiting = s.queue.tail := by simp [Store.waiting, h]

theorem Store.programming_eq_take {s : Store} (h : s.starting = false) : s.programming = s.queue.take 1 := by
  simp [Store.programming, h]

@[simp] theorem Store.post_frame (s : Store) (w : Write) (notes : List Note) :
    (s.post w notes).stored = s.stored ∧ (s.post w notes).pending = s.pending ∧ (s.post w notes).work = s.work := by
  unfold Store.post
  split
  · cases s.queue <;> simp
  · simp

@[simp] theorem Store.fill_frame (s : Store) : s.fill.stored = s.stored ∧ s.fill.work = s.work := ⟨rfl, rfl⟩

@[simp] theorem Store.postRunning_frame (s : Store) (w : Write) :
    (s.postRunning w).stored = s.stored ∧ (s.postRunning w).work = s.work := by
  unfold Store.postRunning
  split <;> simp

@[simp] theorem Store.clearCheckpoint_frame (s : Store) :
    s.clearCheckpoint.stored = s.stored ∧ s.clearCheckpoint.work = s.work := by
  unfold Store.clearCheckpoint
  dsimp only
  cases (s.postRunning (.checkpoint none)).queue <;> simp

@[simp] theorem Part.raise_frame (p : Part) (a : Alert) : (p.raise a).phase = p.phase ∧ (p.raise a).resetPin = p.resetPin ∧
    (p.raise a).now = p.now ∧ (p.raise a).config = p.config ∧ (p.raise a).job = p.job ∧ (p.raise a).permit = p.permit ∧ (p.raise
    a).path = p.path ∧ (p.raise a).card = p.card ∧ (p.raise a).holds = p.holds ∧ (p.raise a).accounts = p.accounts ∧ (p.raise
    a).settlement = p.settlement ∧ (p.raise a).line = p.line ∧ (p.raise a).store.stored = p.store.stored ∧ (p.raise
    a).store.queue = p.store.queue ∧ (p.raise a).store.pending = p.store.pending ∧ (p.raise a).store.work = p.store.work ∧
    (p.raise a).journal = p.journal ∧ (p.raise a).alertOut = p.alertOut ∧ (p.raise a).outputs = p.outputs := by
  unfold Part.raise; (try dsimp only); (repeat' split) <;> simp

@[simp] theorem Part.rejectWith_frame (p : Part) (r : Reject) : (p.rejectWith r).phase = p.phase ∧ (p.rejectWith r).resetPin
    = p.resetPin ∧ (p.rejectWith r).now = p.now ∧ (p.rejectWith r).config = p.config ∧ (p.rejectWith r).job = p.job ∧
    (p.rejectWith r).permit = p.permit ∧ (p.rejectWith r).path = p.path ∧ (p.rejectWith r).card = p.card ∧ (p.rejectWith
    r).holds = p.holds ∧ (p.rejectWith r).accounts = p.accounts ∧ (p.rejectWith r).settlement = p.settlement ∧ (p.rejectWith
    r).line = p.line ∧ (p.rejectWith r).store.stored = p.store.stored ∧ (p.rejectWith r).store.queue = p.store.queue ∧
    (p.rejectWith r).store.pending = p.store.pending ∧ (p.rejectWith r).store.work = p.store.work ∧ (p.rejectWith r).journal =
    p.journal ∧ (p.rejectWith r).alertOut = p.alertOut ∧ (p.rejectWith r).outputs = p.outputs := by
  unfold Part.rejectWith; (try dsimp only); (repeat' split) <;> simp

@[simp] theorem Part.sendCard_frame (p : Part) (m : CardMessage) : (p.sendCard m).phase = p.phase ∧ (p.sendCard m).resetPin
    = p.resetPin ∧ (p.sendCard m).now = p.now ∧ (p.sendCard m).config = p.config ∧ (p.sendCard m).job = p.job ∧ (p.sendCard
    m).permit = p.permit ∧ (p.sendCard m).path = p.path ∧ (p.sendCard m).card = p.card ∧ (p.sendCard m).holds = p.holds ∧
    (p.sendCard m).accounts = p.accounts ∧ (p.sendCard m).settlement = p.settlement ∧ (p.sendCard m).line = p.line ∧ (p.sendCard
    m).store.stored = p.store.stored ∧ (p.sendCard m).store.queue = p.store.queue ∧ (p.sendCard m).store.pending =
    p.store.pending ∧ (p.sendCard m).store.work = p.store.work ∧ (p.sendCard m).journal = p.journal ∧ (p.sendCard m).panel =
    p.panel ∧ (p.sendCard m).alertOut = p.alertOut := by
  unfold Part.sendCard; (try dsimp only); (repeat' split) <;> simp

@[simp] theorem Part.expectReturn_frame (p : Part) : (p.expectReturn).phase = p.phase ∧ (p.expectReturn).resetPin =
    p.resetPin ∧ (p.expectReturn).now = p.now ∧ (p.expectReturn).config = p.config ∧ (p.expectReturn).job = p.job ∧
    (p.expectReturn).permit = p.permit ∧ (p.expectReturn).path = p.path ∧ (p.expectReturn).holds = p.holds ∧
    (p.expectReturn).accounts = p.accounts ∧ (p.expectReturn).settlement = p.settlement ∧ (p.expectReturn).line = p.line ∧
    (p.expectReturn).store.stored = p.store.stored ∧ (p.expectReturn).store.queue = p.store.queue ∧
    (p.expectReturn).store.pending = p.store.pending ∧ (p.expectReturn).store.work = p.store.work ∧ (p.expectReturn).journal =
    p.journal ∧ (p.expectReturn).panel = p.panel ∧ (p.expectReturn).alertOut = p.alertOut ∧ (p.expectReturn).outputs = p.outputs
    := by
  unfold Part.expectReturn; (try dsimp only); (repeat' split) <;> simp

@[simp] theorem Part.postRunning_frame (p : Part) (w : Write) : (p.postRunning w).phase = p.phase ∧ (p.postRunning
    w).resetPin = p.resetPin ∧ (p.postRunning w).now = p.now ∧ (p.postRunning w).config = p.config ∧ (p.postRunning w).job =
    p.job ∧ (p.postRunning w).permit = p.permit ∧ (p.postRunning w).path = p.path ∧ (p.postRunning w).card = p.card ∧
    (p.postRunning w).holds = p.holds ∧ (p.postRunning w).accounts = p.accounts ∧ (p.postRunning w).settlement = p.settlement ∧
    (p.postRunning w).line = p.line ∧ (p.postRunning w).store.stored = p.store.stored ∧ (p.postRunning w).store.work =
    p.store.work ∧ (p.postRunning w).journal = p.journal ∧ (p.postRunning w).panel = p.panel ∧ (p.postRunning w).alertOut =
    p.alertOut ∧ (p.postRunning w).outputs = p.outputs := by
  simp [Part.postRunning]

@[simp] theorem Part.raiseMeter_frame (p : Part) (i n : Nat) : (p.raiseMeter i n).phase = p.phase ∧ (p.raiseMeter i
    n).resetPin = p.resetPin ∧ (p.raiseMeter i n).now = p.now ∧ (p.raiseMeter i n).config = p.config ∧ (p.raiseMeter i n).job =
    p.job ∧ (p.raiseMeter i n).permit = p.permit ∧ (p.raiseMeter i n).path = p.path ∧ (p.raiseMeter i n).card = p.card ∧
    (p.raiseMeter i n).holds = p.holds ∧ (p.raiseMeter i n).accounts = p.accounts ∧ (p.raiseMeter i n).settlement = p.settlement
    ∧ (p.raiseMeter i n).line = p.line ∧ (p.raiseMeter i n).store.stored = p.store.stored ∧ (p.raiseMeter i n).store.work =
    p.store.work ∧ (p.raiseMeter i n).journal = p.journal ∧ (p.raiseMeter i n).panel = p.panel ∧ (p.raiseMeter i n).alertOut =
    p.alertOut ∧ (p.raiseMeter i n).outputs = p.outputs := by
  unfold Part.raiseMeter; (try dsimp only); (repeat' split) <;> simp

@[simp] theorem Part.assign_frame (p : Part) (o : Owner) (ts : List Task) : (p.assign o ts).phase = p.phase ∧ (p.assign o
    ts).resetPin = p.resetPin ∧ (p.assign o ts).now = p.now ∧ (p.assign o ts).config = p.config ∧ (p.assign o ts).job = p.job ∧
    (p.assign o ts).permit = p.permit ∧ (p.assign o ts).path = p.path ∧ (p.assign o ts).card = p.card ∧ (p.assign o ts).holds =
    p.holds ∧ (p.assign o ts).accounts = p.accounts ∧ (p.assign o ts).settlement = p.settlement ∧ (p.assign o ts).line = p.line
    ∧ (p.assign o ts).store.stored = p.store.stored ∧ (p.assign o ts).store.queue = p.store.queue ∧ (p.assign o
    ts).store.pending = p.store.pending ∧ (p.assign o ts).journal = p.journal ∧ (p.assign o ts).panel = p.panel ∧ (p.assign o
    ts).alertOut = p.alertOut ∧ (p.assign o ts).outputs = p.outputs := by
  unfold Part.assign; (try dsimp only); (repeat' split) <;> simp

@[simp] theorem Part.releaseDeferred_frame (p : Part) : (p.releaseDeferred).phase = p.phase ∧ (p.releaseDeferred).resetPin =
    p.resetPin ∧ (p.releaseDeferred).now = p.now ∧ (p.releaseDeferred).config = p.config ∧ (p.releaseDeferred).job = p.job ∧
    (p.releaseDeferred).permit = p.permit ∧ (p.releaseDeferred).path = p.path ∧ (p.releaseDeferred).card = p.card ∧
    (p.releaseDeferred).holds = p.holds ∧ (p.releaseDeferred).accounts = p.accounts ∧ (p.releaseDeferred).line = p.line ∧
    (p.releaseDeferred).store.stored = p.store.stored ∧ (p.releaseDeferred).store.queue = p.store.queue ∧
    (p.releaseDeferred).store.pending = p.store.pending ∧ (p.releaseDeferred).store.work = p.store.work ∧
    (p.releaseDeferred).journal = p.journal ∧ (p.releaseDeferred).panel = p.panel ∧ (p.releaseDeferred).alertOut = p.alertOut ∧
    (p.releaseDeferred).outputs = p.outputs := by
  unfold Part.releaseDeferred; (try dsimp only); (repeat' split) <;> simp

@[simp] theorem Part.releaseJournal_frame (p : Part) : (p.releaseJournal).phase = p.phase ∧ (p.releaseJournal).resetPin =
    p.resetPin ∧ (p.releaseJournal).now = p.now ∧ (p.releaseJournal).config = p.config ∧ (p.releaseJournal).job = p.job ∧
    (p.releaseJournal).permit = p.permit ∧ (p.releaseJournal).path = p.path ∧ (p.releaseJournal).card = p.card ∧
    (p.releaseJournal).holds = p.holds ∧ (p.releaseJournal).accounts = p.accounts ∧ (p.releaseJournal).settlement = p.settlement
    ∧ (p.releaseJournal).line = p.line ∧ (p.releaseJournal).store.stored = p.store.stored ∧ (p.releaseJournal).store.queue =
    p.store.queue ∧ (p.releaseJournal).store.pending = p.store.pending ∧ (p.releaseJournal).store.work = p.store.work ∧
    (p.releaseJournal).panel = p.panel ∧ (p.releaseJournal).alertOut = p.alertOut ∧ (p.releaseJournal).outputs = p.outputs := by
  unfold Part.releaseJournal; (try dsimp only); (repeat' split) <;> simp

@[simp] theorem Part.setHeld_frame (p : Part) (a n : Nat) : (p.setHeld a n).phase = p.phase ∧ (p.setHeld a n).resetPin =
    p.resetPin ∧ (p.setHeld a n).now = p.now ∧ (p.setHeld a n).config = p.config ∧ (p.setHeld a n).job = p.job ∧ (p.setHeld a
    n).permit = p.permit ∧ (p.setHeld a n).path = p.path ∧ (p.setHeld a n).card = p.card ∧ (p.setHeld a n).holds = p.holds ∧
    (p.setHeld a n).settlement = p.settlement ∧ (p.setHeld a n).line = p.line ∧ (p.setHeld a n).store.stored = p.store.stored ∧
    (p.setHeld a n).store.queue = p.store.queue ∧ (p.setHeld a n).store.pending = p.store.pending ∧ (p.setHeld a n).store.work =
    p.store.work ∧ (p.setHeld a n).journal = p.journal ∧ (p.setHeld a n).panel = p.panel ∧ (p.setHeld a n).alertOut = p.alertOut
    ∧ (p.setHeld a n).outputs = p.outputs := by
  unfold Part.setHeld; (try dsimp only); (repeat' split) <;> simp

@[simp] theorem Part.sendFrame_frame (p : Part) (d : Nat) (m : Message) : (p.sendFrame d m).phase = p.phase ∧ (p.sendFrame
    d m).resetPin = p.resetPin ∧ (p.sendFrame d m).now = p.now ∧ (p.sendFrame d m).line.inbound = p.line.inbound ∧
    (p.sendFrame d m).config = p.config ∧ (p.sendFrame d m).job = p.job ∧ (p.sendFrame d m).permit = p.permit ∧
    (p.sendFrame d m).path = p.path ∧ (p.sendFrame d m).card = p.card ∧ (p.sendFrame d m).holds = p.holds ∧ (p.sendFrame d
    m).accounts = p.accounts ∧ (p.sendFrame d m).settlement = p.settlement ∧ (p.sendFrame d m).store.stored =
    p.store.stored ∧ (p.sendFrame d m).store.queue = p.store.queue ∧ (p.sendFrame d m).store.pending = p.store.pending ∧
    (p.sendFrame d m).store.work = p.store.work ∧ (p.sendFrame d m).journal = p.journal ∧ (p.sendFrame d m).panel =
    p.panel ∧ (p.sendFrame d m).alertOut = p.alertOut ∧ (p.sendFrame d m).outputs = p.outputs := by
  unfold Part.sendFrame Part.enqueue; (repeat' split) <;> simp

@[simp] theorem Part.setJobState_frame (p : Part) (st : JobState) : (p.setJobState st).phase = p.phase ∧ (p.setJobState
    st).resetPin = p.resetPin ∧ (p.setJobState st).now = p.now ∧ (p.setJobState st).config = p.config ∧ (p.setJobState
    st).permit = p.permit ∧ (p.setJobState st).path = p.path ∧ (p.setJobState st).card = p.card ∧ (p.setJobState st).holds =
    p.holds ∧ (p.setJobState st).accounts = p.accounts ∧ (p.setJobState st).settlement = p.settlement ∧ (p.setJobState st).line
    = p.line ∧ (p.setJobState st).store.stored = p.store.stored ∧ (p.setJobState st).store.queue = p.store.queue ∧
    (p.setJobState st).store.pending = p.store.pending ∧ (p.setJobState st).store.work = p.store.work ∧ (p.setJobState
    st).journal = p.journal ∧ (p.setJobState st).alertOut = p.alertOut ∧ (p.setJobState st).outputs = p.outputs := by
  unfold Part.setJobState; (try dsimp only); (repeat' split) <;> simp

@[simp] theorem Part.postCheckpoint_frame (p : Part) : (p.postCheckpoint).phase = p.phase ∧ (p.postCheckpoint).resetPin =
    p.resetPin ∧ (p.postCheckpoint).now = p.now ∧ (p.postCheckpoint).config = p.config ∧ (p.postCheckpoint).job = p.job ∧
    (p.postCheckpoint).permit = p.permit ∧ (p.postCheckpoint).path = p.path ∧ (p.postCheckpoint).card = p.card ∧
    (p.postCheckpoint).holds = p.holds ∧ (p.postCheckpoint).accounts = p.accounts ∧ (p.postCheckpoint).settlement = p.settlement
    ∧ (p.postCheckpoint).line = p.line ∧ (p.postCheckpoint).store.stored = p.store.stored ∧ (p.postCheckpoint).store.work =
    p.store.work ∧ (p.postCheckpoint).journal = p.journal ∧ (p.postCheckpoint).panel = p.panel ∧ (p.postCheckpoint).alertOut =
    p.alertOut ∧ (p.postCheckpoint).outputs = p.outputs := by
  unfold Part.postCheckpoint; (try dsimp only); (repeat' split) <;> simp

@[simp] theorem Part.touchActivity_frame (p : Part) : (p.touchActivity).phase = p.phase ∧ (p.touchActivity).resetPin =
    p.resetPin ∧ (p.touchActivity).now = p.now ∧ (p.touchActivity).config = p.config ∧ (p.touchActivity).permit = p.permit ∧
    (p.touchActivity).path = p.path ∧ (p.touchActivity).card = p.card ∧ (p.touchActivity).holds = p.holds ∧
    (p.touchActivity).accounts = p.accounts ∧ (p.touchActivity).settlement = p.settlement ∧ (p.touchActivity).line = p.line ∧
    (p.touchActivity).store.stored = p.store.stored ∧ (p.touchActivity).store.queue = p.store.queue ∧
    (p.touchActivity).store.pending = p.store.pending ∧ (p.touchActivity).store.work = p.store.work ∧ (p.touchActivity).journal
    = p.journal ∧ (p.touchActivity).panel = p.panel ∧ (p.touchActivity).alertOut = p.alertOut ∧ (p.touchActivity).outputs =
    p.outputs := by
  unfold Part.touchActivity; (try dsimp only); (repeat' split) <;> simp

@[simp] theorem Part.armKeep_frame (p : Part) : (p.armKeep).phase = p.phase ∧ (p.armKeep).resetPin = p.resetPin ∧
    (p.armKeep).now = p.now ∧ (p.armKeep).config = p.config ∧ (p.armKeep).permit = p.permit ∧ (p.armKeep).path = p.path ∧
    (p.armKeep).card = p.card ∧ (p.armKeep).holds = p.holds ∧ (p.armKeep).accounts = p.accounts ∧ (p.armKeep).settlement =
    p.settlement ∧ (p.armKeep).line = p.line ∧ (p.armKeep).store.stored = p.store.stored ∧ (p.armKeep).store.queue =
    p.store.queue ∧ (p.armKeep).store.pending = p.store.pending ∧ (p.armKeep).store.work = p.store.work ∧ (p.armKeep).journal =
    p.journal ∧ (p.armKeep).panel = p.panel ∧ (p.armKeep).alertOut = p.alertOut ∧ (p.armKeep).outputs = p.outputs := by
  unfold Part.armKeep; (try dsimp only); (repeat' split) <;> simp

@[simp] theorem Part.enterReady_frame (p : Part) : (p.enterReady).phase = p.phase ∧ (p.enterReady).resetPin = p.resetPin ∧
    (p.enterReady).now = p.now ∧ (p.enterReady).config = p.config ∧ (p.enterReady).permit = p.permit ∧ (p.enterReady).path =
    p.path ∧ (p.enterReady).card = p.card ∧ (p.enterReady).holds = p.holds ∧ (p.enterReady).accounts = p.accounts ∧
    (p.enterReady).settlement = p.settlement ∧ (p.enterReady).line = p.line ∧ (p.enterReady).store.stored = p.store.stored ∧
    (p.enterReady).store.work = p.store.work ∧ (p.enterReady).journal = p.journal ∧ (p.enterReady).alertOut = p.alertOut ∧
    (p.enterReady).outputs = p.outputs := by
  unfold Part.enterReady; (try dsimp only); (repeat' split) <;> simp

@[simp] theorem Part.takeJob_frame (p : Part) : (p.takeJob).phase = p.phase ∧ (p.takeJob).resetPin = p.resetPin ∧
    (p.takeJob).now = p.now ∧ (p.takeJob).config = p.config ∧ (p.takeJob).permit = p.permit ∧ (p.takeJob).path = p.path ∧
    (p.takeJob).card = p.card ∧ (p.takeJob).holds = p.holds ∧ (p.takeJob).accounts = p.accounts ∧ (p.takeJob).settlement =
    p.settlement ∧ (p.takeJob).line = p.line ∧ (p.takeJob).store.stored = p.store.stored ∧ (p.takeJob).store.work = p.store.work
    ∧ (p.takeJob).panel = p.panel ∧ (p.takeJob).alertOut = p.alertOut ∧ (p.takeJob).outputs = p.outputs := by
  unfold Part.takeJob; (try dsimp only); (repeat' split) <;> simp

@[simp] theorem Part.askAttempt_frame (p : Part) : (p.askAttempt).phase = p.phase ∧ (p.askAttempt).resetPin = p.resetPin ∧
    (p.askAttempt).now = p.now ∧ (p.askAttempt).line.inbound = p.line.inbound ∧ (p.askAttempt).config = p.config ∧
    (p.askAttempt).permit = p.permit ∧ (p.askAttempt).path = p.path ∧ (p.askAttempt).card = p.card ∧ (p.askAttempt).holds
    = p.holds ∧ (p.askAttempt).accounts = p.accounts ∧ (p.askAttempt).settlement = p.settlement ∧
    (p.askAttempt).store.stored = p.store.stored ∧ (p.askAttempt).store.queue = p.store.queue ∧
    (p.askAttempt).store.pending = p.store.pending ∧ (p.askAttempt).store.work = p.store.work ∧ (p.askAttempt).journal =
    p.journal ∧ (p.askAttempt).panel = p.panel ∧ (p.askAttempt).alertOut = p.alertOut ∧ (p.askAttempt).outputs = p.outputs := by
  unfold Part.askAttempt Part.enqueue; (repeat' split) <;> simp

@[simp] theorem Part.openAccountJob_frame (p : Part) (a h : Nat) : (p.openAccountJob a h).phase = p.phase ∧
    (p.openAccountJob a h).resetPin = p.resetPin ∧ (p.openAccountJob a h).now = p.now ∧ (p.openAccountJob a
    h).line.inbound = p.line.inbound ∧ (p.openAccountJob a h).config = p.config ∧ (p.openAccountJob a h).permit = p.permit
    ∧ (p.openAccountJob a h).path = p.path ∧ (p.openAccountJob a h).card = p.card ∧ (p.openAccountJob a h).holds = p.holds
    ∧ (p.openAccountJob a h).accounts = p.accounts ∧ (p.openAccountJob a h).store.stored = p.store.stored ∧
    (p.openAccountJob a h).alertOut = p.alertOut ∧ (p.openAccountJob a h).outputs = p.outputs := by
  unfold Part.openAccountJob; (try dsimp only); (repeat' split) <;> simp

@[simp] theorem Part.openValueJob_frame (p : Part) (v : ValueCard) : (p.openValueJob v).phase = p.phase ∧ (p.openValueJob
    v).resetPin = p.resetPin ∧ (p.openValueJob v).now = p.now ∧ (p.openValueJob v).config = p.config ∧ (p.openValueJob v).permit
    = p.permit ∧ (p.openValueJob v).path = p.path ∧ (p.openValueJob v).holds = p.holds ∧ (p.openValueJob v).accounts =
    p.accounts ∧ (p.openValueJob v).settlement = p.settlement ∧ (p.openValueJob v).line = p.line ∧ (p.openValueJob
    v).store.stored = p.store.stored ∧ (p.openValueJob v).store.work = p.store.work ∧ (p.openValueJob v).alertOut = p.alertOut
    := by
  unfold Part.openValueJob; (try dsimp only); (repeat' split) <;> simp

@[simp] theorem Part.clearJob_frame (p : Part) : (p.clearJob).phase = p.phase ∧ (p.clearJob).resetPin = p.resetPin ∧
    (p.clearJob).now = p.now ∧ (p.clearJob).config = p.config ∧ (p.clearJob).permit = p.permit ∧ (p.clearJob).path = p.path ∧
    (p.clearJob).card = p.card ∧ (p.clearJob).holds = p.holds ∧ (p.clearJob).accounts = p.accounts ∧ (p.clearJob).settlement =
    p.settlement ∧ (p.clearJob).line = p.line ∧ (p.clearJob).store.stored = p.store.stored ∧ (p.clearJob).store.queue =
    p.store.queue ∧ (p.clearJob).store.pending = p.store.pending ∧ (p.clearJob).store.work = p.store.work ∧ (p.clearJob).journal
    = p.journal ∧ (p.clearJob).alertOut = p.alertOut ∧ (p.clearJob).outputs = p.outputs := by
  unfold Part.clearJob; (try dsimp only); (repeat' split) <;> simp

@[simp] theorem Part.denyJob_frame (p : Part) (r : Reject) : (p.denyJob r).phase = p.phase ∧ (p.denyJob r).resetPin =
    p.resetPin ∧ (p.denyJob r).now = p.now ∧ (p.denyJob r).config = p.config ∧ (p.denyJob r).permit = p.permit ∧ (p.denyJob
    r).path = p.path ∧ (p.denyJob r).card = p.card ∧ (p.denyJob r).holds = p.holds ∧ (p.denyJob r).accounts = p.accounts ∧
    (p.denyJob r).line = p.line ∧ (p.denyJob r).store.stored = p.store.stored ∧ (p.denyJob r).store.queue = p.store.queue ∧
    (p.denyJob r).store.pending = p.store.pending ∧ (p.denyJob r).store.work = p.store.work ∧ (p.denyJob r).alertOut =
    p.alertOut ∧ (p.denyJob r).outputs = p.outputs := by
  unfold Part.denyJob; (try dsimp only); (repeat' split) <;> simp

@[simp] theorem Part.floatDecision_frame (p : Part) : (p.floatDecision).phase = p.phase ∧ (p.floatDecision).resetPin =
    p.resetPin ∧ (p.floatDecision).now = p.now ∧ (p.floatDecision).config = p.config ∧ (p.floatDecision).permit = p.permit ∧
    (p.floatDecision).path = p.path ∧ (p.floatDecision).card = p.card ∧ (p.floatDecision).holds = p.holds ∧
    (p.floatDecision).accounts = p.accounts ∧ (p.floatDecision).line = p.line ∧ (p.floatDecision).store.stored = p.store.stored
    ∧ (p.floatDecision).store.work = p.store.work ∧ (p.floatDecision).alertOut = p.alertOut ∧ (p.floatDecision).outputs =
    p.outputs := by
  unfold Part.floatDecision; (try dsimp only); (repeat' split) <;> simp

@[simp] theorem Part.askAttemptEnded_frame (p : Part) : (p.askAttemptEnded).phase = p.phase ∧ (p.askAttemptEnded).resetPin
    = p.resetPin ∧ (p.askAttemptEnded).now = p.now ∧ (p.askAttemptEnded).line.inbound = p.line.inbound ∧
    (p.askAttemptEnded).config = p.config ∧ (p.askAttemptEnded).permit = p.permit ∧ (p.askAttemptEnded).path = p.path ∧
    (p.askAttemptEnded).card = p.card ∧ (p.askAttemptEnded).holds = p.holds ∧ (p.askAttemptEnded).accounts = p.accounts ∧
    (p.askAttemptEnded).store.stored = p.store.stored ∧ (p.askAttemptEnded).store.work = p.store.work ∧
    (p.askAttemptEnded).alertOut = p.alertOut ∧ (p.askAttemptEnded).outputs = p.outputs := by
  unfold Part.askAttemptEnded; (try dsimp only); (repeat' split) <;> simp

@[simp] theorem Part.topupAttempt_frame (p : Part) : (p.topupAttempt).phase = p.phase ∧ (p.topupAttempt).resetPin =
    p.resetPin ∧ (p.topupAttempt).now = p.now ∧ (p.topupAttempt).line.inbound = p.line.inbound ∧ (p.topupAttempt).config =
    p.config ∧ (p.topupAttempt).permit = p.permit ∧ (p.topupAttempt).path = p.path ∧ (p.topupAttempt).card = p.card ∧
    (p.topupAttempt).holds = p.holds ∧ (p.topupAttempt).accounts = p.accounts ∧ (p.topupAttempt).settlement = p.settlement
    ∧ (p.topupAttempt).store.stored = p.store.stored ∧ (p.topupAttempt).store.queue = p.store.queue ∧
    (p.topupAttempt).store.pending = p.store.pending ∧ (p.topupAttempt).store.work = p.store.work ∧
    (p.topupAttempt).journal = p.journal ∧ (p.topupAttempt).panel = p.panel ∧ (p.topupAttempt).alertOut = p.alertOut ∧
    (p.topupAttempt).outputs = p.outputs := by
  unfold Part.topupAttempt Part.enqueue; (repeat' split) <;> simp

@[simp] theorem Part.topupLocal_frame (p : Part) : (p.topupLocal).phase = p.phase ∧ (p.topupLocal).resetPin = p.resetPin ∧
    (p.topupLocal).now = p.now ∧ (p.topupLocal).config = p.config ∧ (p.topupLocal).permit = p.permit ∧ (p.topupLocal).path =
    p.path ∧ (p.topupLocal).card = p.card ∧ (p.topupLocal).holds = p.holds ∧ (p.topupLocal).accounts = p.accounts ∧
    (p.topupLocal).settlement = p.settlement ∧ (p.topupLocal).line = p.line ∧ (p.topupLocal).store.stored = p.store.stored ∧
    (p.topupLocal).store.queue = p.store.queue ∧ (p.topupLocal).store.pending = p.store.pending ∧ (p.topupLocal).journal =
    p.journal ∧ (p.topupLocal).panel = p.panel ∧ (p.topupLocal).alertOut = p.alertOut ∧ (p.topupLocal).outputs = p.outputs := by
  unfold Part.topupLocal; (try dsimp only); (repeat' split) <;> simp

@[simp] theorem Part.exhaust_frame (p : Part) (c : FundsCause) : (p.exhaust c).phase = p.phase ∧ (p.exhaust c).resetPin =
    p.resetPin ∧ (p.exhaust c).now = p.now ∧ (p.exhaust c).config = p.config ∧ (p.exhaust c).permit = p.permit ∧ (p.exhaust
    c).path = p.path ∧ (p.exhaust c).card = p.card ∧ (p.exhaust c).holds = p.holds ∧ (p.exhaust c).accounts = p.accounts ∧
    (p.exhaust c).settlement = p.settlement ∧ (p.exhaust c).line = p.line ∧ (p.exhaust c).store.stored = p.store.stored ∧
    (p.exhaust c).store.queue = p.store.queue ∧ (p.exhaust c).store.pending = p.store.pending ∧ (p.exhaust c).store.work =
    p.store.work ∧ (p.exhaust c).journal = p.journal ∧ (p.exhaust c).alertOut = p.alertOut ∧ (p.exhaust c).outputs = p.outputs
    := by
  unfold Part.exhaust; (try dsimp only); (repeat' split) <;> simp

@[simp] theorem Part.topupDenied_frame (p : Part) : (p.topupDenied).phase = p.phase ∧ (p.topupDenied).resetPin = p.resetPin
    ∧ (p.topupDenied).now = p.now ∧ (p.topupDenied).config = p.config ∧ (p.topupDenied).permit = p.permit ∧ (p.topupDenied).path
    = p.path ∧ (p.topupDenied).card = p.card ∧ (p.topupDenied).holds = p.holds ∧ (p.topupDenied).accounts = p.accounts ∧
    (p.topupDenied).settlement = p.settlement ∧ (p.topupDenied).line = p.line ∧ (p.topupDenied).store.stored = p.store.stored ∧
    (p.topupDenied).store.queue = p.store.queue ∧ (p.topupDenied).store.pending = p.store.pending ∧ (p.topupDenied).store.work =
    p.store.work ∧ (p.topupDenied).journal = p.journal ∧ (p.topupDenied).alertOut = p.alertOut ∧ (p.topupDenied).outputs =
    p.outputs := by
  unfold Part.topupDenied; (try dsimp only); (repeat' split) <;> simp

@[simp] theorem Part.topupAttemptEnded_frame (p : Part) : (p.topupAttemptEnded).phase = p.phase ∧
    (p.topupAttemptEnded).resetPin = p.resetPin ∧ (p.topupAttemptEnded).now = p.now ∧ (p.topupAttemptEnded).line.inbound =
    p.line.inbound ∧ (p.topupAttemptEnded).config = p.config ∧ (p.topupAttemptEnded).permit = p.permit ∧
    (p.topupAttemptEnded).path = p.path ∧ (p.topupAttemptEnded).card = p.card ∧ (p.topupAttemptEnded).holds = p.holds ∧
    (p.topupAttemptEnded).accounts = p.accounts ∧ (p.topupAttemptEnded).settlement = p.settlement ∧
    (p.topupAttemptEnded).store.stored = p.store.stored ∧ (p.topupAttemptEnded).store.queue = p.store.queue ∧
    (p.topupAttemptEnded).store.pending = p.store.pending ∧ (p.topupAttemptEnded).store.work = p.store.work ∧
    (p.topupAttemptEnded).journal = p.journal ∧ (p.topupAttemptEnded).alertOut = p.alertOut ∧
    (p.topupAttemptEnded).outputs = p.outputs := by
  unfold Part.topupAttemptEnded; (try dsimp only); (repeat' split) <;> simp

@[simp] theorem Part.reactFunds_frame (p : Part) : (p.reactFunds).phase = p.phase ∧ (p.reactFunds).resetPin = p.resetPin ∧
    (p.reactFunds).now = p.now ∧ (p.reactFunds).line.inbound = p.line.inbound ∧ (p.reactFunds).config = p.config ∧
    (p.reactFunds).permit = p.permit ∧ (p.reactFunds).path = p.path ∧ (p.reactFunds).card = p.card ∧ (p.reactFunds).holds
    = p.holds ∧ (p.reactFunds).accounts = p.accounts ∧ (p.reactFunds).settlement = p.settlement ∧
    (p.reactFunds).store.stored = p.store.stored ∧ (p.reactFunds).store.queue = p.store.queue ∧
    (p.reactFunds).store.pending = p.store.pending ∧ (p.reactFunds).journal = p.journal ∧ (p.reactFunds).alertOut =
    p.alertOut ∧ (p.reactFunds).outputs = p.outputs := by
  unfold Part.reactFunds; (try dsimp only); (repeat' split) <;> simp

@[simp] theorem Part.completeHandOff_frame (p : Part) (st : JournalStatus) : (p.completeHandOff st).phase = p.phase ∧
    (p.completeHandOff st).resetPin = p.resetPin ∧ (p.completeHandOff st).now = p.now ∧ (p.completeHandOff st).config = p.config
    ∧ (p.completeHandOff st).job = p.job ∧ (p.completeHandOff st).permit = p.permit ∧ (p.completeHandOff st).path = p.path ∧
    (p.completeHandOff st).card = p.card ∧ (p.completeHandOff st).holds = p.holds ∧ (p.completeHandOff st).accounts = p.accounts
    ∧ (p.completeHandOff st).settlement = p.settlement ∧ (p.completeHandOff st).line = p.line ∧ (p.completeHandOff
    st).store.stored = p.store.stored ∧ (p.completeHandOff st).store.queue = p.store.queue ∧ (p.completeHandOff
    st).store.pending = p.store.pending ∧ (p.completeHandOff st).journal = p.journal ∧ (p.completeHandOff st).panel = p.panel ∧
    (p.completeHandOff st).alertOut = p.alertOut ∧ (p.completeHandOff st).outputs = p.outputs := by
  unfold Part.completeHandOff; (try dsimp only); (repeat' split) <;> simp

@[simp] theorem Part.closeSession_frame (p : Part) (st : JournalStatus) : (p.closeSession st).phase = p.phase ∧
    (p.closeSession st).resetPin = p.resetPin ∧ (p.closeSession st).now = p.now ∧ (p.closeSession st).config = p.config ∧
    (p.closeSession st).job = p.job ∧ (p.closeSession st).permit = p.permit ∧ (p.closeSession st).path = p.path ∧
    (p.closeSession st).holds = p.holds ∧ (p.closeSession st).accounts = p.accounts ∧ (p.closeSession st).settlement =
    p.settlement ∧ (p.closeSession st).line = p.line ∧ (p.closeSession st).store.stored = p.store.stored ∧ (p.closeSession
    st).store.queue = p.store.queue ∧ (p.closeSession st).store.pending = p.store.pending ∧ (p.closeSession st).journal =
    p.journal ∧ (p.closeSession st).panel = p.panel ∧ (p.closeSession st).alertOut = p.alertOut := by
  unfold Part.closeSession; (try dsimp only); (repeat' split) <;> simp

@[simp] theorem Part.handOffCard_frame (p : Part) (c : Nat) : (p.handOffCard c).phase = p.phase ∧ (p.handOffCard c).resetPin
    = p.resetPin ∧ (p.handOffCard c).now = p.now ∧ (p.handOffCard c).config = p.config ∧ (p.handOffCard c).job = p.job ∧
    (p.handOffCard c).permit = p.permit ∧ (p.handOffCard c).path = p.path ∧ (p.handOffCard c).holds = p.holds ∧ (p.handOffCard
    c).accounts = p.accounts ∧ (p.handOffCard c).settlement = p.settlement ∧ (p.handOffCard c).line = p.line ∧ (p.handOffCard
    c).store.stored = p.store.stored ∧ (p.handOffCard c).store.queue = p.store.queue ∧ (p.handOffCard c).store.pending =
    p.store.pending ∧ (p.handOffCard c).journal = p.journal ∧ (p.handOffCard c).panel = p.panel ∧ (p.handOffCard c).alertOut =
    p.alertOut := by
  unfold Part.handOffCard; (try dsimp only); (repeat' split) <;> simp

@[simp] theorem Part.requestSettlement_frame (p : Part) (r : Settlement) : (p.requestSettlement r).phase = p.phase ∧
    (p.requestSettlement r).resetPin = p.resetPin ∧ (p.requestSettlement r).now = p.now ∧ (p.requestSettlement r).config =
    p.config ∧ (p.requestSettlement r).job = p.job ∧ (p.requestSettlement r).permit = p.permit ∧ (p.requestSettlement r).path =
    p.path ∧ (p.requestSettlement r).card = p.card ∧ (p.requestSettlement r).holds = p.holds ∧ (p.requestSettlement r).accounts
    = p.accounts ∧ (p.requestSettlement r).line = p.line ∧ (p.requestSettlement r).store.stored = p.store.stored ∧
    (p.requestSettlement r).store.queue = p.store.queue ∧ (p.requestSettlement r).store.pending = p.store.pending ∧
    (p.requestSettlement r).journal = p.journal ∧ (p.requestSettlement r).panel = p.panel ∧ (p.requestSettlement r).alertOut =
    p.alertOut ∧ (p.requestSettlement r).outputs = p.outputs := by
  unfold Part.requestSettlement; (try dsimp only); (repeat' split) <;> simp

@[simp] theorem Part.handOff_frame (p : Part) (c : Nat) : (p.handOff c).phase = p.phase ∧ (p.handOff c).resetPin =
    p.resetPin ∧ (p.handOff c).now = p.now ∧ (p.handOff c).config = p.config ∧ (p.handOff c).job = p.job ∧ (p.handOff c).permit
    = p.permit ∧ (p.handOff c).path = p.path ∧ (p.handOff c).holds = p.holds ∧ (p.handOff c).accounts = p.accounts ∧ (p.handOff
    c).line = p.line ∧ (p.handOff c).store.stored = p.store.stored ∧ (p.handOff c).store.queue = p.store.queue ∧ (p.handOff
    c).store.pending = p.store.pending ∧ (p.handOff c).journal = p.journal ∧ (p.handOff c).panel = p.panel ∧ (p.handOff
    c).alertOut = p.alertOut := by
  unfold Part.handOff; (try dsimp only); (repeat' split) <;> simp

@[simp] theorem Part.enterSettling_frame (p : Part) : (p.enterSettling).phase = p.phase ∧ (p.enterSettling).resetPin =
    p.resetPin ∧ (p.enterSettling).now = p.now ∧ (p.enterSettling).config = p.config ∧ (p.enterSettling).path = p.path ∧
    (p.enterSettling).holds = p.holds ∧ (p.enterSettling).accounts = p.accounts ∧ (p.enterSettling).line = p.line ∧
    (p.enterSettling).store.stored = p.store.stored ∧ (p.enterSettling).store.queue = p.store.queue ∧
    (p.enterSettling).store.pending = p.store.pending ∧ (p.enterSettling).journal = p.journal ∧ (p.enterSettling).alertOut =
    p.alertOut := by
  unfold Part.enterSettling; (try dsimp only); (repeat' split) <;> simp

@[simp] theorem Part.endJob_frame (p : Part) (r : EndReason) : (p.endJob r).phase = p.phase ∧ (p.endJob r).resetPin =
    p.resetPin ∧ (p.endJob r).now = p.now ∧ (p.endJob r).config = p.config ∧ (p.endJob r).path = p.path ∧ (p.endJob r).holds =
    p.holds ∧ (p.endJob r).accounts = p.accounts ∧ (p.endJob r).line = p.line ∧ (p.endJob r).store.stored = p.store.stored ∧
    (p.endJob r).store.queue = p.store.queue ∧ (p.endJob r).store.pending = p.store.pending ∧ (p.endJob r).journal = p.journal ∧
    (p.endJob r).alertOut = p.alertOut := by
  unfold Part.endJob; (try dsimp only); (repeat' split) <;> simp

@[simp] theorem Part.markDrain_frame (p : Part) (r : EndReason) : (p.markDrain r).phase = p.phase ∧ (p.markDrain r).resetPin
    = p.resetPin ∧ (p.markDrain r).now = p.now ∧ (p.markDrain r).config = p.config ∧ (p.markDrain r).permit = p.permit ∧
    (p.markDrain r).path = p.path ∧ (p.markDrain r).card = p.card ∧ (p.markDrain r).holds = p.holds ∧ (p.markDrain r).accounts =
    p.accounts ∧ (p.markDrain r).settlement = p.settlement ∧ (p.markDrain r).line = p.line ∧ (p.markDrain r).store.stored =
    p.store.stored ∧ (p.markDrain r).store.queue = p.store.queue ∧ (p.markDrain r).store.pending = p.store.pending ∧
    (p.markDrain r).store.work = p.store.work ∧ (p.markDrain r).journal = p.journal ∧ (p.markDrain r).panel = p.panel ∧
    (p.markDrain r).alertOut = p.alertOut ∧ (p.markDrain r).outputs = p.outputs := by
  unfold Part.markDrain; (try dsimp only); (repeat' split) <;> simp

@[simp] theorem Part.reactRunOut_frame (p : Part) : (p.reactRunOut).phase = p.phase ∧ (p.reactRunOut).resetPin = p.resetPin
    ∧ (p.reactRunOut).now = p.now ∧ (p.reactRunOut).config = p.config ∧ (p.reactRunOut).permit = p.permit ∧ (p.reactRunOut).path
    = p.path ∧ (p.reactRunOut).card = p.card ∧ (p.reactRunOut).holds = p.holds ∧ (p.reactRunOut).accounts = p.accounts ∧
    (p.reactRunOut).settlement = p.settlement ∧ (p.reactRunOut).line = p.line ∧ (p.reactRunOut).store.stored = p.store.stored ∧
    (p.reactRunOut).store.queue = p.store.queue ∧ (p.reactRunOut).store.pending = p.store.pending ∧ (p.reactRunOut).store.work =
    p.store.work ∧ (p.reactRunOut).journal = p.journal ∧ (p.reactRunOut).panel = p.panel ∧ (p.reactRunOut).alertOut = p.alertOut
    ∧ (p.reactRunOut).outputs = p.outputs := by
  unfold Part.reactRunOut; (try dsimp only); (repeat' split) <;> simp

@[simp] theorem Part.reactDrain_frame (p : Part) : (p.reactDrain).phase = p.phase ∧ (p.reactDrain).resetPin = p.resetPin ∧
    (p.reactDrain).now = p.now ∧ (p.reactDrain).config = p.config ∧ (p.reactDrain).path = p.path ∧ (p.reactDrain).holds =
    p.holds ∧ (p.reactDrain).accounts = p.accounts ∧ (p.reactDrain).line = p.line ∧ (p.reactDrain).store.stored = p.store.stored
    ∧ (p.reactDrain).store.queue = p.store.queue ∧ (p.reactDrain).store.pending = p.store.pending ∧ (p.reactDrain).journal =
    p.journal ∧ (p.reactDrain).alertOut = p.alertOut := by
  unfold Part.reactDrain; (try dsimp only); (repeat' split) <;> simp

@[simp] theorem Part.react_frame (p : Part) : (p.react).phase = p.phase ∧ (p.react).resetPin = p.resetPin ∧ (p.react).now
    = p.now ∧ (p.react).line.inbound = p.line.inbound ∧ (p.react).config = p.config ∧ (p.react).path = p.path ∧
    (p.react).holds = p.holds ∧ (p.react).accounts = p.accounts ∧ (p.react).store.stored = p.store.stored ∧
    (p.react).store.queue = p.store.queue ∧ (p.react).store.pending = p.store.pending ∧ (p.react).journal = p.journal ∧
    (p.react).alertOut = p.alertOut := by
  unfold Part.react; (try dsimp only); (repeat' split) <;> simp

@[simp] theorem Part.idleEnd_frame (p : Part) : (p.idleEnd).phase = p.phase ∧ (p.idleEnd).resetPin = p.resetPin ∧
    (p.idleEnd).now = p.now ∧ (p.idleEnd).config = p.config ∧ (p.idleEnd).path = p.path ∧ (p.idleEnd).holds = p.holds ∧
    (p.idleEnd).accounts = p.accounts ∧ (p.idleEnd).line = p.line ∧ (p.idleEnd).store.stored = p.store.stored ∧
    (p.idleEnd).store.queue = p.store.queue ∧ (p.idleEnd).store.pending = p.store.pending ∧ (p.idleEnd).journal = p.journal ∧
    (p.idleEnd).alertOut = p.alertOut := by
  unfold Part.idleEnd; (try dsimp only); (repeat' split) <;> simp

@[simp] theorem Part.adopt_frame (p : Part) (h a c l : Nat) : (p.adopt h a c l).phase = p.phase ∧ (p.adopt h a c l).resetPin
    = p.resetPin ∧ (p.adopt h a c l).now = p.now ∧ (p.adopt h a c l).config = p.config ∧ (p.adopt h a c l).permit = p.permit ∧
    (p.adopt h a c l).path = p.path ∧ (p.adopt h a c l).card = p.card ∧ (p.adopt h a c l).holds = p.holds ∧ (p.adopt h a c
    l).accounts = p.accounts ∧ (p.adopt h a c l).line = p.line ∧ (p.adopt h a c l).store.stored = p.store.stored ∧ (p.adopt h a
    c l).store.work = p.store.work ∧ (p.adopt h a c l).journal = p.journal ∧ (p.adopt h a c l).panel = p.panel ∧ (p.adopt h a c
    l).alertOut = p.alertOut ∧ (p.adopt h a c l).outputs = p.outputs := by
  unfold Part.adopt; (try dsimp only); (repeat' split) <;> simp

@[simp] theorem Part.topupGranted_frame (p : Part) (a : Nat) : (p.topupGranted a).phase = p.phase ∧ (p.topupGranted
    a).resetPin = p.resetPin ∧ (p.topupGranted a).now = p.now ∧ (p.topupGranted a).config = p.config ∧ (p.topupGranted a).permit
    = p.permit ∧ (p.topupGranted a).path = p.path ∧ (p.topupGranted a).card = p.card ∧ (p.topupGranted a).holds = p.holds ∧
    (p.topupGranted a).accounts = p.accounts ∧ (p.topupGranted a).settlement = p.settlement ∧ (p.topupGranted a).line = p.line ∧
    (p.topupGranted a).store.stored = p.store.stored ∧ (p.topupGranted a).store.work = p.store.work ∧ (p.topupGranted a).journal
    = p.journal ∧ (p.topupGranted a).panel = p.panel ∧ (p.topupGranted a).alertOut = p.alertOut ∧ (p.topupGranted a).outputs =
    p.outputs := by
  unfold Part.topupGranted; (try dsimp only); (repeat' split) <;> simp

@[simp] theorem Part.jobGive_frame (p : Part) (h a c l : Nat) : (p.jobGive h a c l).phase = p.phase ∧ (p.jobGive h a c
    l).resetPin = p.resetPin ∧ (p.jobGive h a c l).now = p.now ∧ (p.jobGive h a c l).config = p.config ∧ (p.jobGive h a c
    l).permit = p.permit ∧ (p.jobGive h a c l).path = p.path ∧ (p.jobGive h a c l).card = p.card ∧ (p.jobGive h a c l).holds =
    p.holds ∧ (p.jobGive h a c l).accounts = p.accounts ∧ (p.jobGive h a c l).line = p.line ∧ (p.jobGive h a c l).store.stored =
    p.store.stored ∧ (p.jobGive h a c l).store.work = p.store.work ∧ (p.jobGive h a c l).journal = p.journal ∧ (p.jobGive h a c
    l).alertOut = p.alertOut ∧ (p.jobGive h a c l).outputs = p.outputs := by
  unfold Part.jobGive; (try dsimp only); (repeat' split) <;> simp

@[simp] theorem Part.jobDeny_frame (p : Part) (r : Nat) : (p.jobDeny r).phase = p.phase ∧ (p.jobDeny r).resetPin =
    p.resetPin ∧ (p.jobDeny r).now = p.now ∧ (p.jobDeny r).config = p.config ∧ (p.jobDeny r).permit = p.permit ∧ (p.jobDeny
    r).path = p.path ∧ (p.jobDeny r).card = p.card ∧ (p.jobDeny r).holds = p.holds ∧ (p.jobDeny r).accounts = p.accounts ∧
    (p.jobDeny r).line = p.line ∧ (p.jobDeny r).store.stored = p.store.stored ∧ (p.jobDeny r).store.queue = p.store.queue ∧
    (p.jobDeny r).store.pending = p.store.pending ∧ (p.jobDeny r).store.work = p.store.work ∧ (p.jobDeny r).alertOut =
    p.alertOut ∧ (p.jobDeny r).outputs = p.outputs := by
  unfold Part.jobDeny; (try dsimp only); (repeat' split) <;> simp

@[simp] theorem Part.jobGone_frame (p : Part) (h : Nat) : (p.jobGone h).phase = p.phase ∧ (p.jobGone h).resetPin =
    p.resetPin ∧ (p.jobGone h).now = p.now ∧ (p.jobGone h).config = p.config ∧ (p.jobGone h).path = p.path ∧ (p.jobGone h).holds
    = p.holds ∧ (p.jobGone h).accounts = p.accounts ∧ (p.jobGone h).line = p.line ∧ (p.jobGone h).store.stored = p.store.stored
    ∧ (p.jobGone h).store.queue = p.store.queue ∧ (p.jobGone h).store.pending = p.store.pending ∧ (p.jobGone h).journal =
    p.journal ∧ (p.jobGone h).alertOut = p.alertOut := by
  unfold Part.jobGone; (try dsimp only); (repeat' split) <;> simp

@[simp] theorem Part.dropCancelled_frame (p : Part) : (p.dropCancelled).phase = p.phase ∧ (p.dropCancelled).resetPin =
    p.resetPin ∧ (p.dropCancelled).now = p.now ∧ (p.dropCancelled).config = p.config ∧ (p.dropCancelled).job = p.job ∧
    (p.dropCancelled).permit = p.permit ∧ (p.dropCancelled).path = p.path ∧ (p.dropCancelled).card = p.card ∧
    (p.dropCancelled).holds = p.holds ∧ (p.dropCancelled).accounts = p.accounts ∧ (p.dropCancelled).line = p.line ∧
    (p.dropCancelled).store.stored = p.store.stored ∧ (p.dropCancelled).store.queue = p.store.queue ∧
    (p.dropCancelled).store.pending = p.store.pending ∧ (p.dropCancelled).store.work = p.store.work ∧ (p.dropCancelled).journal
    = p.journal ∧ (p.dropCancelled).panel = p.panel ∧ (p.dropCancelled).alertOut = p.alertOut ∧ (p.dropCancelled).outputs =
    p.outputs := by
  unfold Part.dropCancelled; (try dsimp only); (repeat' split) <;> simp

@[simp] theorem Part.cancelledGive_frame (p : Part) (src h j : Nat) : (p.cancelledGive src h j).phase = p.phase ∧
    (p.cancelledGive src h j).resetPin = p.resetPin ∧ (p.cancelledGive src h j).now = p.now ∧ (p.cancelledGive src h j).config =
    p.config ∧ (p.cancelledGive src h j).job = p.job ∧ (p.cancelledGive src h j).permit = p.permit ∧ (p.cancelledGive src h
    j).path = p.path ∧ (p.cancelledGive src h j).card = p.card ∧ (p.cancelledGive src h j).holds = p.holds ∧ (p.cancelledGive
    src h j).accounts = p.accounts ∧ (p.cancelledGive src h j).line = p.line ∧ (p.cancelledGive src h j).store.stored =
    p.store.stored ∧ (p.cancelledGive src h j).store.queue = p.store.queue ∧ (p.cancelledGive src h j).store.pending =
    p.store.pending ∧ (p.cancelledGive src h j).journal = p.journal ∧ (p.cancelledGive src h j).panel = p.panel ∧
    (p.cancelledGive src h j).alertOut = p.alertOut ∧ (p.cancelledGive src h j).outputs = p.outputs := by
  unfold Part.cancelledGive; (try dsimp only); (repeat' split) <;> simp

@[simp] theorem Part.takeGive_frame (p : Part) (src h j a c l : Nat) : (p.takeGive src h j a c l).phase = p.phase ∧
    (p.takeGive src h j a c l).resetPin = p.resetPin ∧ (p.takeGive src h j a c l).now = p.now ∧ (p.takeGive src h j a c
    l).config = p.config ∧ (p.takeGive src h j a c l).permit = p.permit ∧ (p.takeGive src h j a c l).path = p.path ∧ (p.takeGive
    src h j a c l).card = p.card ∧ (p.takeGive src h j a c l).holds = p.holds ∧ (p.takeGive src h j a c l).accounts = p.accounts
    ∧ (p.takeGive src h j a c l).line = p.line ∧ (p.takeGive src h j a c l).store.stored = p.store.stored ∧ (p.takeGive src h j
    a c l).journal = p.journal ∧ (p.takeGive src h j a c l).alertOut = p.alertOut ∧ (p.takeGive src h j a c l).outputs =
    p.outputs := by
  unfold Part.takeGive; (try dsimp only); (repeat' split) <;> simp

@[simp] theorem Part.takeDeny_frame (p : Part) (src j r : Nat) : (p.takeDeny src j r).phase = p.phase ∧ (p.takeDeny src j
    r).resetPin = p.resetPin ∧ (p.takeDeny src j r).now = p.now ∧ (p.takeDeny src j r).config = p.config ∧ (p.takeDeny src j
    r).permit = p.permit ∧ (p.takeDeny src j r).path = p.path ∧ (p.takeDeny src j r).card = p.card ∧ (p.takeDeny src j r).holds
    = p.holds ∧ (p.takeDeny src j r).accounts = p.accounts ∧ (p.takeDeny src j r).line = p.line ∧ (p.takeDeny src j
    r).store.stored = p.store.stored ∧ (p.takeDeny src j r).store.queue = p.store.queue ∧ (p.takeDeny src j r).store.pending =
    p.store.pending ∧ (p.takeDeny src j r).store.work = p.store.work ∧ (p.takeDeny src j r).alertOut = p.alertOut ∧ (p.takeDeny
    src j r).outputs = p.outputs := by
  unfold Part.takeDeny; (try dsimp only); (repeat' split) <;> simp

@[simp] theorem Part.takeGone_frame (p : Part) (src h j : Nat) : (p.takeGone src h j).phase = p.phase ∧ (p.takeGone src h
    j).resetPin = p.resetPin ∧ (p.takeGone src h j).now = p.now ∧ (p.takeGone src h j).config = p.config ∧ (p.takeGone src h
    j).path = p.path ∧ (p.takeGone src h j).holds = p.holds ∧ (p.takeGone src h j).accounts = p.accounts ∧ (p.takeGone src h
    j).line = p.line ∧ (p.takeGone src h j).store.stored = p.store.stored ∧ (p.takeGone src h j).store.queue = p.store.queue ∧
    (p.takeGone src h j).store.pending = p.store.pending ∧ (p.takeGone src h j).journal = p.journal ∧ (p.takeGone src h
    j).alertOut = p.alertOut := by
  unfold Part.takeGone; (try dsimp only); (repeat' split) <;> simp

@[simp] theorem Part.sendFailed_frame (p : Part) (t : Nat) : (p.sendFailed t).phase = p.phase ∧ (p.sendFailed t).resetPin
    = p.resetPin ∧ (p.sendFailed t).now = p.now ∧ (p.sendFailed t).line.inbound = p.line.inbound ∧ (p.sendFailed t).config
    = p.config ∧ (p.sendFailed t).permit = p.permit ∧ (p.sendFailed t).path = p.path ∧ (p.sendFailed t).card = p.card ∧
    (p.sendFailed t).holds = p.holds ∧ (p.sendFailed t).accounts = p.accounts ∧ (p.sendFailed t).store.stored =
    p.store.stored ∧ (p.sendFailed t).store.work = p.store.work ∧ (p.sendFailed t).alertOut = p.alertOut ∧ (p.sendFailed
    t).outputs = p.outputs := by
  unfold Part.sendFailed; (try dsimp only); (repeat' split) <;> simp

@[simp] theorem Part.cancelAsk_frame (p : Part) : (p.cancelAsk).phase = p.phase ∧ (p.cancelAsk).resetPin = p.resetPin ∧
    (p.cancelAsk).now = p.now ∧ (p.cancelAsk).config = p.config ∧ (p.cancelAsk).permit = p.permit ∧ (p.cancelAsk).path = p.path
    ∧ (p.cancelAsk).card = p.card ∧ (p.cancelAsk).holds = p.holds ∧ (p.cancelAsk).accounts = p.accounts ∧ (p.cancelAsk).line =
    p.line ∧ (p.cancelAsk).store.stored = p.store.stored ∧ (p.cancelAsk).store.queue = p.store.queue ∧
    (p.cancelAsk).store.pending = p.store.pending ∧ (p.cancelAsk).store.work = p.store.work ∧ (p.cancelAsk).alertOut =
    p.alertOut ∧ (p.cancelAsk).outputs = p.outputs := by
  unfold Part.cancelAsk; (try dsimp only); (repeat' split) <;> simp

@[simp] theorem Part.withPath_frame (p : Part) (m : PathMonitor) : (p.withPath m).phase = p.phase ∧ (p.withPath m).resetPin
    = p.resetPin ∧ (p.withPath m).now = p.now ∧ (p.withPath m).config = p.config ∧ (p.withPath m).job = p.job ∧ (p.withPath
    m).permit = p.permit ∧ (p.withPath m).card = p.card ∧ (p.withPath m).holds = p.holds ∧ (p.withPath m).accounts = p.accounts
    ∧ (p.withPath m).settlement = p.settlement ∧ (p.withPath m).line = p.line ∧ (p.withPath m).store.stored = p.store.stored ∧
    (p.withPath m).store.queue = p.store.queue ∧ (p.withPath m).store.pending = p.store.pending ∧ (p.withPath m).store.work =
    p.store.work ∧ (p.withPath m).journal = p.journal ∧ (p.withPath m).panel = p.panel ∧ (p.withPath m).alertOut = p.alertOut ∧
    (p.withPath m).outputs = p.outputs := by
  unfold Part.withPath; (try dsimp only); (repeat' split) <;> simp

@[simp] theorem Part.withSheets_frame (p : Part) (l : List Sheet) : (p.withSheets l).phase = p.phase ∧ (p.withSheets
    l).resetPin = p.resetPin ∧ (p.withSheets l).now = p.now ∧ (p.withSheets l).config = p.config ∧ (p.withSheets l).job = p.job
    ∧ (p.withSheets l).permit = p.permit ∧ (p.withSheets l).card = p.card ∧ (p.withSheets l).holds = p.holds ∧ (p.withSheets
    l).accounts = p.accounts ∧ (p.withSheets l).settlement = p.settlement ∧ (p.withSheets l).line = p.line ∧ (p.withSheets
    l).store.stored = p.store.stored ∧ (p.withSheets l).store.queue = p.store.queue ∧ (p.withSheets l).store.pending =
    p.store.pending ∧ (p.withSheets l).store.work = p.store.work ∧ (p.withSheets l).journal = p.journal ∧ (p.withSheets l).panel
    = p.panel ∧ (p.withSheets l).alertOut = p.alertOut ∧ (p.withSheets l).outputs = p.outputs := by
  unfold Part.withSheets; (try dsimp only); (repeat' split) <;> simp

@[simp] theorem Part.spoilSheet_frame (p : Part) (x : Sheet) : (p.spoilSheet x).phase = p.phase ∧ (p.spoilSheet x).resetPin
    = p.resetPin ∧ (p.spoilSheet x).now = p.now ∧ (p.spoilSheet x).config = p.config ∧ (p.spoilSheet x).permit = p.permit ∧
    (p.spoilSheet x).path = p.path ∧ (p.spoilSheet x).card = p.card ∧ (p.spoilSheet x).holds = p.holds ∧ (p.spoilSheet
    x).accounts = p.accounts ∧ (p.spoilSheet x).settlement = p.settlement ∧ (p.spoilSheet x).line = p.line ∧ (p.spoilSheet
    x).store.stored = p.store.stored ∧ (p.spoilSheet x).store.work = p.store.work ∧ (p.spoilSheet x).journal = p.journal ∧
    (p.spoilSheet x).panel = p.panel ∧ (p.spoilSheet x).alertOut = p.alertOut ∧ (p.spoilSheet x).outputs = p.outputs := by
  unfold Part.spoilSheet; (try dsimp only); (repeat' split) <;> simp

@[simp] theorem Part.spoilSheets_frame (p : Part) (l : List Sheet) : (l.foldl Part.spoilSheet p).phase = p.phase ∧ (l.foldl
    Part.spoilSheet p).resetPin = p.resetPin ∧ (l.foldl Part.spoilSheet p).now = p.now ∧ (l.foldl Part.spoilSheet p).config =
    p.config ∧ (l.foldl Part.spoilSheet p).permit = p.permit ∧ (l.foldl Part.spoilSheet p).path = p.path ∧ (l.foldl
    Part.spoilSheet p).card = p.card ∧ (l.foldl Part.spoilSheet p).holds = p.holds ∧ (l.foldl Part.spoilSheet p).accounts =
    p.accounts ∧ (l.foldl Part.spoilSheet p).settlement = p.settlement ∧ (l.foldl Part.spoilSheet p).line = p.line ∧ (l.foldl
    Part.spoilSheet p).store.stored = p.store.stored ∧ (l.foldl Part.spoilSheet p).store.work = p.store.work ∧ (l.foldl
    Part.spoilSheet p).journal = p.journal ∧ (l.foldl Part.spoilSheet p).panel = p.panel ∧ (l.foldl Part.spoilSheet p).alertOut
    = p.alertOut ∧ (l.foldl Part.spoilSheet p).outputs = p.outputs := by
  induction l generalizing p with
  | nil => simp
  | cons x xs ih => simpa using ih (p.spoilSheet x)

@[simp] theorem Part.spoilFed_frame (p : Part) (m : Nat) (b : Bool) : (p.spoilFed m b).phase = p.phase ∧ (p.spoilFed m
    b).resetPin = p.resetPin ∧ (p.spoilFed m b).now = p.now ∧ (p.spoilFed m b).config = p.config ∧ (p.spoilFed m b).permit =
    p.permit ∧ (p.spoilFed m b).path = p.path ∧ (p.spoilFed m b).card = p.card ∧ (p.spoilFed m b).holds = p.holds ∧ (p.spoilFed
    m b).accounts = p.accounts ∧ (p.spoilFed m b).settlement = p.settlement ∧ (p.spoilFed m b).line = p.line ∧ (p.spoilFed m
    b).store.stored = p.store.stored ∧ (p.spoilFed m b).store.work = p.store.work ∧ (p.spoilFed m b).journal = p.journal ∧
    (p.spoilFed m b).panel = p.panel ∧ (p.spoilFed m b).alertOut = p.alertOut ∧ (p.spoilFed m b).outputs = p.outputs := by
  unfold Part.spoilFed; (try dsimp only); (repeat' split) <;> simp

@[simp] theorem Part.jobJam_frame (p : Part) : (p.jobJam).phase = p.phase ∧ (p.jobJam).resetPin = p.resetPin ∧
    (p.jobJam).now = p.now ∧ (p.jobJam).config = p.config ∧ (p.jobJam).permit = p.permit ∧ (p.jobJam).path = p.path ∧
    (p.jobJam).card = p.card ∧ (p.jobJam).holds = p.holds ∧ (p.jobJam).accounts = p.accounts ∧ (p.jobJam).settlement =
    p.settlement ∧ (p.jobJam).line = p.line ∧ (p.jobJam).store.stored = p.store.stored ∧ (p.jobJam).store.queue = p.store.queue
    ∧ (p.jobJam).store.pending = p.store.pending ∧ (p.jobJam).store.work = p.store.work ∧ (p.jobJam).journal = p.journal ∧
    (p.jobJam).alertOut = p.alertOut ∧ (p.jobJam).outputs = p.outputs := by
  unfold Part.jobJam; (try dsimp only); (repeat' split) <;> simp

@[simp] theorem Part.declareJam_frame (p : Part) (k : JamKind) (x : Option Sensor) (c f : Option Nat) : (p.declareJam k x c
    f).phase = p.phase ∧ (p.declareJam k x c f).resetPin = p.resetPin ∧ (p.declareJam k x c f).now = p.now ∧ (p.declareJam k x c
    f).config = p.config ∧ (p.declareJam k x c f).card = p.card ∧ (p.declareJam k x c f).holds = p.holds ∧ (p.declareJam k x c
    f).accounts = p.accounts ∧ (p.declareJam k x c f).settlement = p.settlement ∧ (p.declareJam k x c f).line = p.line ∧
    (p.declareJam k x c f).store.stored = p.store.stored ∧ (p.declareJam k x c f).store.work = p.store.work ∧ (p.declareJam k x
    c f).journal = p.journal ∧ (p.declareJam k x c f).alertOut = p.alertOut ∧ (p.declareJam k x c f).outputs = p.outputs := by
  unfold Part.declareJam; (try dsimp only); cases f <;> simp

@[simp] theorem Part.countFeed_frame (p : Part) : (p.countFeed).phase = p.phase ∧ (p.countFeed).resetPin = p.resetPin ∧
    (p.countFeed).now = p.now ∧ (p.countFeed).config = p.config ∧ (p.countFeed).job = p.job ∧ (p.countFeed).permit = p.permit ∧
    (p.countFeed).path = p.path ∧ (p.countFeed).card = p.card ∧ (p.countFeed).holds = p.holds ∧ (p.countFeed).accounts =
    p.accounts ∧ (p.countFeed).settlement = p.settlement ∧ (p.countFeed).line = p.line ∧ (p.countFeed).store.stored =
    p.store.stored ∧ (p.countFeed).store.work = p.store.work ∧ (p.countFeed).journal = p.journal ∧ (p.countFeed).panel = p.panel
    ∧ (p.countFeed).alertOut = p.alertOut ∧ (p.countFeed).outputs = p.outputs := by
  unfold Part.countFeed; (try dsimp only); (repeat' split) <;> simp

@[simp] theorem Part.trackOwned_frame (p : Part) (m : Nat) (c : Colour) (b : Bool) : (p.trackOwned m c b).phase = p.phase ∧
    (p.trackOwned m c b).resetPin = p.resetPin ∧ (p.trackOwned m c b).now = p.now ∧ (p.trackOwned m c b).config = p.config ∧
    (p.trackOwned m c b).permit = p.permit ∧ (p.trackOwned m c b).card = p.card ∧ (p.trackOwned m c b).holds = p.holds ∧
    (p.trackOwned m c b).accounts = p.accounts ∧ (p.trackOwned m c b).settlement = p.settlement ∧ (p.trackOwned m c b).line =
    p.line ∧ (p.trackOwned m c b).store.stored = p.store.stored ∧ (p.trackOwned m c b).store.queue = p.store.queue ∧
    (p.trackOwned m c b).store.pending = p.store.pending ∧ (p.trackOwned m c b).store.work = p.store.work ∧ (p.trackOwned m c
    b).journal = p.journal ∧ (p.trackOwned m c b).panel = p.panel ∧ (p.trackOwned m c b).alertOut = p.alertOut ∧ (p.trackOwned m
    c b).outputs = p.outputs := by
  unfold Part.trackOwned; (try dsimp only); (repeat' split) <;> simp

@[simp] theorem Part.trackUnowned_frame (p : Part) (m : Nat) (c : Colour) (b : Bool) : (p.trackUnowned m c b).phase =
    p.phase ∧ (p.trackUnowned m c b).resetPin = p.resetPin ∧ (p.trackUnowned m c b).now = p.now ∧ (p.trackUnowned m c b).config
    = p.config ∧ (p.trackUnowned m c b).job = p.job ∧ (p.trackUnowned m c b).permit = p.permit ∧ (p.trackUnowned m c b).card =
    p.card ∧ (p.trackUnowned m c b).holds = p.holds ∧ (p.trackUnowned m c b).accounts = p.accounts ∧ (p.trackUnowned m c
    b).settlement = p.settlement ∧ (p.trackUnowned m c b).line = p.line ∧ (p.trackUnowned m c b).store.stored = p.store.stored ∧
    (p.trackUnowned m c b).store.queue = p.store.queue ∧ (p.trackUnowned m c b).store.pending = p.store.pending ∧
    (p.trackUnowned m c b).store.work = p.store.work ∧ (p.trackUnowned m c b).journal = p.journal ∧ (p.trackUnowned m c b).panel
    = p.panel ∧ (p.trackUnowned m c b).alertOut = p.alertOut ∧ (p.trackUnowned m c b).outputs = p.outputs := by
  unfold Part.trackUnowned; (try dsimp only); (repeat' split) <;> simp

@[simp] theorem Part.feed_frame (p : Part) (m : Nat) (c : Colour) (b : Bool) : (p.feed m c b).phase = p.phase ∧ (p.feed m c
    b).resetPin = p.resetPin ∧ (p.feed m c b).now = p.now ∧ (p.feed m c b).config = p.config ∧ (p.feed m c b).card = p.card ∧
    (p.feed m c b).holds = p.holds ∧ (p.feed m c b).accounts = p.accounts ∧ (p.feed m c b).settlement = p.settlement ∧ (p.feed m
    c b).line = p.line ∧ (p.feed m c b).store.stored = p.store.stored ∧ (p.feed m c b).store.work = p.store.work ∧ (p.feed m c
    b).journal = p.journal ∧ (p.feed m c b).alertOut = p.alertOut ∧ (p.feed m c b).outputs = p.outputs := by
  unfold Part.feed; (try dsimp only); (repeat' split) <;> simp

@[simp] theorem Part.jobClear_frame (p : Part) : (p.jobClear).phase = p.phase ∧ (p.jobClear).resetPin = p.resetPin ∧
    (p.jobClear).now = p.now ∧ (p.jobClear).config = p.config ∧ (p.jobClear).path = p.path ∧ (p.jobClear).holds = p.holds ∧
    (p.jobClear).accounts = p.accounts ∧ (p.jobClear).line = p.line ∧ (p.jobClear).store.stored = p.store.stored ∧
    (p.jobClear).store.queue = p.store.queue ∧ (p.jobClear).store.pending = p.store.pending ∧ (p.jobClear).journal = p.journal ∧
    (p.jobClear).alertOut = p.alertOut := by
  unfold Part.jobClear; (try dsimp only); (repeat' split) <;> simp

@[simp] theorem Part.clearTest_frame (p : Part) : (p.clearTest).phase = p.phase ∧ (p.clearTest).resetPin = p.resetPin ∧
    (p.clearTest).now = p.now ∧ (p.clearTest).config = p.config ∧ (p.clearTest).holds = p.holds ∧ (p.clearTest).accounts =
    p.accounts ∧ (p.clearTest).line = p.line ∧ (p.clearTest).store.stored = p.store.stored ∧ (p.clearTest).store.queue =
    p.store.queue ∧ (p.clearTest).store.pending = p.store.pending ∧ (p.clearTest).journal = p.journal ∧ (p.clearTest).alertOut =
    p.alertOut := by
  unfold Part.clearTest; (try dsimp only); (repeat' split) <;> simp

@[simp] theorem Part.stray_frame (p : Part) (x : Sensor) : (p.stray x).phase = p.phase ∧ (p.stray x).resetPin = p.resetPin ∧
    (p.stray x).now = p.now ∧ (p.stray x).config = p.config ∧ (p.stray x).card = p.card ∧ (p.stray x).holds = p.holds ∧ (p.stray
    x).accounts = p.accounts ∧ (p.stray x).settlement = p.settlement ∧ (p.stray x).line = p.line ∧ (p.stray x).store.stored =
    p.store.stored ∧ (p.stray x).store.work = p.store.work ∧ (p.stray x).journal = p.journal ∧ (p.stray x).alertOut = p.alertOut
    ∧ (p.stray x).outputs = p.outputs := by
  unfold Part.stray; (try dsimp only); (repeat' split) <;> simp

@[simp] theorem Part.matchOn_frame (p : Part) (x : Sensor) : (p.matchOn x).phase = p.phase ∧ (p.matchOn x).resetPin =
    p.resetPin ∧ (p.matchOn x).now = p.now ∧ (p.matchOn x).config = p.config ∧ (p.matchOn x).card = p.card ∧ (p.matchOn x).holds
    = p.holds ∧ (p.matchOn x).accounts = p.accounts ∧ (p.matchOn x).settlement = p.settlement ∧ (p.matchOn x).line = p.line ∧
    (p.matchOn x).store.stored = p.store.stored ∧ (p.matchOn x).store.work = p.store.work ∧ (p.matchOn x).journal = p.journal ∧
    (p.matchOn x).alertOut = p.alertOut ∧ (p.matchOn x).outputs = p.outputs := by
  unfold Part.matchOn; (try dsimp only); (repeat' split) <;> simp

@[simp] theorem Part.sensorOn_frame (p : Part) (x : Sensor) : (p.sensorOn x).phase = p.phase ∧ (p.sensorOn x).resetPin =
    p.resetPin ∧ (p.sensorOn x).now = p.now ∧ (p.sensorOn x).config = p.config ∧ (p.sensorOn x).card = p.card ∧ (p.sensorOn
    x).holds = p.holds ∧ (p.sensorOn x).accounts = p.accounts ∧ (p.sensorOn x).settlement = p.settlement ∧ (p.sensorOn x).line =
    p.line ∧ (p.sensorOn x).store.stored = p.store.stored ∧ (p.sensorOn x).store.work = p.store.work ∧ (p.sensorOn x).journal =
    p.journal ∧ (p.sensorOn x).alertOut = p.alertOut ∧ (p.sensorOn x).outputs = p.outputs := by
  unfold Part.sensorOn; (try dsimp only); (repeat' split) <;> simp

@[simp] theorem Part.moveOn_frame (p : Part) (x : Sensor) (st : Stage) (w : Nat) : (p.moveOn x st w).phase = p.phase ∧
    (p.moveOn x st w).resetPin = p.resetPin ∧ (p.moveOn x st w).now = p.now ∧ (p.moveOn x st w).config = p.config ∧ (p.moveOn x
    st w).card = p.card ∧ (p.moveOn x st w).holds = p.holds ∧ (p.moveOn x st w).accounts = p.accounts ∧ (p.moveOn x st
    w).settlement = p.settlement ∧ (p.moveOn x st w).line = p.line ∧ (p.moveOn x st w).store.stored = p.store.stored ∧ (p.moveOn
    x st w).store.work = p.store.work ∧ (p.moveOn x st w).journal = p.journal ∧ (p.moveOn x st w).alertOut = p.alertOut ∧
    (p.moveOn x st w).outputs = p.outputs := by
  unfold Part.moveOn; (try dsimp only); (repeat' split) <;> simp

@[simp] theorem Part.jobDelivery_frame (p : Part) (x : Sheet) : (p.jobDelivery x).phase = p.phase ∧ (p.jobDelivery
    x).resetPin = p.resetPin ∧ (p.jobDelivery x).now = p.now ∧ (p.jobDelivery x).config = p.config ∧ (p.jobDelivery x).permit =
    p.permit ∧ (p.jobDelivery x).path = p.path ∧ (p.jobDelivery x).card = p.card ∧ (p.jobDelivery x).holds = p.holds ∧
    (p.jobDelivery x).accounts = p.accounts ∧ (p.jobDelivery x).settlement = p.settlement ∧ (p.jobDelivery x).line = p.line ∧
    (p.jobDelivery x).store.stored = p.store.stored ∧ (p.jobDelivery x).store.work = p.store.work ∧ (p.jobDelivery x).journal =
    p.journal ∧ (p.jobDelivery x).panel = p.panel ∧ (p.jobDelivery x).alertOut = p.alertOut ∧ (p.jobDelivery x).outputs =
    p.outputs := by
  unfold Part.jobDelivery; (try dsimp only); (repeat' split) <;> simp

@[simp] theorem Part.deliver_frame (p : Part) : (p.deliver).phase = p.phase ∧ (p.deliver).resetPin = p.resetPin ∧
    (p.deliver).now = p.now ∧ (p.deliver).config = p.config ∧ (p.deliver).card = p.card ∧ (p.deliver).holds = p.holds ∧
    (p.deliver).accounts = p.accounts ∧ (p.deliver).settlement = p.settlement ∧ (p.deliver).line = p.line ∧
    (p.deliver).store.stored = p.store.stored ∧ (p.deliver).store.work = p.store.work ∧ (p.deliver).journal = p.journal ∧
    (p.deliver).alertOut = p.alertOut ∧ (p.deliver).outputs = p.outputs := by
  unfold Part.deliver; (try dsimp only); (repeat' split) <;> simp

@[simp] theorem Part.matchOff_frame (p : Part) (x : Sensor) : (p.matchOff x).phase = p.phase ∧ (p.matchOff x).resetPin =
    p.resetPin ∧ (p.matchOff x).now = p.now ∧ (p.matchOff x).config = p.config ∧ (p.matchOff x).card = p.card ∧ (p.matchOff
    x).holds = p.holds ∧ (p.matchOff x).accounts = p.accounts ∧ (p.matchOff x).settlement = p.settlement ∧ (p.matchOff x).line =
    p.line ∧ (p.matchOff x).store.stored = p.store.stored ∧ (p.matchOff x).store.work = p.store.work ∧ (p.matchOff x).journal =
    p.journal ∧ (p.matchOff x).alertOut = p.alertOut ∧ (p.matchOff x).outputs = p.outputs := by
  unfold Part.matchOff; (try dsimp only); (repeat' split) <;> simp

@[simp] theorem Part.sensorOff_frame (p : Part) (x : Sensor) : (p.sensorOff x).phase = p.phase ∧ (p.sensorOff x).resetPin =
    p.resetPin ∧ (p.sensorOff x).now = p.now ∧ (p.sensorOff x).config = p.config ∧ (p.sensorOff x).holds = p.holds ∧
    (p.sensorOff x).accounts = p.accounts ∧ (p.sensorOff x).line = p.line ∧ (p.sensorOff x).store.stored = p.store.stored ∧
    (p.sensorOff x).journal = p.journal ∧ (p.sensorOff x).alertOut = p.alertOut := by
  unfold Part.sensorOff; (try dsimp only); (repeat' split) <;> simp

@[simp] theorem Part.openDoor_frame (p : Part) : (p.openDoor).phase = p.phase ∧ (p.openDoor).resetPin = p.resetPin ∧
    (p.openDoor).now = p.now ∧ (p.openDoor).config = p.config ∧ (p.openDoor).card = p.card ∧ (p.openDoor).holds = p.holds ∧
    (p.openDoor).accounts = p.accounts ∧ (p.openDoor).settlement = p.settlement ∧ (p.openDoor).line = p.line ∧
    (p.openDoor).store.stored = p.store.stored ∧ (p.openDoor).store.work = p.store.work ∧ (p.openDoor).journal = p.journal ∧
    (p.openDoor).alertOut = p.alertOut ∧ (p.openDoor).outputs = p.outputs := by
  unfold Part.openDoor; (try dsimp only); (repeat' split) <;> simp

@[simp] theorem Part.closeDoor_frame (p : Part) : (p.closeDoor).phase = p.phase ∧ (p.closeDoor).resetPin = p.resetPin ∧
    (p.closeDoor).now = p.now ∧ (p.closeDoor).config = p.config ∧ (p.closeDoor).holds = p.holds ∧ (p.closeDoor).accounts =
    p.accounts ∧ (p.closeDoor).line = p.line ∧ (p.closeDoor).store.stored = p.store.stored ∧ (p.closeDoor).store.queue =
    p.store.queue ∧ (p.closeDoor).store.pending = p.store.pending ∧ (p.closeDoor).journal = p.journal ∧ (p.closeDoor).alertOut =
    p.alertOut := by
  unfold Part.closeDoor; (try dsimp only); (repeat' split) <;> simp

@[simp] theorem Part.engineStop_frame (p : Part) (c : Option Nat) : (p.engineStop c).phase = p.phase ∧ (p.engineStop
    c).resetPin = p.resetPin ∧ (p.engineStop c).now = p.now ∧ (p.engineStop c).config = p.config ∧ (p.engineStop c).card =
    p.card ∧ (p.engineStop c).holds = p.holds ∧ (p.engineStop c).accounts = p.accounts ∧ (p.engineStop c).settlement =
    p.settlement ∧ (p.engineStop c).line = p.line ∧ (p.engineStop c).store.stored = p.store.stored ∧ (p.engineStop c).store.work
    = p.store.work ∧ (p.engineStop c).journal = p.journal ∧ (p.engineStop c).alertOut = p.alertOut ∧ (p.engineStop c).outputs =
    p.outputs := by
  unfold Part.engineStop; (try dsimp only); (repeat' split) <;> simp

@[simp] theorem Part.deadline_frame (p : Part) (i : Nat) : (p.deadline i).phase = p.phase ∧ (p.deadline i).resetPin =
    p.resetPin ∧ (p.deadline i).now = p.now ∧ (p.deadline i).config = p.config ∧ (p.deadline i).card = p.card ∧ (p.deadline
    i).holds = p.holds ∧ (p.deadline i).accounts = p.accounts ∧ (p.deadline i).settlement = p.settlement ∧ (p.deadline i).line =
    p.line ∧ (p.deadline i).store.stored = p.store.stored ∧ (p.deadline i).store.work = p.store.work ∧ (p.deadline i).journal =
    p.journal ∧ (p.deadline i).alertOut = p.alertOut ∧ (p.deadline i).outputs = p.outputs := by
  unfold Part.deadline; (try dsimp only); (repeat' split) <;> simp

@[simp] theorem Part.handJournal_frame (p : Part) (b : JournalBody) : (p.handJournal b).1.phase = p.phase ∧ (p.handJournal
    b).1.resetPin = p.resetPin ∧ (p.handJournal b).1.now = p.now ∧ (p.handJournal b).1.config = p.config ∧ (p.handJournal
    b).1.job = p.job ∧ (p.handJournal b).1.permit = p.permit ∧ (p.handJournal b).1.path = p.path ∧ (p.handJournal b).1.card =
    p.card ∧ (p.handJournal b).1.holds = p.holds ∧ (p.handJournal b).1.accounts = p.accounts ∧ (p.handJournal b).1.settlement =
    p.settlement ∧ (p.handJournal b).1.line = p.line ∧ (p.handJournal b).1.store.stored = p.store.stored ∧ (p.handJournal
    b).1.store.queue = p.store.queue ∧ (p.handJournal b).1.store.pending = p.store.pending ∧ (p.handJournal b).1.store.work =
    p.store.work ∧ (p.handJournal b).1.panel = p.panel ∧ (p.handJournal b).1.alertOut = p.alertOut ∧ (p.handJournal b).1.outputs
    = p.outputs := by
  unfold Part.handJournal; (try dsimp only); (repeat' split) <;> simp

@[simp] theorem Part.unhold_frame (p : Part) (o : Option HoldRecord) : (p.unhold o).phase = p.phase ∧ (p.unhold o).resetPin
    = p.resetPin ∧ (p.unhold o).now = p.now ∧ (p.unhold o).config = p.config ∧ (p.unhold o).job = p.job ∧ (p.unhold o).permit =
    p.permit ∧ (p.unhold o).path = p.path ∧ (p.unhold o).card = p.card ∧ (p.unhold o).holds = p.holds ∧ (p.unhold o).settlement
    = p.settlement ∧ (p.unhold o).line = p.line ∧ (p.unhold o).store.stored = p.store.stored ∧ (p.unhold o).store.queue =
    p.store.queue ∧ (p.unhold o).store.pending = p.store.pending ∧ (p.unhold o).store.work = p.store.work ∧ (p.unhold o).journal
    = p.journal ∧ (p.unhold o).panel = p.panel ∧ (p.unhold o).alertOut = p.alertOut ∧ (p.unhold o).outputs = p.outputs := by
  unfold Part.unhold; (try dsimp only); (repeat' split) <;> simp

@[simp] theorem Part.rehold_frame (p : Part) (o : Option HoldRecord) : (p.rehold o).phase = p.phase ∧ (p.rehold o).resetPin
    = p.resetPin ∧ (p.rehold o).now = p.now ∧ (p.rehold o).config = p.config ∧ (p.rehold o).job = p.job ∧ (p.rehold o).permit =
    p.permit ∧ (p.rehold o).path = p.path ∧ (p.rehold o).card = p.card ∧ (p.rehold o).holds = p.holds ∧ (p.rehold o).settlement
    = p.settlement ∧ (p.rehold o).line = p.line ∧ (p.rehold o).store.stored = p.store.stored ∧ (p.rehold o).store.queue =
    p.store.queue ∧ (p.rehold o).store.pending = p.store.pending ∧ (p.rehold o).store.work = p.store.work ∧ (p.rehold o).journal
    = p.journal ∧ (p.rehold o).panel = p.panel ∧ (p.rehold o).alertOut = p.alertOut ∧ (p.rehold o).outputs = p.outputs := by
  unfold Part.rehold; (try dsimp only); (repeat' split) <;> simp

@[simp] theorem Part.answerDeny_frame (p : Part) (src j : Nat) (r : DenyReason) : (p.answerDeny src j r).phase = p.phase ∧
    (p.answerDeny src j r).resetPin = p.resetPin ∧ (p.answerDeny src j r).now = p.now ∧ (p.answerDeny src j
    r).line.inbound = p.line.inbound ∧ (p.answerDeny src j r).config = p.config ∧ (p.answerDeny src j r).permit = p.permit
    ∧ (p.answerDeny src j r).path = p.path ∧ (p.answerDeny src j r).card = p.card ∧ (p.answerDeny src j r).holds = p.holds
    ∧ (p.answerDeny src j r).accounts = p.accounts ∧ (p.answerDeny src j r).store.stored = p.store.stored ∧ (p.answerDeny
    src j r).store.queue = p.store.queue ∧ (p.answerDeny src j r).store.pending = p.store.pending ∧ (p.answerDeny src j
    r).store.work = p.store.work ∧ (p.answerDeny src j r).alertOut = p.alertOut ∧ (p.answerDeny src j r).outputs =
    p.outputs := by
  unfold Part.answerDeny; (try dsimp only); (repeat' split) <;> simp

@[simp] theorem Part.answerGone_frame (p : Part) (src h j : Nat) : (p.answerGone src h j).phase = p.phase ∧ (p.answerGone
    src h j).resetPin = p.resetPin ∧ (p.answerGone src h j).now = p.now ∧ (p.answerGone src h j).line.inbound =
    p.line.inbound ∧ (p.answerGone src h j).config = p.config ∧ (p.answerGone src h j).path = p.path ∧ (p.answerGone src h
    j).holds = p.holds ∧ (p.answerGone src h j).accounts = p.accounts ∧ (p.answerGone src h j).store.stored =
    p.store.stored ∧ (p.answerGone src h j).store.queue = p.store.queue ∧ (p.answerGone src h j).store.pending =
    p.store.pending ∧ (p.answerGone src h j).journal = p.journal ∧ (p.answerGone src h j).alertOut = p.alertOut := by
  unfold Part.answerGone; (try dsimp only); (repeat' split) <;> simp

@[simp] theorem Part.answerGive_frame (p : Part) (src sl h j : Nat) : (p.answerGive src sl h j).phase = p.phase ∧
    (p.answerGive src sl h j).resetPin = p.resetPin ∧ (p.answerGive src sl h j).now = p.now ∧ (p.answerGive src sl h
    j).line.inbound = p.line.inbound ∧ (p.answerGive src sl h j).config = p.config ∧ (p.answerGive src sl h j).permit =
    p.permit ∧ (p.answerGive src sl h j).path = p.path ∧ (p.answerGive src sl h j).card = p.card ∧ (p.answerGive src sl h
    j).holds = p.holds ∧ (p.answerGive src sl h j).accounts = p.accounts ∧ (p.answerGive src sl h j).store.stored =
    p.store.stored ∧ (p.answerGive src sl h j).journal = p.journal ∧ (p.answerGive src sl h j).alertOut = p.alertOut ∧
    (p.answerGive src sl h j).outputs = p.outputs := by
  unfold Part.answerGive; (try dsimp only); (repeat' split) <;> simp

@[simp] theorem Part.decideAsk_frame (p : Part) (src a j w : Nat) : (p.decideAsk src a j w).1.phase = p.phase ∧
    (p.decideAsk src a j w).1.resetPin = p.resetPin ∧ (p.decideAsk src a j w).1.now = p.now ∧ (p.decideAsk src a j
    w).1.line.inbound = p.line.inbound ∧ (p.decideAsk src a j w).1.config = p.config ∧ (p.decideAsk src a j w).1.permit =
    p.permit ∧ (p.decideAsk src a j w).1.path = p.path ∧ (p.decideAsk src a j w).1.card = p.card ∧ (p.decideAsk src a j
    w).1.holds = p.holds ∧ (p.decideAsk src a j w).1.accounts = p.accounts ∧ (p.decideAsk src a j w).1.store.stored =
    p.store.stored ∧ (p.decideAsk src a j w).1.store.queue = p.store.queue ∧ (p.decideAsk src a j w).1.store.pending =
    p.store.pending ∧ (p.decideAsk src a j w).1.store.work = p.store.work ∧ (p.decideAsk src a j w).1.alertOut =
    p.alertOut ∧ (p.decideAsk src a j w).1.outputs = p.outputs := by
  unfold Part.decideAsk; (try dsimp only); (repeat' split) <;> simp

@[simp] theorem Part.takeAsk_frame (p : Part) (src a j w : Nat) : (p.takeAsk src a j w).1.phase = p.phase ∧ (p.takeAsk src
    a j w).1.resetPin = p.resetPin ∧ (p.takeAsk src a j w).1.now = p.now ∧ (p.takeAsk src a j w).1.line.inbound =
    p.line.inbound ∧ (p.takeAsk src a j w).1.config = p.config ∧ (p.takeAsk src a j w).1.permit = p.permit ∧ (p.takeAsk
    src a j w).1.path = p.path ∧ (p.takeAsk src a j w).1.card = p.card ∧ (p.takeAsk src a j w).1.holds = p.holds ∧
    (p.takeAsk src a j w).1.accounts = p.accounts ∧ (p.takeAsk src a j w).1.store.stored = p.store.stored ∧ (p.takeAsk src
    a j w).1.alertOut = p.alertOut ∧ (p.takeAsk src a j w).1.outputs = p.outputs := by
  unfold Part.takeAsk; (try dsimp only); (repeat' split) <;> simp

@[simp] theorem Part.makeHold_frame (p : Part) (src a j g : Nat) : (p.makeHold src a j g).1.phase = p.phase ∧ (p.makeHold
    src a j g).1.resetPin = p.resetPin ∧ (p.makeHold src a j g).1.now = p.now ∧ (p.makeHold src a j g).1.config = p.config ∧
    (p.makeHold src a j g).1.job = p.job ∧ (p.makeHold src a j g).1.permit = p.permit ∧ (p.makeHold src a j g).1.path = p.path ∧
    (p.makeHold src a j g).1.card = p.card ∧ (p.makeHold src a j g).1.holds = p.holds ∧ (p.makeHold src a j g).1.accounts =
    p.accounts ∧ (p.makeHold src a j g).1.settlement = p.settlement ∧ (p.makeHold src a j g).1.line = p.line ∧ (p.makeHold src a
    j g).1.store.stored = p.store.stored ∧ (p.makeHold src a j g).1.store.queue = p.store.queue ∧ (p.makeHold src a j
    g).1.store.pending = p.store.pending ∧ (p.makeHold src a j g).1.store.work = p.store.work ∧ (p.makeHold src a j g).1.journal
    = p.journal ∧ (p.makeHold src a j g).1.panel = p.panel ∧ (p.makeHold src a j g).1.alertOut = p.alertOut ∧ (p.makeHold src a
    j g).1.outputs = p.outputs := by
  unfold Part.makeHold; (try dsimp only); (repeat' split) <;> simp

@[simp] theorem Part.decideMore_frame (p : Part) (src i sl sp : Nat) (r : HoldRecord) (b : Bool) : (p.decideMore src i sl
    sp r b).1.phase = p.phase ∧ (p.decideMore src i sl sp r b).1.resetPin = p.resetPin ∧ (p.decideMore src i sl sp r
    b).1.now = p.now ∧ (p.decideMore src i sl sp r b).1.line.inbound = p.line.inbound ∧ (p.decideMore src i sl sp r
    b).1.config = p.config ∧ (p.decideMore src i sl sp r b).1.permit = p.permit ∧ (p.decideMore src i sl sp r b).1.path =
    p.path ∧ (p.decideMore src i sl sp r b).1.card = p.card ∧ (p.decideMore src i sl sp r b).1.holds = p.holds ∧
    (p.decideMore src i sl sp r b).1.accounts = p.accounts ∧ (p.decideMore src i sl sp r b).1.store.stored =
    p.store.stored ∧ (p.decideMore src i sl sp r b).1.store.queue = p.store.queue ∧ (p.decideMore src i sl sp r
    b).1.store.pending = p.store.pending ∧ (p.decideMore src i sl sp r b).1.store.work = p.store.work ∧ (p.decideMore src
    i sl sp r b).1.alertOut = p.alertOut ∧ (p.decideMore src i sl sp r b).1.outputs = p.outputs := by
  unfold Part.decideMore; (try dsimp only); (repeat' split) <;> simp

@[simp] theorem Part.takeMore_frame (p : Part) (src h j i : Nat) : (p.takeMore src h j i).1.phase = p.phase ∧ (p.takeMore
    src h j i).1.resetPin = p.resetPin ∧ (p.takeMore src h j i).1.now = p.now ∧ (p.takeMore src h j i).1.line.inbound =
    p.line.inbound ∧ (p.takeMore src h j i).1.config = p.config ∧ (p.takeMore src h j i).1.path = p.path ∧ (p.takeMore src
    h j i).1.holds = p.holds ∧ (p.takeMore src h j i).1.accounts = p.accounts ∧ (p.takeMore src h j i).1.store.stored =
    p.store.stored ∧ (p.takeMore src h j i).1.store.queue = p.store.queue ∧ (p.takeMore src h j i).1.store.pending =
    p.store.pending ∧ (p.takeMore src h j i).1.alertOut = p.alertOut := by
  unfold Part.takeMore; (try dsimp only); (repeat' split) <;> simp

@[simp] theorem Part.takeKeep_frame (p : Part) (src h j : Nat) : (p.takeKeep src h j).1.phase = p.phase ∧ (p.takeKeep src
    h j).1.resetPin = p.resetPin ∧ (p.takeKeep src h j).1.now = p.now ∧ (p.takeKeep src h j).1.line.inbound =
    p.line.inbound ∧ (p.takeKeep src h j).1.config = p.config ∧ (p.takeKeep src h j).1.path = p.path ∧ (p.takeKeep src h
    j).1.holds = p.holds ∧ (p.takeKeep src h j).1.accounts = p.accounts ∧ (p.takeKeep src h j).1.store.stored =
    p.store.stored ∧ (p.takeKeep src h j).1.store.queue = p.store.queue ∧ (p.takeKeep src h j).1.store.pending =
    p.store.pending ∧ (p.takeKeep src h j).1.journal = p.journal ∧ (p.takeKeep src h j).1.alertOut = p.alertOut := by
  unfold Part.takeKeep; (try dsimp only); (repeat' split) <;> simp

@[simp] theorem Part.advanceSweep_frame (p : Part) : (p.advanceSweep).phase = p.phase ∧ (p.advanceSweep).resetPin =
    p.resetPin ∧ (p.advanceSweep).now = p.now ∧ (p.advanceSweep).config = p.config ∧ (p.advanceSweep).job = p.job ∧
    (p.advanceSweep).permit = p.permit ∧ (p.advanceSweep).path = p.path ∧ (p.advanceSweep).card = p.card ∧ (p.advanceSweep).accounts = p.accounts ∧ (p.advanceSweep).settlement = p.settlement ∧ (p.advanceSweep).line = p.line ∧ (p.advanceSweep).store.stored = p.store.stored ∧ (p.advanceSweep).store.queue = p.store.queue ∧ (p.advanceSweep).store.pending =
    p.store.pending ∧ (p.advanceSweep).journal = p.journal ∧ (p.advanceSweep).panel = p.panel ∧ (p.advanceSweep).alertOut =
    p.alertOut ∧ (p.advanceSweep).outputs = p.outputs := by
  simp [Part.advanceSweep]

@[simp] theorem Part.sweepVisit_frame (p : Part) (d : Nat) : (p.sweepVisit d).phase = p.phase ∧ (p.sweepVisit d).resetPin =
    p.resetPin ∧ (p.sweepVisit d).now = p.now ∧ (p.sweepVisit d).config = p.config ∧ (p.sweepVisit d).job = p.job ∧
    (p.sweepVisit d).permit = p.permit ∧ (p.sweepVisit d).path = p.path ∧ (p.sweepVisit d).card = p.card ∧ (p.sweepVisit
    d).accounts = p.accounts ∧ (p.sweepVisit d).settlement = p.settlement ∧ (p.sweepVisit d).line = p.line ∧ (p.sweepVisit
    d).store.stored = p.store.stored ∧ (p.sweepVisit d).store.queue = p.store.queue ∧ (p.sweepVisit d).store.pending =
    p.store.pending ∧ (p.sweepVisit d).journal = p.journal ∧ (p.sweepVisit d).panel = p.panel ∧ (p.sweepVisit d).alertOut =
    p.alertOut ∧ (p.sweepVisit d).outputs = p.outputs := by
  unfold Part.sweepVisit; (try dsimp only); (repeat' split) <;> simp

@[simp] theorem Part.answerOffice_frame (p : Part) (d a : Nat) (r : AccountResult) : (p.answerOffice d a r).phase =
    p.phase ∧ (p.answerOffice d a r).resetPin = p.resetPin ∧ (p.answerOffice d a r).now = p.now ∧ (p.answerOffice d a
    r).line.inbound = p.line.inbound ∧ (p.answerOffice d a r).config = p.config ∧ (p.answerOffice d a r).job = p.job ∧
    (p.answerOffice d a r).permit = p.permit ∧ (p.answerOffice d a r).path = p.path ∧ (p.answerOffice d a r).card = p.card
    ∧ (p.answerOffice d a r).holds = p.holds ∧ (p.answerOffice d a r).accounts = p.accounts ∧ (p.answerOffice d a
    r).settlement = p.settlement ∧ (p.answerOffice d a r).store.stored = p.store.stored ∧ (p.answerOffice d a
    r).store.queue = p.store.queue ∧ (p.answerOffice d a r).store.pending = p.store.pending ∧ (p.answerOffice d a
    r).store.work = p.store.work ∧ (p.answerOffice d a r).journal = p.journal ∧ (p.answerOffice d a r).panel = p.panel ∧
    (p.answerOffice d a r).alertOut = p.alertOut ∧ (p.answerOffice d a r).outputs = p.outputs := by
  unfold Part.answerOffice; (try dsimp only); (repeat' split) <;> simp

@[simp] theorem Part.takePut_frame (p : Part) (src a k c st v : Nat) : (p.takePut src a k c st v).1.phase = p.phase ∧
    (p.takePut src a k c st v).1.resetPin = p.resetPin ∧ (p.takePut src a k c st v).1.now = p.now ∧ (p.takePut src a k c
    st v).1.line.inbound = p.line.inbound ∧ (p.takePut src a k c st v).1.config = p.config ∧ (p.takePut src a k c st
    v).1.job = p.job ∧ (p.takePut src a k c st v).1.permit = p.permit ∧ (p.takePut src a k c st v).1.path = p.path ∧
    (p.takePut src a k c st v).1.card = p.card ∧ (p.takePut src a k c st v).1.holds = p.holds ∧ (p.takePut src a k c st
    v).1.accounts = p.accounts ∧ (p.takePut src a k c st v).1.settlement = p.settlement ∧ (p.takePut src a k c st
    v).1.store.stored = p.store.stored ∧ (p.takePut src a k c st v).1.store.queue = p.store.queue ∧ (p.takePut src a k c
    st v).1.store.pending = p.store.pending ∧ (p.takePut src a k c st v).1.store.work = p.store.work ∧ (p.takePut src a k
    c st v).1.journal = p.journal ∧ (p.takePut src a k c st v).1.panel = p.panel ∧ (p.takePut src a k c st v).1.alertOut =
    p.alertOut ∧ (p.takePut src a k c st v).1.outputs = p.outputs := by
  unfold Part.takePut; (try dsimp only); (repeat' split) <;> simp

@[simp] theorem Part.takeTopup_frame (p : Part) (src a m : Nat) : (p.takeTopup src a m).1.phase = p.phase ∧ (p.takeTopup
    src a m).1.resetPin = p.resetPin ∧ (p.takeTopup src a m).1.now = p.now ∧ (p.takeTopup src a m).1.line.inbound =
    p.line.inbound ∧ (p.takeTopup src a m).1.config = p.config ∧ (p.takeTopup src a m).1.job = p.job ∧ (p.takeTopup src a
    m).1.permit = p.permit ∧ (p.takeTopup src a m).1.path = p.path ∧ (p.takeTopup src a m).1.card = p.card ∧ (p.takeTopup
    src a m).1.holds = p.holds ∧ (p.takeTopup src a m).1.accounts = p.accounts ∧ (p.takeTopup src a m).1.settlement =
    p.settlement ∧ (p.takeTopup src a m).1.store.stored = p.store.stored ∧ (p.takeTopup src a m).1.store.queue =
    p.store.queue ∧ (p.takeTopup src a m).1.store.pending = p.store.pending ∧ (p.takeTopup src a m).1.store.work =
    p.store.work ∧ (p.takeTopup src a m).1.journal = p.journal ∧ (p.takeTopup src a m).1.panel = p.panel ∧ (p.takeTopup
    src a m).1.alertOut = p.alertOut ∧ (p.takeTopup src a m).1.outputs = p.outputs := by
  unfold Part.takeTopup; (try dsimp only); (repeat' split) <;> simp

@[simp] theorem Part.takeQuery_frame (p : Part) (src a : Nat) : (p.takeQuery src a).phase = p.phase ∧ (p.takeQuery src
    a).resetPin = p.resetPin ∧ (p.takeQuery src a).now = p.now ∧ (p.takeQuery src a).line.inbound = p.line.inbound ∧
    (p.takeQuery src a).config = p.config ∧ (p.takeQuery src a).job = p.job ∧ (p.takeQuery src a).permit = p.permit ∧
    (p.takeQuery src a).path = p.path ∧ (p.takeQuery src a).card = p.card ∧ (p.takeQuery src a).holds = p.holds ∧
    (p.takeQuery src a).accounts = p.accounts ∧ (p.takeQuery src a).settlement = p.settlement ∧ (p.takeQuery src
    a).store.stored = p.store.stored ∧ (p.takeQuery src a).store.queue = p.store.queue ∧ (p.takeQuery src a).store.pending
    = p.store.pending ∧ (p.takeQuery src a).store.work = p.store.work ∧ (p.takeQuery src a).journal = p.journal ∧
    (p.takeQuery src a).panel = p.panel ∧ (p.takeQuery src a).alertOut = p.alertOut ∧ (p.takeQuery src a).outputs =
    p.outputs := by
  unfold Part.takeQuery; (try dsimp only); (repeat' split) <;> simp

@[simp] theorem Part.takeClose_frame (p : Part) (n : Nat) : (p.takeClose n).1.phase = p.phase ∧ (p.takeClose n).1.resetPin =
    p.resetPin ∧ (p.takeClose n).1.now = p.now ∧ (p.takeClose n).1.config = p.config ∧ (p.takeClose n).1.job = p.job ∧
    (p.takeClose n).1.permit = p.permit ∧ (p.takeClose n).1.path = p.path ∧ (p.takeClose n).1.card = p.card ∧ (p.takeClose
    n).1.holds = p.holds ∧ (p.takeClose n).1.settlement = p.settlement ∧ (p.takeClose n).1.line = p.line ∧ (p.takeClose
    n).1.store.stored = p.store.stored ∧ (p.takeClose n).1.store.queue = p.store.queue ∧ (p.takeClose n).1.store.pending =
    p.store.pending ∧ (p.takeClose n).1.store.work = p.store.work ∧ (p.takeClose n).1.journal = p.journal ∧ (p.takeClose
    n).1.panel = p.panel ∧ (p.takeClose n).1.alertOut = p.alertOut ∧ (p.takeClose n).1.outputs = p.outputs := by
  unfold Part.takeClose; (try dsimp only); (repeat' split) <;> simp

@[simp] theorem Part.visitSlots_frame (p : Part) : (p.visitSlots).1.phase = p.phase ∧ (p.visitSlots).1.resetPin = p.resetPin
    ∧ (p.visitSlots).1.now = p.now ∧ (p.visitSlots).1.config = p.config ∧ (p.visitSlots).1.job = p.job ∧ (p.visitSlots).1.permit
    = p.permit ∧ (p.visitSlots).1.path = p.path ∧ (p.visitSlots).1.card = p.card ∧ (p.visitSlots).1.holds = p.holds ∧
    (p.visitSlots).1.settlement = p.settlement ∧ (p.visitSlots).1.line = p.line ∧ (p.visitSlots).1.store.stored = p.store.stored
    ∧ (p.visitSlots).1.store.queue = p.store.queue ∧ (p.visitSlots).1.store.pending = p.store.pending ∧
    (p.visitSlots).1.store.work = p.store.work ∧ (p.visitSlots).1.journal = p.journal ∧ (p.visitSlots).1.panel = p.panel ∧
    (p.visitSlots).1.alertOut = p.alertOut ∧ (p.visitSlots).1.outputs = p.outputs := by
  unfold Part.visitSlots; (try dsimp only); (repeat' split) <;> simp

@[simp] theorem Part.withSettlement_frame (p : Part) (u : SettlementUnit) : (p.withSettlement u).phase = p.phase ∧
    (p.withSettlement u).resetPin = p.resetPin ∧ (p.withSettlement u).now = p.now ∧ (p.withSettlement u).config = p.config ∧
    (p.withSettlement u).job = p.job ∧ (p.withSettlement u).permit = p.permit ∧ (p.withSettlement u).path = p.path ∧
    (p.withSettlement u).card = p.card ∧ (p.withSettlement u).holds = p.holds ∧ (p.withSettlement u).accounts = p.accounts ∧
    (p.withSettlement u).line = p.line ∧ (p.withSettlement u).store.stored = p.store.stored ∧ (p.withSettlement u).store.queue =
    p.store.queue ∧ (p.withSettlement u).store.pending = p.store.pending ∧ (p.withSettlement u).store.work = p.store.work ∧
    (p.withSettlement u).journal = p.journal ∧ (p.withSettlement u).panel = p.panel ∧ (p.withSettlement u).alertOut = p.alertOut
    ∧ (p.withSettlement u).outputs = p.outputs := by
  unfold Part.withSettlement; (try dsimp only); (repeat' split) <;> simp

@[simp] theorem Part.acknowledge_frame (p : Part) (e : DeferredEntry) (r : AckResult) : (p.acknowledge e r).phase = p.phase
    ∧ (p.acknowledge e r).resetPin = p.resetPin ∧ (p.acknowledge e r).now = p.now ∧ (p.acknowledge e r).config = p.config ∧
    (p.acknowledge e r).job = p.job ∧ (p.acknowledge e r).permit = p.permit ∧ (p.acknowledge e r).path = p.path ∧ (p.acknowledge
    e r).card = p.card ∧ (p.acknowledge e r).holds = p.holds ∧ (p.acknowledge e r).accounts = p.accounts ∧ (p.acknowledge e
    r).line = p.line ∧ (p.acknowledge e r).store.stored = p.store.stored ∧ (p.acknowledge e r).store.queue = p.store.queue ∧
    (p.acknowledge e r).store.pending = p.store.pending ∧ (p.acknowledge e r).journal = p.journal ∧ (p.acknowledge e r).panel =
    p.panel ∧ (p.acknowledge e r).alertOut = p.alertOut ∧ (p.acknowledge e r).outputs = p.outputs := by
  unfold Part.acknowledge; (try dsimp only); (repeat' split) <;> simp

@[simp] theorem Part.reportSettlement_frame (p : Part) (x : Settlement) (r : AckResult) : (p.reportSettlement x r).phase =
    p.phase ∧ (p.reportSettlement x r).resetPin = p.resetPin ∧ (p.reportSettlement x r).now = p.now ∧ (p.reportSettlement
    x r).line.inbound = p.line.inbound ∧ (p.reportSettlement x r).config = p.config ∧ (p.reportSettlement x r).job = p.job
    ∧ (p.reportSettlement x r).permit = p.permit ∧ (p.reportSettlement x r).path = p.path ∧ (p.reportSettlement x r).card
    = p.card ∧ (p.reportSettlement x r).holds = p.holds ∧ (p.reportSettlement x r).accounts = p.accounts ∧
    (p.reportSettlement x r).store.stored = p.store.stored ∧ (p.reportSettlement x r).store.queue = p.store.queue ∧
    (p.reportSettlement x r).store.pending = p.store.pending ∧ (p.reportSettlement x r).journal = p.journal ∧
    (p.reportSettlement x r).panel = p.panel ∧ (p.reportSettlement x r).alertOut = p.alertOut ∧ (p.reportSettlement x
    r).outputs = p.outputs := by
  unfold Part.reportSettlement; (try dsimp only); (repeat' split) <;> simp

@[simp] theorem Part.enterStage_frame (p : Part) (st : ApplyStage) (x : Settlement) : (p.enterStage st x).phase = p.phase ∧
    (p.enterStage st x).resetPin = p.resetPin ∧ (p.enterStage st x).now = p.now ∧ (p.enterStage st x).config = p.config ∧
    (p.enterStage st x).job = p.job ∧ (p.enterStage st x).permit = p.permit ∧ (p.enterStage st x).path = p.path ∧ (p.enterStage
    st x).card = p.card ∧ (p.enterStage st x).holds = p.holds ∧ (p.enterStage st x).accounts = p.accounts ∧ (p.enterStage st
    x).line = p.line ∧ (p.enterStage st x).store.stored = p.store.stored ∧ (p.enterStage st x).store.queue = p.store.queue ∧
    (p.enterStage st x).store.pending = p.store.pending ∧ (p.enterStage st x).store.work = p.store.work ∧ (p.enterStage st
    x).journal = p.journal ∧ (p.enterStage st x).panel = p.panel ∧ (p.enterStage st x).alertOut = p.alertOut ∧ (p.enterStage st
    x).outputs = p.outputs := by
  unfold Part.enterStage; (try dsimp only); (repeat' split) <;> simp

@[simp] theorem Part.startOrphan_frame (p : Part) (x : Settlement) : (p.startOrphan x).1.phase = p.phase ∧ (p.startOrphan
    x).1.resetPin = p.resetPin ∧ (p.startOrphan x).1.now = p.now ∧ (p.startOrphan x).1.config = p.config ∧ (p.startOrphan
    x).1.job = p.job ∧ (p.startOrphan x).1.permit = p.permit ∧ (p.startOrphan x).1.path = p.path ∧ (p.startOrphan x).1.card =
    p.card ∧ (p.startOrphan x).1.holds = p.holds ∧ (p.startOrphan x).1.accounts = p.accounts ∧ (p.startOrphan x).1.line = p.line
    ∧ (p.startOrphan x).1.store.stored = p.store.stored ∧ (p.startOrphan x).1.store.queue = p.store.queue ∧ (p.startOrphan
    x).1.store.pending = p.store.pending ∧ (p.startOrphan x).1.store.work = p.store.work ∧ (p.startOrphan x).1.journal =
    p.journal ∧ (p.startOrphan x).1.panel = p.panel ∧ (p.startOrphan x).1.alertOut = p.alertOut ∧ (p.startOrphan x).1.outputs =
    p.outputs := by
  unfold Part.startOrphan; (try dsimp only); (repeat' split) <;> simp

@[simp] theorem Part.startApply_frame (p : Part) (x : Settlement) : (p.startApply x).1.phase = p.phase ∧ (p.startApply
    x).1.resetPin = p.resetPin ∧ (p.startApply x).1.now = p.now ∧ (p.startApply x).1.config = p.config ∧ (p.startApply x).1.job
    = p.job ∧ (p.startApply x).1.permit = p.permit ∧ (p.startApply x).1.path = p.path ∧ (p.startApply x).1.card = p.card ∧
    (p.startApply x).1.holds = p.holds ∧ (p.startApply x).1.accounts = p.accounts ∧ (p.startApply x).1.line = p.line ∧
    (p.startApply x).1.store.stored = p.store.stored ∧ (p.startApply x).1.store.queue = p.store.queue ∧ (p.startApply
    x).1.store.pending = p.store.pending ∧ (p.startApply x).1.store.work = p.store.work ∧ (p.startApply x).1.journal = p.journal
    ∧ (p.startApply x).1.panel = p.panel ∧ (p.startApply x).1.alertOut = p.alertOut ∧ (p.startApply x).1.outputs = p.outputs :=
    by
  unfold Part.startApply; (try dsimp only); (repeat' split) <;> simp

@[simp] theorem Part.returnFree_frame (p : Part) : (p.returnFree).1.phase = p.phase ∧ (p.returnFree).1.resetPin =
    p.resetPin ∧ (p.returnFree).1.now = p.now ∧ (p.returnFree).1.config = p.config ∧ (p.returnFree).1.job = p.job ∧
    (p.returnFree).1.permit = p.permit ∧ (p.returnFree).1.path = p.path ∧ (p.returnFree).1.card = p.card ∧
    (p.returnFree).1.holds = p.holds ∧ (p.returnFree).1.accounts = p.accounts ∧ (p.returnFree).1.line = p.line ∧
    (p.returnFree).1.store.stored = p.store.stored ∧ (p.returnFree).1.store.queue = p.store.queue ∧
    (p.returnFree).1.store.pending = p.store.pending ∧ (p.returnFree).1.store.work = p.store.work ∧ (p.returnFree).1.journal
    = p.journal ∧ (p.returnFree).1.panel = p.panel ∧ (p.returnFree).1.alertOut = p.alertOut ∧ (p.returnFree).1.outputs =
    p.outputs := by
  unfold Part.returnFree; (try dsimp only); (repeat' split) <;> simp

@[simp] theorem Part.decideSettlement_frame (p : Part) (x : Settlement) : (p.decideSettlement x).1.phase = p.phase ∧
    (p.decideSettlement x).1.resetPin = p.resetPin ∧ (p.decideSettlement x).1.now = p.now ∧ (p.decideSettlement
    x).1.line.inbound = p.line.inbound ∧ (p.decideSettlement x).1.config = p.config ∧ (p.decideSettlement x).1.job = p.job
    ∧ (p.decideSettlement x).1.permit = p.permit ∧ (p.decideSettlement x).1.path = p.path ∧ (p.decideSettlement x).1.card
    = p.card ∧ (p.decideSettlement x).1.holds = p.holds ∧ (p.decideSettlement x).1.accounts = p.accounts ∧
    (p.decideSettlement x).1.store.stored = p.store.stored ∧ (p.decideSettlement x).1.store.queue = p.store.queue ∧
    (p.decideSettlement x).1.store.pending = p.store.pending ∧ (p.decideSettlement x).1.journal = p.journal ∧
    (p.decideSettlement x).1.panel = p.panel ∧ (p.decideSettlement x).1.alertOut = p.alertOut ∧ (p.decideSettlement
    x).1.outputs = p.outputs := by
  unfold Part.decideSettlement; (try dsimp only); (repeat' split) <;> simp

@[simp] theorem Part.nextRequest_frame (p : Part) : (p.nextRequest).1.phase = p.phase ∧ (p.nextRequest).1.resetPin =
    p.resetPin ∧ (p.nextRequest).1.now = p.now ∧ (p.nextRequest).1.config = p.config ∧ (p.nextRequest).1.job = p.job ∧
    (p.nextRequest).1.permit = p.permit ∧ (p.nextRequest).1.path = p.path ∧ (p.nextRequest).1.card = p.card ∧
    (p.nextRequest).1.holds = p.holds ∧ (p.nextRequest).1.accounts = p.accounts ∧ (p.nextRequest).1.line = p.line ∧
    (p.nextRequest).1.store.stored = p.store.stored ∧ (p.nextRequest).1.store.queue = p.store.queue ∧
    (p.nextRequest).1.store.pending = p.store.pending ∧ (p.nextRequest).1.journal
    = p.journal ∧ (p.nextRequest).1.panel = p.panel ∧ (p.nextRequest).1.alertOut = p.alertOut ∧ (p.nextRequest).1.outputs =
    p.outputs := by
  unfold Part.nextRequest; (try dsimp only); (repeat' split) <;> simp

@[simp] theorem Part.enterClosing_frame (p : Part) (r : AckResult) : (p.enterClosing r).phase = p.phase ∧ (p.enterClosing
    r).resetPin = p.resetPin ∧ (p.enterClosing r).now = p.now ∧ (p.enterClosing r).config = p.config ∧ (p.enterClosing r).job =
    p.job ∧ (p.enterClosing r).permit = p.permit ∧ (p.enterClosing r).path = p.path ∧ (p.enterClosing r).card = p.card ∧
    (p.enterClosing r).holds = p.holds ∧ (p.enterClosing r).accounts = p.accounts ∧ (p.enterClosing r).line = p.line ∧
    (p.enterClosing r).store.stored = p.store.stored ∧ (p.enterClosing r).store.queue = p.store.queue ∧ (p.enterClosing
    r).store.pending = p.store.pending ∧ (p.enterClosing r).journal = p.journal ∧ (p.enterClosing r).panel = p.panel ∧
    (p.enterClosing r).alertOut = p.alertOut ∧ (p.enterClosing r).outputs = p.outputs := by
  unfold Part.enterClosing; (try dsimp only); (repeat' split) <;> simp

@[simp] theorem Part.enterDebiting_frame (p : Part) : (p.enterDebiting).phase = p.phase ∧ (p.enterDebiting).resetPin =
    p.resetPin ∧ (p.enterDebiting).now = p.now ∧ (p.enterDebiting).config = p.config ∧ (p.enterDebiting).job = p.job ∧
    (p.enterDebiting).permit = p.permit ∧ (p.enterDebiting).path = p.path ∧ (p.enterDebiting).card = p.card ∧
    (p.enterDebiting).holds = p.holds ∧ (p.enterDebiting).accounts = p.accounts ∧ (p.enterDebiting).line = p.line ∧
    (p.enterDebiting).store.stored = p.store.stored ∧ (p.enterDebiting).store.queue = p.store.queue ∧
    (p.enterDebiting).store.pending = p.store.pending ∧ (p.enterDebiting).journal = p.journal ∧ (p.enterDebiting).panel =
    p.panel ∧ (p.enterDebiting).alertOut = p.alertOut ∧ (p.enterDebiting).outputs = p.outputs := by
  unfold Part.enterDebiting; (try dsimp only); (repeat' split) <;> simp

@[simp] theorem Part.applyDone_frame (p : Part) (r : AckResult) : (p.applyDone r).phase = p.phase ∧ (p.applyDone
    r).resetPin = p.resetPin ∧ (p.applyDone r).now = p.now ∧ (p.applyDone r).line.inbound = p.line.inbound ∧ (p.applyDone
    r).config = p.config ∧ (p.applyDone r).job = p.job ∧ (p.applyDone r).permit = p.permit ∧ (p.applyDone r).path = p.path
    ∧ (p.applyDone r).card = p.card ∧ (p.applyDone r).holds = p.holds ∧ (p.applyDone r).accounts = p.accounts ∧
    (p.applyDone r).store.stored = p.store.stored ∧ (p.applyDone r).store.queue = p.store.queue ∧ (p.applyDone
    r).store.pending = p.store.pending ∧ (p.applyDone r).journal = p.journal ∧ (p.applyDone r).panel = p.panel ∧
    (p.applyDone r).alertOut = p.alertOut ∧ (p.applyDone r).outputs = p.outputs := by
  unfold Part.applyDone; (try dsimp only); (repeat' split) <;> simp

@[simp] theorem Part.intoFlight_frame (p : Part) (h : Nat) : (p.intoFlight h).1.phase = p.phase ∧ (p.intoFlight
    h).1.resetPin = p.resetPin ∧ (p.intoFlight h).1.now = p.now ∧ (p.intoFlight h).1.config = p.config ∧ (p.intoFlight h).1.job
    = p.job ∧ (p.intoFlight h).1.permit = p.permit ∧ (p.intoFlight h).1.path = p.path ∧ (p.intoFlight h).1.card = p.card ∧
    (p.intoFlight h).1.holds = p.holds ∧ (p.intoFlight h).1.accounts = p.accounts ∧ (p.intoFlight h).1.line = p.line ∧
    (p.intoFlight h).1.store.stored = p.store.stored ∧ (p.intoFlight h).1.store.queue = p.store.queue ∧ (p.intoFlight
    h).1.store.pending = p.store.pending ∧ (p.intoFlight h).1.journal = p.journal ∧ (p.intoFlight h).1.panel = p.panel ∧
    (p.intoFlight h).1.alertOut = p.alertOut ∧ (p.intoFlight h).1.outputs = p.outputs := by
  unfold Part.intoFlight; (try dsimp only); (repeat' split) <;> simp

/-- A post that can be made changes the queue alone. -/
theorem Part.tryPost_eq_some {p q : Part} {w : Write} {notes : List Note} :
    p.tryPost w notes = some q ↔ (p.store.hasPlace w = true ∧ q = { p with store := p.store.post w notes }) := by
  unfold Part.tryPost
  split
  · exact ⟨fun h => ⟨‹_›, (Option.some.inj h).symm⟩, fun h => by rw [h.2]⟩
  · exact ⟨fun h => (nomatch h), fun h => absurd h.1 ‹_›⟩

theorem Part.tryPost_frame {p q : Part} {w : Write} {notes : List Note} (h : p.tryPost w notes = some q) :
    q.phase = p.phase ∧ q.resetPin = p.resetPin ∧ q.now = p.now ∧ q.config = p.config ∧ q.job = p.job ∧ q.permit = p.permit ∧
      q.path = p.path ∧ q.card = p.card ∧ q.holds = p.holds ∧ q.accounts = p.accounts ∧ q.settlement = p.settlement ∧
      q.line = p.line ∧ q.store.stored = p.store.stored ∧ q.store.pending = p.store.pending ∧ q.store.work = p.store.work ∧
      q.journal = p.journal ∧ q.panel = p.panel ∧ q.alertOut = p.alertOut ∧ q.outputs = p.outputs := by
  obtain ⟨-, rfl⟩ := Part.tryPost_eq_some.mp h
  simp

@[simp] theorem Part.sendEntry_frame (p : Part) (h : Nat) (b : Bool) : (p.sendEntry h b).1.phase = p.phase ∧ (p.sendEntry
    h b).1.resetPin = p.resetPin ∧ (p.sendEntry h b).1.now = p.now ∧ (p.sendEntry h b).1.line.inbound = p.line.inbound ∧
    (p.sendEntry h b).1.config = p.config ∧ (p.sendEntry h b).1.job = p.job ∧ (p.sendEntry h b).1.permit = p.permit ∧
    (p.sendEntry h b).1.path = p.path ∧ (p.sendEntry h b).1.card = p.card ∧ (p.sendEntry h b).1.holds = p.holds ∧
    (p.sendEntry h b).1.accounts = p.accounts ∧ (p.sendEntry h b).1.store.stored = p.store.stored ∧ (p.sendEntry h
    b).1.store.queue = p.store.queue ∧ (p.sendEntry h b).1.store.pending = p.store.pending ∧ (p.sendEntry h
    b).1.store.work = p.store.work ∧ (p.sendEntry h b).1.journal = p.journal ∧ (p.sendEntry h b).1.panel = p.panel ∧
    (p.sendEntry h b).1.alertOut = p.alertOut ∧ (p.sendEntry h b).1.outputs = p.outputs := by
  unfold Part.sendEntry; (try dsimp only); (repeat' split) <;> simp

/-- All that the post of an entry's raised attempts can do: it changes the queue alone, and is the whole step. -/
theorem Part.stepCountSend_eq_some {p : Part} {n : Nat} {r : Part × List Task} (h : p.stepCountSend n = some r) :
    ∃ q : Store, q.stored = p.store.stored ∧ r = ({ p with store := q }, []) := by
  unfold Part.stepCountSend at h
  split at h
  · exact ⟨p.store, rfl, (Option.some.inj h).symm⟩
  · simp only [Part.justPost, Option.map_eq_some_iff] at h
    obtain ⟨q, hq, rfl⟩ := h
    obtain ⟨-, rfl⟩ := Part.tryPost_eq_some.mp hq
    exact ⟨_, by simp, rfl⟩

@[simp] theorem Part.sendAtOnce_frame (p : Part) (st n : Nat) : (p.sendAtOnce st n).phase = p.phase ∧ (p.sendAtOnce st
    n).resetPin = p.resetPin ∧ (p.sendAtOnce st n).now = p.now ∧ (p.sendAtOnce st n).config = p.config ∧ (p.sendAtOnce st n).job
    = p.job ∧ (p.sendAtOnce st n).permit = p.permit ∧ (p.sendAtOnce st n).path = p.path ∧ (p.sendAtOnce st n).card = p.card ∧
    (p.sendAtOnce st n).holds = p.holds ∧ (p.sendAtOnce st n).accounts = p.accounts ∧ (p.sendAtOnce st n).line.inbound =
    p.line.inbound ∧ (p.sendAtOnce st n).store.stored = p.store.stored ∧ (p.sendAtOnce st n).journal = p.journal ∧
    (p.sendAtOnce st n).panel = p.panel ∧ (p.sendAtOnce st n).alertOut = p.alertOut ∧ (p.sendAtOnce st n).outputs =
    p.outputs := by
  unfold Part.sendAtOnce
  dsimp only
  split
  · next h =>
    obtain ⟨q, hq, rfl⟩ := Part.stepCountSend_eq_some h
    simp [hq]
  · simp

@[simp] theorem Part.entryStored_frame (p : Part) (n : Nat) (b : Bool) : (p.entryStored n b).phase = p.phase ∧
    (p.entryStored n b).resetPin = p.resetPin ∧ (p.entryStored n b).now = p.now ∧ (p.entryStored n b).config = p.config ∧
    (p.entryStored n b).job = p.job ∧ (p.entryStored n b).permit = p.permit ∧ (p.entryStored n b).path = p.path ∧ (p.entryStored
    n b).card = p.card ∧ (p.entryStored n b).holds = p.holds ∧ (p.entryStored n b).accounts = p.accounts ∧ (p.entryStored n
    b).settlement = p.settlement ∧ (p.entryStored n b).line = p.line ∧ (p.entryStored n b).store.stored = p.store.stored ∧
    (p.entryStored n b).store.queue = p.store.queue ∧ (p.entryStored n b).store.pending = p.store.pending ∧ (p.entryStored n
    b).journal = p.journal ∧ (p.entryStored n b).panel = p.panel ∧ (p.entryStored n b).alertOut = p.alertOut ∧ (p.entryStored n
    b).outputs = p.outputs := by
  unfold Part.entryStored; (try dsimp only); (repeat' split) <;> simp

@[simp] theorem Part.quickExpiry_frame (p : Part) (h : Nat) : (p.quickExpiry h).phase = p.phase ∧ (p.quickExpiry h).resetPin
    = p.resetPin ∧ (p.quickExpiry h).now = p.now ∧ (p.quickExpiry h).config = p.config ∧ (p.quickExpiry h).job = p.job ∧
    (p.quickExpiry h).permit = p.permit ∧ (p.quickExpiry h).path = p.path ∧ (p.quickExpiry h).card = p.card ∧ (p.quickExpiry
    h).holds = p.holds ∧ (p.quickExpiry h).accounts = p.accounts ∧ (p.quickExpiry h).line = p.line ∧ (p.quickExpiry
    h).store.stored = p.store.stored ∧ (p.quickExpiry h).store.queue = p.store.queue ∧ (p.quickExpiry h).store.pending =
    p.store.pending ∧ (p.quickExpiry h).journal = p.journal ∧ (p.quickExpiry h).panel = p.panel ∧ (p.quickExpiry h).alertOut =
    p.alertOut ∧ (p.quickExpiry h).outputs = p.outputs := by
  unfold Part.quickExpiry; (try dsimp only); (repeat' split) <;> simp

@[simp] theorem Part.slowExpiry_frame (p : Part) (h : Nat) : (p.slowExpiry h).phase = p.phase ∧ (p.slowExpiry h).resetPin =
    p.resetPin ∧ (p.slowExpiry h).now = p.now ∧ (p.slowExpiry h).config = p.config ∧ (p.slowExpiry h).job = p.job ∧
    (p.slowExpiry h).permit = p.permit ∧ (p.slowExpiry h).path = p.path ∧ (p.slowExpiry h).card = p.card ∧ (p.slowExpiry
    h).holds = p.holds ∧ (p.slowExpiry h).accounts = p.accounts ∧ (p.slowExpiry h).settlement = p.settlement ∧ (p.slowExpiry
    h).line = p.line ∧ (p.slowExpiry h).store.stored = p.store.stored ∧ (p.slowExpiry h).store.queue = p.store.queue ∧
    (p.slowExpiry h).store.pending = p.store.pending ∧ (p.slowExpiry h).journal = p.journal ∧ (p.slowExpiry h).panel = p.panel ∧
    (p.slowExpiry h).alertOut = p.alertOut ∧ (p.slowExpiry h).outputs = p.outputs := by
  unfold Part.slowExpiry; (try dsimp only); (repeat' split) <;> simp

@[simp] theorem Part.heardReport_frame (p : Part) (st : Nat) : (p.heardReport st).phase = p.phase ∧ (p.heardReport
    st).resetPin = p.resetPin ∧ (p.heardReport st).now = p.now ∧ (p.heardReport st).config = p.config ∧ (p.heardReport st).job =
    p.job ∧ (p.heardReport st).permit = p.permit ∧ (p.heardReport st).path = p.path ∧ (p.heardReport st).card = p.card ∧
    (p.heardReport st).holds = p.holds ∧ (p.heardReport st).accounts = p.accounts ∧ (p.heardReport st).line.inbound =
    p.line.inbound ∧ (p.heardReport st).store.stored = p.store.stored ∧ (p.heardReport st).journal = p.journal ∧ (p.heardReport
    st).panel = p.panel ∧ (p.heardReport st).alertOut = p.alertOut ∧ (p.heardReport st).outputs = p.outputs := by
  unfold Part.heardReport; (try dsimp only); (repeat' split) <;> simp

@[simp] theorem Part.takeAck_frame (p : Part) (src h j r : Nat) : (p.takeAck src h j r).phase = p.phase ∧ (p.takeAck src h j
    r).resetPin = p.resetPin ∧ (p.takeAck src h j r).now = p.now ∧ (p.takeAck src h j r).config = p.config ∧ (p.takeAck src h j
    r).job = p.job ∧ (p.takeAck src h j r).permit = p.permit ∧ (p.takeAck src h j r).path = p.path ∧ (p.takeAck src h j r).card
    = p.card ∧ (p.takeAck src h j r).holds = p.holds ∧ (p.takeAck src h j r).accounts = p.accounts ∧ (p.takeAck src h j r).line
    = p.line ∧ (p.takeAck src h j r).store.stored = p.store.stored ∧ (p.takeAck src h j r).store.queue = p.store.queue ∧
    (p.takeAck src h j r).store.pending = p.store.pending ∧ (p.takeAck src h j r).journal = p.journal ∧ (p.takeAck src h j
    r).panel = p.panel ∧ (p.takeAck src h j r).alertOut = p.alertOut ∧ (p.takeAck src h j r).outputs = p.outputs := by
  unfold Part.takeAck; (try dsimp only); (repeat' split) <;> simp

@[simp] theorem Part.handedOff_frame (p : Part) : (p.handedOff).phase = p.phase ∧ (p.handedOff).resetPin = p.resetPin ∧
    (p.handedOff).now = p.now ∧ (p.handedOff).config = p.config ∧ (p.handedOff).permit = p.permit ∧ (p.handedOff).path = p.path
    ∧ (p.handedOff).card = p.card ∧ (p.handedOff).holds = p.holds ∧ (p.handedOff).accounts = p.accounts ∧
    (p.handedOff).settlement = p.settlement ∧ (p.handedOff).line = p.line ∧ (p.handedOff).store.stored = p.store.stored ∧
    (p.handedOff).store.work = p.store.work ∧ (p.handedOff).journal = p.journal ∧ (p.handedOff).alertOut = p.alertOut ∧
    (p.handedOff).outputs = p.outputs := by
  simp [Part.handedOff]

@[simp] theorem Part.withLine_frame (p : Part) (l : Line) : (p.withLine l).phase = p.phase ∧ (p.withLine l).resetPin =
    p.resetPin ∧ (p.withLine l).now = p.now ∧ (p.withLine l).config = p.config ∧ (p.withLine l).job = p.job ∧ (p.withLine
    l).permit = p.permit ∧ (p.withLine l).path = p.path ∧ (p.withLine l).card = p.card ∧ (p.withLine l).holds = p.holds ∧
    (p.withLine l).accounts = p.accounts ∧ (p.withLine l).settlement = p.settlement ∧ (p.withLine l).store.stored =
    p.store.stored ∧ (p.withLine l).store.queue = p.store.queue ∧ (p.withLine l).store.pending = p.store.pending ∧ (p.withLine
    l).store.work = p.store.work ∧ (p.withLine l).journal = p.journal ∧ (p.withLine l).panel = p.panel ∧ (p.withLine l).alertOut
    = p.alertOut ∧ (p.withLine l).outputs = p.outputs ∧ (p.withLine l).line = l := by
  unfold Part.withLine; (try dsimp only); (repeat' split) <;> simp

@[simp] theorem Part.dropFrames_frame (p : Part) (fs : List OutFrame) : (p.dropFrames fs).phase = p.phase ∧ (p.dropFrames
    fs).resetPin = p.resetPin ∧ (p.dropFrames fs).now = p.now ∧ (p.dropFrames fs).line.inbound = p.line.inbound ∧
    (p.dropFrames fs).config = p.config ∧ (p.dropFrames fs).permit = p.permit ∧ (p.dropFrames fs).path = p.path ∧
    (p.dropFrames fs).card = p.card ∧ (p.dropFrames fs).holds = p.holds ∧ (p.dropFrames fs).accounts = p.accounts ∧
    (p.dropFrames fs).store.stored = p.store.stored ∧ (p.dropFrames fs).store.work = p.store.work ∧ (p.dropFrames
    fs).alertOut = p.alertOut ∧ (p.dropFrames fs).outputs = p.outputs := by
  induction fs generalizing p with
  | nil => simp [Part.dropFrames]
  | cons f fs ih => simpa [Part.dropFrames] using ih (p.sendFailed f.ticket)

@[simp] theorem Part.withdraw_frame (p : Part) (n : Nat) : (p.withdraw n).phase = p.phase ∧ (p.withdraw n).resetPin =
    p.resetPin ∧ (p.withdraw n).now = p.now ∧ (p.withdraw n).line.inbound = p.line.inbound ∧ (p.withdraw n).config =
    p.config ∧ (p.withdraw n).permit = p.permit ∧ (p.withdraw n).path = p.path ∧ (p.withdraw n).card = p.card ∧
    (p.withdraw n).holds = p.holds ∧ (p.withdraw n).accounts = p.accounts ∧ (p.withdraw n).store.stored = p.store.stored ∧
    (p.withdraw n).store.work = p.store.work ∧ (p.withdraw n).alertOut = p.alertOut ∧ (p.withdraw n).outputs = p.outputs := by
  unfold Part.withdraw; (try dsimp only); (repeat' split) <;> simp

@[simp] theorem Part.setScore_frame (p : Part) (n : Nat) : (p.setScore n).phase = p.phase ∧ (p.setScore n).resetPin =
    p.resetPin ∧ (p.setScore n).now = p.now ∧ (p.setScore n).line.inbound = p.line.inbound ∧ (p.setScore n).config =
    p.config ∧ (p.setScore n).permit = p.permit ∧ (p.setScore n).path = p.path ∧ (p.setScore n).card = p.card ∧
    (p.setScore n).holds = p.holds ∧ (p.setScore n).accounts = p.accounts ∧ (p.setScore n).store.stored = p.store.stored ∧
    (p.setScore n).store.work = p.store.work ∧ (p.setScore n).alertOut = p.alertOut ∧ (p.setScore n).outputs = p.outputs := by
  unfold Part.setScore; (try dsimp only); (repeat' split) <;> simp

@[simp] theorem Part.raiseScore_frame (p : Part) (n : Nat) : (p.raiseScore n).phase = p.phase ∧ (p.raiseScore n).resetPin
    = p.resetPin ∧ (p.raiseScore n).now = p.now ∧ (p.raiseScore n).line.inbound = p.line.inbound ∧ (p.raiseScore n).config
    = p.config ∧ (p.raiseScore n).permit = p.permit ∧ (p.raiseScore n).path = p.path ∧ (p.raiseScore n).card = p.card ∧
    (p.raiseScore n).holds = p.holds ∧ (p.raiseScore n).accounts = p.accounts ∧ (p.raiseScore n).store.stored =
    p.store.stored ∧ (p.raiseScore n).store.work = p.store.work ∧ (p.raiseScore n).alertOut = p.alertOut ∧ (p.raiseScore
    n).outputs = p.outputs := by
  unfold Part.raiseScore; (try dsimp only); (repeat' split) <;> simp

@[simp] theorem Part.lowerScore_frame (p : Part) : (p.lowerScore).phase = p.phase ∧ (p.lowerScore).resetPin = p.resetPin ∧
    (p.lowerScore).now = p.now ∧ (p.lowerScore).line.inbound = p.line.inbound ∧ (p.lowerScore).config = p.config ∧
    (p.lowerScore).permit = p.permit ∧ (p.lowerScore).path = p.path ∧ (p.lowerScore).card = p.card ∧ (p.lowerScore).holds
    = p.holds ∧ (p.lowerScore).accounts = p.accounts ∧ (p.lowerScore).store.stored = p.store.stored ∧
    (p.lowerScore).store.work = p.store.work ∧ (p.lowerScore).alertOut = p.alertOut ∧ (p.lowerScore).outputs = p.outputs := by
  unfold Part.lowerScore; (try dsimp only); (repeat' split) <;> simp

@[simp] theorem Part.silence_frame (p : Part) : (p.silence).phase = p.phase ∧ (p.silence).resetPin = p.resetPin ∧
    (p.silence).now = p.now ∧ (p.silence).line.inbound = p.line.inbound ∧ (p.silence).config = p.config ∧
    (p.silence).permit = p.permit ∧ (p.silence).path = p.path ∧ (p.silence).card = p.card ∧ (p.silence).holds = p.holds ∧
    (p.silence).accounts = p.accounts ∧ (p.silence).store.stored = p.store.stored ∧ (p.silence).store.work = p.store.work
    ∧ (p.silence).alertOut = p.alertOut ∧ (p.silence).outputs = p.outputs := by
  unfold Part.silence; (try dsimp only); (repeat' split) <;> simp

@[simp] theorem Part.announceSelf_frame (p : Part) : (p.announceSelf).phase = p.phase ∧ (p.announceSelf).resetPin =
    p.resetPin ∧ (p.announceSelf).now = p.now ∧ (p.announceSelf).line.inbound = p.line.inbound ∧ (p.announceSelf).config =
    p.config ∧ (p.announceSelf).job = p.job ∧ (p.announceSelf).permit = p.permit ∧ (p.announceSelf).path = p.path ∧
    (p.announceSelf).card = p.card ∧ (p.announceSelf).holds = p.holds ∧ (p.announceSelf).accounts = p.accounts ∧
    (p.announceSelf).settlement = p.settlement ∧ (p.announceSelf).store.stored = p.store.stored ∧
    (p.announceSelf).store.queue = p.store.queue ∧ (p.announceSelf).store.pending = p.store.pending ∧
    (p.announceSelf).store.work = p.store.work ∧ (p.announceSelf).journal = p.journal ∧ (p.announceSelf).panel = p.panel ∧
    (p.announceSelf).alertOut = p.alertOut ∧ (p.announceSelf).outputs = p.outputs := by
  unfold Part.announceSelf; (try dsimp only); (repeat' split) <;> simp

@[simp] theorem Part.startFrame_frame (p : Part) : (p.startFrame).phase = p.phase ∧ (p.startFrame).resetPin = p.resetPin ∧
    (p.startFrame).now = p.now ∧ (p.startFrame).line.inbound = p.line.inbound ∧ (p.startFrame).config = p.config ∧
    (p.startFrame).job = p.job ∧ (p.startFrame).permit = p.permit ∧ (p.startFrame).path = p.path ∧ (p.startFrame).card =
    p.card ∧ (p.startFrame).holds = p.holds ∧ (p.startFrame).accounts = p.accounts ∧ (p.startFrame).settlement =
    p.settlement ∧ (p.startFrame).store.stored = p.store.stored ∧ (p.startFrame).store.queue = p.store.queue ∧
    (p.startFrame).store.pending = p.store.pending ∧ (p.startFrame).store.work = p.store.work ∧ (p.startFrame).journal =
    p.journal ∧ (p.startFrame).panel = p.panel ∧ (p.startFrame).alertOut = p.alertOut ∧ (p.startFrame).outputs = p.outputs := by
  unfold Part.startFrame; (try dsimp only); (repeat' split) <;> simp

@[simp] theorem Part.endWithdrawal_frame (p : Part) : (p.endWithdrawal).phase = p.phase ∧ (p.endWithdrawal).resetPin =
    p.resetPin ∧ (p.endWithdrawal).now = p.now ∧ (p.endWithdrawal).line.inbound = p.line.inbound ∧
    (p.endWithdrawal).config = p.config ∧ (p.endWithdrawal).job = p.job ∧ (p.endWithdrawal).permit = p.permit ∧
    (p.endWithdrawal).path = p.path ∧ (p.endWithdrawal).card = p.card ∧ (p.endWithdrawal).holds = p.holds ∧
    (p.endWithdrawal).accounts = p.accounts ∧ (p.endWithdrawal).settlement = p.settlement ∧ (p.endWithdrawal).store.stored
    = p.store.stored ∧ (p.endWithdrawal).store.queue = p.store.queue ∧ (p.endWithdrawal).store.pending = p.store.pending ∧
    (p.endWithdrawal).store.work = p.store.work ∧ (p.endWithdrawal).journal = p.journal ∧ (p.endWithdrawal).alertOut =
    p.alertOut ∧ (p.endWithdrawal).outputs = p.outputs := by
  unfold Part.endWithdrawal; (try dsimp only); (repeat' split) <;> simp

@[simp] theorem Part.rest_frame (p : Part) (b : Bool) : (p.rest b).phase = p.phase ∧ (p.rest b).resetPin = p.resetPin ∧
    (p.rest b).now = p.now ∧ (p.rest b).line.inbound = p.line.inbound ∧ (p.rest b).config = p.config ∧ (p.rest b).job =
    p.job ∧ (p.rest b).permit = p.permit ∧ (p.rest b).path = p.path ∧ (p.rest b).card = p.card ∧ (p.rest b).holds =
    p.holds ∧ (p.rest b).accounts = p.accounts ∧ (p.rest b).settlement = p.settlement ∧ (p.rest b).store.stored =
    p.store.stored ∧ (p.rest b).store.queue = p.store.queue ∧ (p.rest b).store.pending = p.store.pending ∧ (p.rest
    b).store.work = p.store.work ∧ (p.rest b).journal = p.journal ∧ (p.rest b).alertOut = p.alertOut ∧ (p.rest b).outputs
    = p.outputs := by
  unfold Part.rest; (try dsimp only); (repeat' split) <;> simp

@[simp] theorem Part.restAfter_frame (p : Part) (q : Part) : (p.restAfter q).phase = p.phase ∧ (p.restAfter q).resetPin =
    p.resetPin ∧ (p.restAfter q).now = p.now ∧ (p.restAfter q).line.inbound = p.line.inbound ∧ (p.restAfter q).config =
    p.config ∧ (p.restAfter q).job = p.job ∧ (p.restAfter q).permit = p.permit ∧ (p.restAfter q).path = p.path ∧
    (p.restAfter q).card = p.card ∧ (p.restAfter q).holds = p.holds ∧ (p.restAfter q).accounts = p.accounts ∧ (p.restAfter
    q).settlement = p.settlement ∧ (p.restAfter q).store.stored = p.store.stored ∧ (p.restAfter q).store.queue =
    p.store.queue ∧ (p.restAfter q).store.pending = p.store.pending ∧ (p.restAfter q).store.work = p.store.work ∧
    (p.restAfter q).journal = p.journal ∧ (p.restAfter q).alertOut = p.alertOut ∧ (p.restAfter q).outputs = p.outputs := by
  unfold Part.restAfter; (try dsimp only); (repeat' split) <;> simp

@[simp] theorem Part.quietRest_frame (p : Part) : (p.quietRest).phase = p.phase ∧ (p.quietRest).resetPin = p.resetPin ∧
    (p.quietRest).now = p.now ∧ (p.quietRest).line.inbound = p.line.inbound ∧ (p.quietRest).config = p.config ∧
    (p.quietRest).job = p.job ∧ (p.quietRest).permit = p.permit ∧ (p.quietRest).path = p.path ∧ (p.quietRest).card =
    p.card ∧ (p.quietRest).holds = p.holds ∧ (p.quietRest).accounts = p.accounts ∧ (p.quietRest).settlement = p.settlement
    ∧ (p.quietRest).store.stored = p.store.stored ∧ (p.quietRest).store.queue = p.store.queue ∧
    (p.quietRest).store.pending = p.store.pending ∧ (p.quietRest).store.work = p.store.work ∧ (p.quietRest).journal =
    p.journal ∧ (p.quietRest).alertOut = p.alertOut ∧ (p.quietRest).outputs = p.outputs := by
  unfold Part.quietRest; (try dsimp only); (repeat' split) <;> simp

@[simp] theorem Part.contentionLost_frame (p : Part) : (p.contentionLost).phase = p.phase ∧ (p.contentionLost).resetPin =
    p.resetPin ∧ (p.contentionLost).now = p.now ∧ (p.contentionLost).line.inbound = p.line.inbound ∧
    (p.contentionLost).config = p.config ∧ (p.contentionLost).job = p.job ∧ (p.contentionLost).permit = p.permit ∧
    (p.contentionLost).path = p.path ∧ (p.contentionLost).card = p.card ∧ (p.contentionLost).holds = p.holds ∧
    (p.contentionLost).accounts = p.accounts ∧ (p.contentionLost).settlement = p.settlement ∧
    (p.contentionLost).store.stored = p.store.stored ∧ (p.contentionLost).store.queue = p.store.queue ∧
    (p.contentionLost).store.pending = p.store.pending ∧ (p.contentionLost).store.work = p.store.work ∧
    (p.contentionLost).journal = p.journal ∧ (p.contentionLost).panel = p.panel ∧ (p.contentionLost).alertOut = p.alertOut
    ∧ (p.contentionLost).outputs = p.outputs := by
  unfold Part.contentionLost; (try dsimp only); (repeat' split) <;> simp

@[simp] theorem Part.sendAnswered_frame (p : Part) (t : Nat) : (p.sendAnswered t).phase = p.phase ∧ (p.sendAnswered
    t).resetPin = p.resetPin ∧ (p.sendAnswered t).now = p.now ∧ (p.sendAnswered t).line.inbound = p.line.inbound ∧
    (p.sendAnswered t).config = p.config ∧ (p.sendAnswered t).permit = p.permit ∧ (p.sendAnswered t).path = p.path ∧
    (p.sendAnswered t).card = p.card ∧ (p.sendAnswered t).holds = p.holds ∧ (p.sendAnswered t).accounts = p.accounts ∧
    (p.sendAnswered t).store.stored = p.store.stored ∧ (p.sendAnswered t).store.work = p.store.work ∧ (p.sendAnswered
    t).alertOut = p.alertOut ∧ (p.sendAnswered t).outputs = p.outputs := by
  unfold Part.sendAnswered; (try dsimp only); (repeat' split) <;> simp

@[simp] theorem Part.sendUnanswered_frame (p : Part) (t : Nat) : (p.sendUnanswered t).phase = p.phase ∧ (p.sendUnanswered
    t).resetPin = p.resetPin ∧ (p.sendUnanswered t).now = p.now ∧ (p.sendUnanswered t).line.inbound = p.line.inbound ∧
    (p.sendUnanswered t).config = p.config ∧ (p.sendUnanswered t).permit = p.permit ∧ (p.sendUnanswered t).path = p.path ∧
    (p.sendUnanswered t).card = p.card ∧ (p.sendUnanswered t).holds = p.holds ∧ (p.sendUnanswered t).accounts = p.accounts
    ∧ (p.sendUnanswered t).store.stored = p.store.stored ∧ (p.sendUnanswered t).store.work = p.store.work ∧
    (p.sendUnanswered t).alertOut = p.alertOut ∧ (p.sendUnanswered t).outputs = p.outputs := by
  unfold Part.sendUnanswered; (try dsimp only); (repeat' split) <;> simp

@[simp] theorem Part.sendOutcome_frame (p : Part) (t : Nat) (b : Bool) : (p.sendOutcome t b).phase = p.phase ∧
    (p.sendOutcome t b).resetPin = p.resetPin ∧ (p.sendOutcome t b).now = p.now ∧ (p.sendOutcome t b).line.inbound =
    p.line.inbound ∧ (p.sendOutcome t b).config = p.config ∧ (p.sendOutcome t b).permit = p.permit ∧ (p.sendOutcome t
    b).path = p.path ∧ (p.sendOutcome t b).card = p.card ∧ (p.sendOutcome t b).holds = p.holds ∧ (p.sendOutcome t
    b).accounts = p.accounts ∧ (p.sendOutcome t b).store.stored = p.store.stored ∧ (p.sendOutcome t b).store.work =
    p.store.work ∧ (p.sendOutcome t b).alertOut = p.alertOut ∧ (p.sendOutcome t b).outputs = p.outputs := by
  unfold Part.sendOutcome; (try dsimp only); (repeat' split) <;> simp

@[simp] theorem Part.hear_frame (p : Part) (st : Nat) : (p.hear st).phase = p.phase ∧ (p.hear st).resetPin = p.resetPin ∧
    (p.hear st).now = p.now ∧ (p.hear st).line.inbound = p.line.inbound ∧ (p.hear st).config = p.config ∧ (p.hear st).job
    = p.job ∧ (p.hear st).permit = p.permit ∧ (p.hear st).path = p.path ∧ (p.hear st).card = p.card ∧ (p.hear st).holds =
    p.holds ∧ (p.hear st).accounts = p.accounts ∧ (p.hear st).settlement = p.settlement ∧ (p.hear st).store.stored =
    p.store.stored ∧ (p.hear st).store.queue = p.store.queue ∧ (p.hear st).store.pending = p.store.pending ∧ (p.hear
    st).store.work = p.store.work ∧ (p.hear st).journal = p.journal ∧ (p.hear st).panel = p.panel ∧ (p.hear st).alertOut =
    p.alertOut ∧ (p.hear st).outputs = p.outputs := by
  unfold Part.hear; (try dsimp only); (repeat' split) <;> simp

@[simp] theorem Part.queueFrame_frame (p : Part) (src d : Nat) (m : Message) : (p.queueFrame src d m).phase = p.phase ∧
    (p.queueFrame src d m).resetPin = p.resetPin ∧ (p.queueFrame src d m).now = p.now ∧ (p.queueFrame src d m).config = p.config
    ∧ (p.queueFrame src d m).job = p.job ∧ (p.queueFrame src d m).permit = p.permit ∧ (p.queueFrame src d m).path = p.path ∧
    (p.queueFrame src d m).card = p.card ∧ (p.queueFrame src d m).holds = p.holds ∧ (p.queueFrame src d m).accounts = p.accounts
    ∧ (p.queueFrame src d m).settlement = p.settlement ∧ (p.queueFrame src d m).store.stored = p.store.stored ∧ (p.queueFrame
    src d m).store.queue = p.store.queue ∧ (p.queueFrame src d m).store.pending = p.store.pending ∧ (p.queueFrame src d
    m).store.work = p.store.work ∧ (p.queueFrame src d m).journal = p.journal ∧ (p.queueFrame src d m).panel = p.panel ∧
    (p.queueFrame src d m).alertOut = p.alertOut ∧ (p.queueFrame src d m).outputs = p.outputs := by
  unfold Part.queueFrame; (try dsimp only); (repeat' split) <;> simp

@[simp] theorem Part.takeAccepted_frame (p : Part) (src d : Nat) (m : Message) : (p.takeAccepted src d m).phase = p.phase ∧
    (p.takeAccepted src d m).resetPin = p.resetPin ∧ (p.takeAccepted src d m).now = p.now ∧ (p.takeAccepted src d m).config =
    p.config ∧ (p.takeAccepted src d m).path = p.path ∧ (p.takeAccepted src d m).holds = p.holds ∧ (p.takeAccepted src d
    m).accounts = p.accounts ∧ (p.takeAccepted src d m).store.stored = p.store.stored ∧ (p.takeAccepted src d m).alertOut =
    p.alertOut := by
  unfold Part.takeAccepted; (try dsimp only); (repeat' split) <;> simp

@[simp] theorem Part.acceptFrame_frame (p : Part) (src d : Nat) (m : Option Message) : (p.acceptFrame src d m).phase =
    p.phase ∧ (p.acceptFrame src d m).resetPin = p.resetPin ∧ (p.acceptFrame src d m).now = p.now ∧ (p.acceptFrame src d
    m).config = p.config ∧ (p.acceptFrame src d m).path = p.path ∧ (p.acceptFrame src d m).holds = p.holds ∧ (p.acceptFrame src
    d m).accounts = p.accounts ∧ (p.acceptFrame src d m).store.stored = p.store.stored ∧ (p.acceptFrame src d m).alertOut =
    p.alertOut := by
  unfold Part.acceptFrame; (try dsimp only); (repeat' split) <;> simp

@[simp] theorem Part.takeGood_frame (p : Part) (src d : Nat) (m : Option Message) : (p.takeGood src d m).phase = p.phase ∧
    (p.takeGood src d m).resetPin = p.resetPin ∧ (p.takeGood src d m).now = p.now ∧ (p.takeGood src d m).config = p.config ∧
    (p.takeGood src d m).path = p.path ∧ (p.takeGood src d m).holds = p.holds ∧ (p.takeGood src d m).accounts = p.accounts ∧
    (p.takeGood src d m).store.stored = p.store.stored ∧ (p.takeGood src d m).alertOut = p.alertOut := by
  unfold Part.takeGood; (try dsimp only); (repeat' split) <;> simp

@[simp] theorem Part.takeSilent_frame (p : Part) (src d : Nat) (m : Option Message) : (p.takeSilent src d m).phase = p.phase
    ∧ (p.takeSilent src d m).resetPin = p.resetPin ∧ (p.takeSilent src d m).now = p.now ∧ (p.takeSilent src d m).config =
    p.config ∧ (p.takeSilent src d m).job = p.job ∧ (p.takeSilent src d m).permit = p.permit ∧ (p.takeSilent src d m).path =
    p.path ∧ (p.takeSilent src d m).card = p.card ∧ (p.takeSilent src d m).holds = p.holds ∧ (p.takeSilent src d m).accounts =
    p.accounts ∧ (p.takeSilent src d m).settlement = p.settlement ∧ (p.takeSilent src d m).store.stored = p.store.stored ∧
    (p.takeSilent src d m).store.queue = p.store.queue ∧ (p.takeSilent src d m).store.pending = p.store.pending ∧ (p.takeSilent
    src d m).store.work = p.store.work ∧ (p.takeSilent src d m).journal = p.journal ∧ (p.takeSilent src d m).panel = p.panel ∧
    (p.takeSilent src d m).alertOut = p.alertOut ∧ (p.takeSilent src d m).outputs = p.outputs := by
  unfold Part.takeSilent; (try dsimp only); (repeat' split) <;> simp

@[simp] theorem Part.takeTransmission_frame (p : Part) (bs : List Byte) : (p.takeTransmission bs).phase = p.phase ∧
    (p.takeTransmission bs).resetPin = p.resetPin ∧ (p.takeTransmission bs).now = p.now ∧ (p.takeTransmission bs).config =
    p.config ∧ (p.takeTransmission bs).path = p.path ∧ (p.takeTransmission bs).holds = p.holds ∧ (p.takeTransmission
    bs).accounts = p.accounts ∧ (p.takeTransmission bs).store.stored = p.store.stored ∧ (p.takeTransmission bs).alertOut =
    p.alertOut := by
  unfold Part.takeTransmission; (try dsimp only); (repeat' split) <;> simp

@[simp] theorem Part.receive_frame (p : Part) (bs : List Byte) : (p.receive bs).phase = p.phase ∧ (p.receive bs).resetPin =
    p.resetPin ∧ (p.receive bs).now = p.now ∧ (p.receive bs).config = p.config ∧ (p.receive bs).path = p.path ∧ (p.receive
    bs).holds = p.holds ∧ (p.receive bs).accounts = p.accounts ∧ (p.receive bs).store.stored = p.store.stored ∧ (p.receive
    bs).alertOut = p.alertOut := by
  unfold Part.receive; (try dsimp only); (repeat' split) <;> simp

@[simp] theorem Part.recoverApply_frame (p : Part) : (p.recoverApply).1.phase = p.phase ∧ (p.recoverApply).1.resetPin =
    p.resetPin ∧ (p.recoverApply).1.now = p.now ∧ (p.recoverApply).1.config = p.config ∧ (p.recoverApply).1.job = p.job ∧
    (p.recoverApply).1.permit = p.permit ∧ (p.recoverApply).1.path = p.path ∧ (p.recoverApply).1.card = p.card ∧
    (p.recoverApply).1.holds = p.holds ∧ (p.recoverApply).1.accounts = p.accounts ∧ (p.recoverApply).1.settlement = p.settlement
    ∧ (p.recoverApply).1.line = p.line ∧ (p.recoverApply).1.store.stored = p.store.stored ∧ (p.recoverApply).1.store.queue =
    p.store.queue ∧ (p.recoverApply).1.store.pending = p.store.pending ∧ (p.recoverApply).1.store.work = p.store.work ∧
    (p.recoverApply).1.journal = p.journal ∧ (p.recoverApply).1.panel = p.panel ∧ (p.recoverApply).1.alertOut = p.alertOut ∧
    (p.recoverApply).1.outputs = p.outputs := by
  unfold Part.recoverApply; (try dsimp only); (repeat' split) <;> simp

@[simp] theorem Part.recoverCheckpoint_frame (p : Part) : (p.recoverCheckpoint).1.phase = p.phase ∧
    (p.recoverCheckpoint).1.resetPin = p.resetPin ∧ (p.recoverCheckpoint).1.now = p.now ∧ (p.recoverCheckpoint).1.config =
    p.config ∧ (p.recoverCheckpoint).1.job = p.job ∧ (p.recoverCheckpoint).1.permit = p.permit ∧ (p.recoverCheckpoint).1.path =
    p.path ∧ (p.recoverCheckpoint).1.card = p.card ∧ (p.recoverCheckpoint).1.holds = p.holds ∧ (p.recoverCheckpoint).1.accounts
    = p.accounts ∧ (p.recoverCheckpoint).1.line = p.line ∧ (p.recoverCheckpoint).1.store.stored = p.store.stored ∧
    (p.recoverCheckpoint).1.store.queue = p.store.queue ∧ (p.recoverCheckpoint).1.store.pending = p.store.pending ∧
    (p.recoverCheckpoint).1.panel = p.panel ∧ (p.recoverCheckpoint).1.alertOut = p.alertOut ∧ (p.recoverCheckpoint).1.outputs =
    p.outputs := by
  unfold Part.recoverCheckpoint; (try dsimp only); (repeat' split) <;> simp

@[simp] theorem Part.settleCheckpoint_frame (p : Part) (st : JournalStatus) : (p.settleCheckpoint st).1.phase = p.phase ∧
    (p.settleCheckpoint st).1.resetPin = p.resetPin ∧ (p.settleCheckpoint st).1.now = p.now ∧ (p.settleCheckpoint st).1.config =
    p.config ∧ (p.settleCheckpoint st).1.job = p.job ∧ (p.settleCheckpoint st).1.permit = p.permit ∧ (p.settleCheckpoint
    st).1.path = p.path ∧ (p.settleCheckpoint st).1.card = p.card ∧ (p.settleCheckpoint st).1.holds = p.holds ∧
    (p.settleCheckpoint st).1.accounts = p.accounts ∧ (p.settleCheckpoint st).1.settlement = p.settlement ∧ (p.settleCheckpoint
    st).1.line = p.line ∧ (p.settleCheckpoint st).1.store.stored = p.store.stored ∧ (p.settleCheckpoint st).1.store.queue =
    p.store.queue ∧ (p.settleCheckpoint st).1.store.pending = p.store.pending ∧ (p.settleCheckpoint st).1.store.work =
    p.store.work ∧ (p.settleCheckpoint st).1.journal = p.journal ∧ (p.settleCheckpoint st).1.panel = p.panel ∧
    (p.settleCheckpoint st).1.alertOut = p.alertOut ∧ (p.settleCheckpoint st).1.outputs = p.outputs := by
  unfold Part.settleCheckpoint; (try dsimp only); (repeat' split) <;> simp

@[simp] theorem Part.recoverHolds_frame (p : Part) : (p.recoverHolds).1.phase = p.phase ∧ (p.recoverHolds).1.resetPin =
    p.resetPin ∧ (p.recoverHolds).1.now = p.now ∧ (p.recoverHolds).1.config = p.config ∧ (p.recoverHolds).1.job = p.job ∧
    (p.recoverHolds).1.permit = p.permit ∧ (p.recoverHolds).1.path = p.path ∧ (p.recoverHolds).1.card = p.card ∧
    (p.recoverHolds).1.holds = p.holds ∧ (p.recoverHolds).1.accounts = p.accounts ∧ (p.recoverHolds).1.settlement = p.settlement
    ∧ (p.recoverHolds).1.line = p.line ∧ (p.recoverHolds).1.store.stored = p.store.stored ∧ (p.recoverHolds).1.store.queue =
    p.store.queue ∧ (p.recoverHolds).1.store.pending = p.store.pending ∧ (p.recoverHolds).1.store.work = p.store.work ∧
    (p.recoverHolds).1.journal = p.journal ∧ (p.recoverHolds).1.panel = p.panel ∧ (p.recoverHolds).1.alertOut = p.alertOut ∧
    (p.recoverHolds).1.outputs = p.outputs := by
  unfold Part.recoverHolds; (try dsimp only); (repeat' split) <;> simp

@[simp] theorem Part.holdsInService_frame (p : Part) : (p.holdsInService).phase = p.phase ∧ (p.holdsInService).resetPin =
    p.resetPin ∧ (p.holdsInService).now = p.now ∧ (p.holdsInService).config = p.config ∧ (p.holdsInService).job = p.job ∧
    (p.holdsInService).permit = p.permit ∧ (p.holdsInService).path = p.path ∧ (p.holdsInService).card = p.card ∧
    (p.holdsInService).settlement = p.settlement ∧ (p.holdsInService).line = p.line ∧ (p.holdsInService).store.stored =
    p.store.stored ∧ (p.holdsInService).store.queue = p.store.queue ∧ (p.holdsInService).store.pending = p.store.pending ∧
    (p.holdsInService).store.work = p.store.work ∧ (p.holdsInService).journal = p.journal ∧ (p.holdsInService).panel = p.panel ∧
    (p.holdsInService).alertOut = p.alertOut ∧ (p.holdsInService).outputs = p.outputs := by
  unfold Part.holdsInService; (try dsimp only); (repeat' split) <;> simp

@[simp] theorem Part.recoverFloat_frame (p : Part) : (p.recoverFloat).phase = p.phase ∧ (p.recoverFloat).resetPin =
    p.resetPin ∧ (p.recoverFloat).now = p.now ∧ (p.recoverFloat).config = p.config ∧ (p.recoverFloat).job = p.job ∧
    (p.recoverFloat).permit = p.permit ∧ (p.recoverFloat).path = p.path ∧ (p.recoverFloat).card = p.card ∧
    (p.recoverFloat).holds = p.holds ∧ (p.recoverFloat).accounts = p.accounts ∧ (p.recoverFloat).line = p.line ∧
    (p.recoverFloat).store.stored = p.store.stored ∧ (p.recoverFloat).store.queue = p.store.queue ∧
    (p.recoverFloat).store.pending = p.store.pending ∧ (p.recoverFloat).store.work = p.store.work ∧ (p.recoverFloat).journal =
    p.journal ∧ (p.recoverFloat).panel = p.panel ∧ (p.recoverFloat).alertOut = p.alertOut ∧ (p.recoverFloat).outputs = p.outputs
    := by
  unfold Part.recoverFloat; (try dsimp only); (repeat' split) <;> simp

@[simp] theorem Part.recoverWalk_frame (p : Part) : (p.recoverWalk).phase = p.phase ∧ (p.recoverWalk).resetPin = p.resetPin
    ∧ (p.recoverWalk).now = p.now ∧ (p.recoverWalk).config = p.config ∧ (p.recoverWalk).job = p.job ∧ (p.recoverWalk).permit =
    p.permit ∧ (p.recoverWalk).path = p.path ∧ (p.recoverWalk).card = p.card ∧ (p.recoverWalk).holds = p.holds ∧
    (p.recoverWalk).settlement = p.settlement ∧ (p.recoverWalk).line = p.line ∧ (p.recoverWalk).store.stored = p.store.stored ∧
    (p.recoverWalk).store.queue = p.store.queue ∧ (p.recoverWalk).store.pending = p.store.pending ∧ (p.recoverWalk).journal =
    p.journal ∧ (p.recoverWalk).panel = p.panel ∧ (p.recoverWalk).alertOut = p.alertOut ∧ (p.recoverWalk).outputs = p.outputs :=
    by
  unfold Part.recoverWalk; (try dsimp only); (repeat' split) <;> simp

@[simp] theorem Part.lineInService_frame (p : Part) : (p.lineInService).phase = p.phase ∧ (p.lineInService).resetPin =
    p.resetPin ∧ (p.lineInService).now = p.now ∧ (p.lineInService).line.inbound = p.line.inbound ∧
    (p.lineInService).config = p.config ∧ (p.lineInService).job = p.job ∧ (p.lineInService).permit = p.permit ∧
    (p.lineInService).path = p.path ∧ (p.lineInService).card = p.card ∧ (p.lineInService).holds = p.holds ∧
    (p.lineInService).accounts = p.accounts ∧ (p.lineInService).settlement = p.settlement ∧ (p.lineInService).store.stored
    = p.store.stored ∧ (p.lineInService).store.queue = p.store.queue ∧ (p.lineInService).store.pending = p.store.pending ∧
    (p.lineInService).store.work = p.store.work ∧ (p.lineInService).journal = p.journal ∧ (p.lineInService).panel =
    p.panel ∧ (p.lineInService).alertOut = p.alertOut ∧ (p.lineInService).outputs = p.outputs := by
  unfold Part.lineInService; (try dsimp only); (repeat' split) <;> simp

@[simp] theorem Part.assignFlights_frame (p : Part) (l : List Nat) : (l.foldl (fun q home => q.assign .settlement
    [.intoFlight home]) p).phase = p.phase ∧ (l.foldl (fun q home => q.assign .settlement [.intoFlight home]) p).resetPin =
    p.resetPin ∧ (l.foldl (fun q home => q.assign .settlement [.intoFlight home]) p).now = p.now ∧ (l.foldl (fun q home =>
    q.assign .settlement [.intoFlight home]) p).config = p.config ∧ (l.foldl (fun q home => q.assign .settlement [.intoFlight
    home]) p).job = p.job ∧ (l.foldl (fun q home => q.assign .settlement [.intoFlight home]) p).permit = p.permit ∧ (l.foldl
    (fun q home => q.assign .settlement [.intoFlight home]) p).path = p.path ∧ (l.foldl (fun q home => q.assign .settlement
    [.intoFlight home]) p).card = p.card ∧ (l.foldl (fun q home => q.assign .settlement [.intoFlight home]) p).holds = p.holds ∧
    (l.foldl (fun q home => q.assign .settlement [.intoFlight home]) p).accounts = p.accounts ∧ (l.foldl (fun q home => q.assign
    .settlement [.intoFlight home]) p).settlement = p.settlement ∧ (l.foldl (fun q home => q.assign .settlement [.intoFlight
    home]) p).line = p.line ∧ (l.foldl (fun q home => q.assign .settlement [.intoFlight home]) p).store.stored = p.store.stored
    ∧ (l.foldl (fun q home => q.assign .settlement [.intoFlight home]) p).store.queue = p.store.queue ∧ (l.foldl (fun q home =>
    q.assign .settlement [.intoFlight home]) p).store.pending = p.store.pending ∧ (l.foldl (fun q home => q.assign .settlement
    [.intoFlight home]) p).journal = p.journal ∧ (l.foldl (fun q home => q.assign .settlement [.intoFlight home]) p).panel =
    p.panel ∧ (l.foldl (fun q home => q.assign .settlement [.intoFlight home]) p).alertOut = p.alertOut ∧ (l.foldl (fun q home
    => q.assign .settlement [.intoFlight home]) p).outputs = p.outputs := by
  induction l generalizing p with
  | nil => simp
  | cons x xs ih => simpa using ih (p.assign .settlement [.intoFlight x])

@[simp] theorem Part.enterService_frame (p : Part) : (p.enterService).resetPin = p.resetPin ∧ (p.enterService).now = p.now
    ∧ (p.enterService).line.inbound = p.line.inbound ∧ (p.enterService).config = p.config ∧ (p.enterService).job = p.job ∧
    (p.enterService).permit = p.permit ∧ (p.enterService).path = p.path ∧ (p.enterService).card = p.card ∧
    (p.enterService).accounts = p.accounts ∧ (p.enterService).store.stored = p.store.stored ∧ (p.enterService).store.queue
    = p.store.queue ∧ (p.enterService).store.pending = p.store.pending ∧ (p.enterService).journal = p.journal ∧
    (p.enterService).alertOut = p.alertOut := by
  unfold Part.enterService; dsimp only; (repeat' split) <;> simp

@[simp] theorem Part.withWork_frame (p : Part) (w : List Work) : (p.withWork w).phase = p.phase ∧ (p.withWork w).resetPin =
    p.resetPin ∧ (p.withWork w).now = p.now ∧ (p.withWork w).config = p.config ∧ (p.withWork w).job = p.job ∧ (p.withWork
    w).permit = p.permit ∧ (p.withWork w).path = p.path ∧ (p.withWork w).card = p.card ∧ (p.withWork w).holds = p.holds ∧
    (p.withWork w).accounts = p.accounts ∧ (p.withWork w).settlement = p.settlement ∧ (p.withWork w).line = p.line ∧ (p.withWork
    w).store.stored = p.store.stored ∧ (p.withWork w).store.queue = p.store.queue ∧ (p.withWork w).store.pending =
    p.store.pending ∧ (p.withWork w).journal = p.journal ∧ (p.withWork w).panel = p.panel ∧ (p.withWork w).alertOut = p.alertOut
    ∧ (p.withWork w).outputs = p.outputs := by
  unfold Part.withWork; (try dsimp only); (repeat' split) <;> simp

@[simp] theorem Part.fill_frame (p : Part) : (p.fill).phase = p.phase ∧ (p.fill).resetPin = p.resetPin ∧ (p.fill).now =
    p.now ∧ (p.fill).config = p.config ∧ (p.fill).job = p.job ∧ (p.fill).permit = p.permit ∧ (p.fill).path = p.path ∧
    (p.fill).card = p.card ∧ (p.fill).holds = p.holds ∧ (p.fill).accounts = p.accounts ∧ (p.fill).settlement = p.settlement ∧
    (p.fill).line = p.line ∧ (p.fill).store.stored = p.store.stored ∧ (p.fill).store.work = p.store.work ∧ (p.fill).journal =
    p.journal ∧ (p.fill).panel = p.panel ∧ (p.fill).alertOut = p.alertOut ∧ (p.fill).outputs = p.outputs := by
  simp [Part.fill, Store.fill]

/-- Marking that a post waits changes the store's work alone. -/
theorem Part.markWait_eq_some {p q : Part} (h : p.markWait = some q) : ∃ work, q = p.withWork work := by
  obtain ⟨w, -, rfl⟩ := Option.map_eq_some_iff.mp h
  exact ⟨_, rfl⟩

@[simp] theorem Part.reactIdle_frame (p : Part) (q : Part) : (p.reactIdle q).phase = p.phase ∧ (p.reactIdle q).resetPin =
    p.resetPin ∧ (p.reactIdle q).now = p.now ∧ (p.reactIdle q).config = p.config ∧ (p.reactIdle q).path = p.path ∧ (p.reactIdle
    q).holds = p.holds ∧ (p.reactIdle q).accounts = p.accounts ∧ (p.reactIdle q).line = p.line ∧ (p.reactIdle q).store.stored =
    p.store.stored ∧ (p.reactIdle q).store.queue = p.store.queue ∧ (p.reactIdle q).store.pending = p.store.pending ∧
    (p.reactIdle q).journal = p.journal ∧ (p.reactIdle q).alertOut = p.alertOut := by
  unfold Part.reactIdle; (try dsimp only); (repeat' split) <;> simp

@[simp] theorem Part.journalLow_frame (p : Part) (q : Part) : (p.journalLow q).phase = p.phase ∧ (p.journalLow q).resetPin =
    p.resetPin ∧ (p.journalLow q).now = p.now ∧ (p.journalLow q).config = p.config ∧ (p.journalLow q).job = p.job ∧
    (p.journalLow q).permit = p.permit ∧ (p.journalLow q).path = p.path ∧ (p.journalLow q).card = p.card ∧ (p.journalLow
    q).holds = p.holds ∧ (p.journalLow q).accounts = p.accounts ∧ (p.journalLow q).settlement = p.settlement ∧ (p.journalLow
    q).line = p.line ∧ (p.journalLow q).store.stored = p.store.stored ∧ (p.journalLow q).store.queue = p.store.queue ∧
    (p.journalLow q).store.pending = p.store.pending ∧ (p.journalLow q).store.work = p.store.work ∧ (p.journalLow q).journal =
    p.journal ∧ (p.journalLow q).alertOut = p.alertOut ∧ (p.journalLow q).outputs = p.outputs := by
  unfold Part.journalLow; (try dsimp only); (repeat' split) <;> simp

@[simp] theorem Part.alert_frame (p : Part) : (p.alert).phase = p.phase ∧ (p.alert).resetPin = p.resetPin ∧ (p.alert).now =
    p.now ∧ (p.alert).config = p.config ∧ (p.alert).job = p.job ∧ (p.alert).permit = p.permit ∧ (p.alert).path = p.path ∧
    (p.alert).card = p.card ∧ (p.alert).holds = p.holds ∧ (p.alert).accounts = p.accounts ∧ (p.alert).settlement = p.settlement
    ∧ (p.alert).line = p.line ∧ (p.alert).store.stored = p.store.stored ∧ (p.alert).store.queue = p.store.queue ∧
    (p.alert).store.pending = p.store.pending ∧ (p.alert).store.work = p.store.work ∧ (p.alert).journal = p.journal ∧
    (p.alert).panel = p.panel ∧ (p.alert).outputs = p.outputs := by
  unfold Part.alert; (try dsimp only); (repeat' split) <;> simp

@[simp] theorem Part.respond_frame (p : Part) (c : Nat) (r : PanelResult) (b : List Byte) : (p.respond c r b).phase =
    p.phase ∧ (p.respond c r b).resetPin = p.resetPin ∧ (p.respond c r b).now = p.now ∧ (p.respond c r b).config = p.config ∧
    (p.respond c r b).job = p.job ∧ (p.respond c r b).permit = p.permit ∧ (p.respond c r b).path = p.path ∧ (p.respond c r
    b).card = p.card ∧ (p.respond c r b).holds = p.holds ∧ (p.respond c r b).accounts = p.accounts ∧ (p.respond c r
    b).settlement = p.settlement ∧ (p.respond c r b).line = p.line ∧ (p.respond c r b).store.stored = p.store.stored ∧
    (p.respond c r b).store.queue = p.store.queue ∧ (p.respond c r b).store.pending = p.store.pending ∧ (p.respond c r
    b).store.work = p.store.work ∧ (p.respond c r b).journal = p.journal ∧ (p.respond c r b).alertOut = p.alertOut ∧ (p.respond
    c r b).outputs = p.outputs := by
  unfold Part.respond; (try dsimp only); (repeat' split) <;> simp

@[simp] theorem Part.respondFull_frame (p : Part) (w : Response) (c : Nat) : (p.respondFull w c).phase = p.phase ∧
    (p.respondFull w c).resetPin = p.resetPin ∧ (p.respondFull w c).now = p.now ∧ (p.respondFull w c).config = p.config ∧
    (p.respondFull w c).job = p.job ∧ (p.respondFull w c).permit = p.permit ∧ (p.respondFull w c).path = p.path ∧ (p.respondFull
    w c).card = p.card ∧ (p.respondFull w c).holds = p.holds ∧ (p.respondFull w c).accounts = p.accounts ∧ (p.respondFull w
    c).settlement = p.settlement ∧ (p.respondFull w c).line = p.line ∧ (p.respondFull w c).store.stored = p.store.stored ∧
    (p.respondFull w c).store.queue = p.store.queue ∧ (p.respondFull w c).store.pending = p.store.pending ∧ (p.respondFull w
    c).store.work = p.store.work ∧ (p.respondFull w c).journal = p.journal ∧ (p.respondFull w c).alertOut = p.alertOut ∧
    (p.respondFull w c).outputs = p.outputs := by
  unfold Part.respondFull; (try dsimp only); (repeat' split) <;> simp

@[simp] theorem Part.statusRequest_frame (p : Part) : (p.statusRequest).phase = p.phase ∧ (p.statusRequest).resetPin =
    p.resetPin ∧ (p.statusRequest).now = p.now ∧ (p.statusRequest).config = p.config ∧ (p.statusRequest).job = p.job ∧
    (p.statusRequest).permit = p.permit ∧ (p.statusRequest).path = p.path ∧ (p.statusRequest).card = p.card ∧
    (p.statusRequest).holds = p.holds ∧ (p.statusRequest).accounts = p.accounts ∧ (p.statusRequest).settlement = p.settlement ∧
    (p.statusRequest).line = p.line ∧ (p.statusRequest).store.stored = p.store.stored ∧ (p.statusRequest).store.queue =
    p.store.queue ∧ (p.statusRequest).store.pending = p.store.pending ∧ (p.statusRequest).store.work = p.store.work ∧
    (p.statusRequest).journal = p.journal ∧ (p.statusRequest).alertOut = p.alertOut ∧ (p.statusRequest).outputs = p.outputs :=
    by
  unfold Part.statusRequest; (try dsimp only); (repeat' split) <;> simp

@[simp] theorem Part.touchOpen_frame (p : Part) : (p.touchOpen).phase = p.phase ∧ (p.touchOpen).resetPin = p.resetPin ∧
    (p.touchOpen).now = p.now ∧ (p.touchOpen).config = p.config ∧ (p.touchOpen).permit = p.permit ∧ (p.touchOpen).path = p.path
    ∧ (p.touchOpen).card = p.card ∧ (p.touchOpen).holds = p.holds ∧ (p.touchOpen).accounts = p.accounts ∧
    (p.touchOpen).settlement = p.settlement ∧ (p.touchOpen).line = p.line ∧ (p.touchOpen).store.stored = p.store.stored ∧
    (p.touchOpen).store.queue = p.store.queue ∧ (p.touchOpen).store.pending = p.store.pending ∧ (p.touchOpen).store.work =
    p.store.work ∧ (p.touchOpen).journal = p.journal ∧ (p.touchOpen).panel = p.panel ∧ (p.touchOpen).alertOut = p.alertOut ∧
    (p.touchOpen).outputs = p.outputs := by
  unfold Part.touchOpen; (try dsimp only); (repeat' split) <;> simp

@[simp] theorem Part.startPlan_frame (p : Part) (x : Plan) : (p.startPlan x).phase = p.phase ∧ (p.startPlan x).resetPin =
    p.resetPin ∧ (p.startPlan x).now = p.now ∧ (p.startPlan x).config = p.config ∧ (p.startPlan x).permit = p.permit ∧
    (p.startPlan x).path = p.path ∧ (p.startPlan x).card = p.card ∧ (p.startPlan x).holds = p.holds ∧ (p.startPlan x).accounts =
    p.accounts ∧ (p.startPlan x).settlement = p.settlement ∧ (p.startPlan x).line = p.line ∧ (p.startPlan x).store.stored =
    p.store.stored ∧ (p.startPlan x).store.queue = p.store.queue ∧ (p.startPlan x).store.pending = p.store.pending ∧
    (p.startPlan x).store.work = p.store.work ∧ (p.startPlan x).journal = p.journal ∧ (p.startPlan x).alertOut = p.alertOut ∧
    (p.startPlan x).outputs = p.outputs := by
  unfold Part.startPlan; (try dsimp only); (repeat' split) <;> simp

@[simp] theorem Part.eject_frame (p : Part) (r : Reject) : (p.eject r).phase = p.phase ∧ (p.eject r).resetPin = p.resetPin ∧
    (p.eject r).now = p.now ∧ (p.eject r).config = p.config ∧ (p.eject r).job = p.job ∧ (p.eject r).permit = p.permit ∧ (p.eject
    r).path = p.path ∧ (p.eject r).holds = p.holds ∧ (p.eject r).accounts = p.accounts ∧ (p.eject r).settlement = p.settlement ∧
    (p.eject r).line = p.line ∧ (p.eject r).store.stored = p.store.stored ∧ (p.eject r).store.queue = p.store.queue ∧ (p.eject
    r).store.pending = p.store.pending ∧ (p.eject r).store.work = p.store.work ∧ (p.eject r).journal = p.journal ∧ (p.eject
    r).alertOut = p.alertOut := by
  unfold Part.eject; (try dsimp only); (repeat' split) <;> simp

@[simp] theorem Part.openJob_frame (p : Part) (c : CardRecord) : (p.openJob c).phase = p.phase ∧ (p.openJob c).resetPin =
    p.resetPin ∧ (p.openJob c).now = p.now ∧ (p.openJob c).line.inbound = p.line.inbound ∧ (p.openJob c).config = p.config
    ∧ (p.openJob c).permit = p.permit ∧ (p.openJob c).path = p.path ∧ (p.openJob c).holds = p.holds ∧ (p.openJob
    c).accounts = p.accounts ∧ (p.openJob c).store.stored = p.store.stored ∧ (p.openJob c).alertOut = p.alertOut := by
  unfold Part.openJob; (try dsimp only); (repeat' split) <;> simp

@[simp] theorem Part.cardRemoved_frame (p : Part) : (p.cardRemoved).phase = p.phase ∧ (p.cardRemoved).resetPin = p.resetPin
    ∧ (p.cardRemoved).now = p.now ∧ (p.cardRemoved).config = p.config ∧ (p.cardRemoved).path = p.path ∧ (p.cardRemoved).holds =
    p.holds ∧ (p.cardRemoved).accounts = p.accounts ∧ (p.cardRemoved).line = p.line ∧ (p.cardRemoved).store.stored =
    p.store.stored ∧ (p.cardRemoved).store.queue = p.store.queue ∧ (p.cardRemoved).store.pending = p.store.pending ∧
    (p.cardRemoved).journal = p.journal ∧ (p.cardRemoved).alertOut = p.alertOut := by
  unfold Part.cardRemoved; (try dsimp only); (repeat' split) <;> simp

@[simp] theorem Part.sessionOut_frame (p : Part) : (p.sessionOut).phase = p.phase ∧ (p.sessionOut).resetPin = p.resetPin ∧
    (p.sessionOut).now = p.now ∧ (p.sessionOut).config = p.config ∧ (p.sessionOut).path = p.path ∧ (p.sessionOut).holds =
    p.holds ∧ (p.sessionOut).accounts = p.accounts ∧ (p.sessionOut).line = p.line ∧ (p.sessionOut).store.stored = p.store.stored
    ∧ (p.sessionOut).store.queue = p.store.queue ∧ (p.sessionOut).store.pending = p.store.pending ∧ (p.sessionOut).journal =
    p.journal ∧ (p.sessionOut).alertOut = p.alertOut := by
  unfold Part.sessionOut; (try dsimp only); (repeat' split) <;> simp

@[simp] theorem Part.cardOut_frame (p : Part) : (p.cardOut).phase = p.phase ∧ (p.cardOut).resetPin = p.resetPin ∧
    (p.cardOut).now = p.now ∧ (p.cardOut).config = p.config ∧ (p.cardOut).path = p.path ∧ (p.cardOut).holds = p.holds ∧
    (p.cardOut).accounts = p.accounts ∧ (p.cardOut).line = p.line ∧ (p.cardOut).store.stored = p.store.stored ∧
    (p.cardOut).store.queue = p.store.queue ∧ (p.cardOut).store.pending = p.store.pending ∧ (p.cardOut).journal = p.journal ∧
    (p.cardOut).alertOut = p.alertOut := by
  unfold Part.cardOut; (try dsimp only); (repeat' split) <;> simp

@[simp] theorem Part.writeDeadline_frame (p : Part) : (p.writeDeadline).phase = p.phase ∧ (p.writeDeadline).resetPin =
    p.resetPin ∧ (p.writeDeadline).now = p.now ∧ (p.writeDeadline).config = p.config ∧ (p.writeDeadline).job = p.job ∧
    (p.writeDeadline).permit = p.permit ∧ (p.writeDeadline).path = p.path ∧ (p.writeDeadline).holds = p.holds ∧
    (p.writeDeadline).accounts = p.accounts ∧ (p.writeDeadline).settlement = p.settlement ∧ (p.writeDeadline).line = p.line ∧
    (p.writeDeadline).store.stored = p.store.stored ∧ (p.writeDeadline).store.queue = p.store.queue ∧
    (p.writeDeadline).store.pending = p.store.pending ∧ (p.writeDeadline).journal = p.journal ∧ (p.writeDeadline).panel =
    p.panel ∧ (p.writeDeadline).alertOut = p.alertOut := by
  unfold Part.writeDeadline; (try dsimp only); (repeat' split) <;> simp

@[simp] theorem Part.askTimer_frame (p : Part) : (p.askTimer).phase = p.phase ∧ (p.askTimer).resetPin = p.resetPin ∧
    (p.askTimer).now = p.now ∧ (p.askTimer).line.inbound = p.line.inbound ∧ (p.askTimer).config = p.config ∧
    (p.askTimer).permit = p.permit ∧ (p.askTimer).path = p.path ∧ (p.askTimer).card = p.card ∧ (p.askTimer).holds =
    p.holds ∧ (p.askTimer).accounts = p.accounts ∧ (p.askTimer).store.stored = p.store.stored ∧ (p.askTimer).store.work =
    p.store.work ∧ (p.askTimer).alertOut = p.alertOut ∧ (p.askTimer).outputs = p.outputs := by
  unfold Part.askTimer; (try dsimp only); (repeat' split) <;> simp

@[simp] theorem Part.cancelledTimer_frame (p : Part) : (p.cancelledTimer).phase = p.phase ∧ (p.cancelledTimer).resetPin =
    p.resetPin ∧ (p.cancelledTimer).now = p.now ∧ (p.cancelledTimer).config = p.config ∧ (p.cancelledTimer).job = p.job ∧
    (p.cancelledTimer).permit = p.permit ∧ (p.cancelledTimer).path = p.path ∧ (p.cancelledTimer).card = p.card ∧
    (p.cancelledTimer).holds = p.holds ∧ (p.cancelledTimer).accounts = p.accounts ∧ (p.cancelledTimer).line = p.line ∧
    (p.cancelledTimer).store.stored = p.store.stored ∧ (p.cancelledTimer).store.queue = p.store.queue ∧
    (p.cancelledTimer).store.pending = p.store.pending ∧ (p.cancelledTimer).store.work = p.store.work ∧
    (p.cancelledTimer).journal = p.journal ∧ (p.cancelledTimer).panel = p.panel ∧ (p.cancelledTimer).alertOut = p.alertOut ∧
    (p.cancelledTimer).outputs = p.outputs := by
  unfold Part.cancelledTimer; (try dsimp only); (repeat' split) <;> simp

@[simp] theorem Part.topupTimer_frame (p : Part) : (p.topupTimer).phase = p.phase ∧ (p.topupTimer).resetPin = p.resetPin ∧
    (p.topupTimer).now = p.now ∧ (p.topupTimer).line.inbound = p.line.inbound ∧ (p.topupTimer).config = p.config ∧
    (p.topupTimer).permit = p.permit ∧ (p.topupTimer).path = p.path ∧ (p.topupTimer).card = p.card ∧ (p.topupTimer).holds
    = p.holds ∧ (p.topupTimer).accounts = p.accounts ∧ (p.topupTimer).settlement = p.settlement ∧
    (p.topupTimer).store.stored = p.store.stored ∧ (p.topupTimer).store.queue = p.store.queue ∧
    (p.topupTimer).store.pending = p.store.pending ∧ (p.topupTimer).store.work = p.store.work ∧ (p.topupTimer).journal =
    p.journal ∧ (p.topupTimer).alertOut = p.alertOut ∧ (p.topupTimer).outputs = p.outputs := by
  unfold Part.topupTimer; (try dsimp only); (repeat' split) <;> simp

@[simp] theorem Part.keepHold_frame (p : Part) : (p.keepHold).phase = p.phase ∧ (p.keepHold).resetPin = p.resetPin ∧
    (p.keepHold).now = p.now ∧ (p.keepHold).line.inbound = p.line.inbound ∧ (p.keepHold).config = p.config ∧
    (p.keepHold).job = p.job ∧ (p.keepHold).permit = p.permit ∧ (p.keepHold).path = p.path ∧ (p.keepHold).card = p.card ∧
    (p.keepHold).holds = p.holds ∧ (p.keepHold).accounts = p.accounts ∧ (p.keepHold).settlement = p.settlement ∧
    (p.keepHold).store.stored = p.store.stored ∧ (p.keepHold).store.queue = p.store.queue ∧ (p.keepHold).store.pending =
    p.store.pending ∧ (p.keepHold).journal = p.journal ∧ (p.keepHold).panel = p.panel ∧ (p.keepHold).alertOut = p.alertOut
    ∧ (p.keepHold).outputs = p.outputs := by
  unfold Part.keepHold; (try dsimp only); (repeat' split) <;> simp

@[simp] theorem Part.keepTimer_frame (p : Part) : (p.keepTimer).phase = p.phase ∧ (p.keepTimer).resetPin = p.resetPin ∧
    (p.keepTimer).now = p.now ∧ (p.keepTimer).line.inbound = p.line.inbound ∧ (p.keepTimer).config = p.config ∧
    (p.keepTimer).permit = p.permit ∧ (p.keepTimer).path = p.path ∧ (p.keepTimer).card = p.card ∧ (p.keepTimer).holds =
    p.holds ∧ (p.keepTimer).accounts = p.accounts ∧ (p.keepTimer).settlement = p.settlement ∧ (p.keepTimer).store.stored =
    p.store.stored ∧ (p.keepTimer).store.queue = p.store.queue ∧ (p.keepTimer).store.pending = p.store.pending ∧
    (p.keepTimer).journal = p.journal ∧ (p.keepTimer).panel = p.panel ∧ (p.keepTimer).alertOut = p.alertOut ∧
    (p.keepTimer).outputs = p.outputs := by
  unfold Part.keepTimer; (try dsimp only); (repeat' split) <;> simp

@[simp] theorem Part.runOutTimer_frame (p : Part) : (p.runOutTimer).phase = p.phase ∧ (p.runOutTimer).resetPin = p.resetPin
    ∧ (p.runOutTimer).now = p.now ∧ (p.runOutTimer).config = p.config ∧ (p.runOutTimer).path = p.path ∧ (p.runOutTimer).holds =
    p.holds ∧ (p.runOutTimer).accounts = p.accounts ∧ (p.runOutTimer).line = p.line ∧ (p.runOutTimer).store.stored =
    p.store.stored ∧ (p.runOutTimer).store.queue = p.store.queue ∧ (p.runOutTimer).store.pending = p.store.pending ∧
    (p.runOutTimer).journal = p.journal ∧ (p.runOutTimer).alertOut = p.alertOut := by
  unfold Part.runOutTimer; (try dsimp only); (repeat' split) <;> simp

@[simp] theorem Part.sweep_frame (p : Part) : (p.sweep).phase = p.phase ∧ (p.sweep).resetPin = p.resetPin ∧ (p.sweep).now =
    p.now ∧ (p.sweep).config = p.config ∧ (p.sweep).job = p.job ∧ (p.sweep).permit = p.permit ∧ (p.sweep).path = p.path ∧
    (p.sweep).card = p.card ∧ (p.sweep).accounts = p.accounts ∧ (p.sweep).settlement = p.settlement ∧ (p.sweep).line = p.line ∧
    (p.sweep).store.stored = p.store.stored ∧ (p.sweep).store.queue = p.store.queue ∧ (p.sweep).store.pending = p.store.pending
    ∧ (p.sweep).journal = p.journal ∧ (p.sweep).panel = p.panel ∧ (p.sweep).alertOut = p.alertOut ∧ (p.sweep).outputs =
    p.outputs := by
  unfold Part.sweep; (try dsimp only); (repeat' split) <;> simp

end Sys2Proof.Machine
end

