-- ==== Sys2Proof/Laws/PerInstr.lean ====
section
/-! SUPPORT. What holds of every command as syntax, one lemma a command. -/

-- One theorem after another: many small theorems elaborated at once need more threads than the check allows.
set_option Elab.async false

namespace Sys2Proof.Laws

open Sys2Proof Sys2Proof.Machine

/-- A command is a request of the panel port exactly with a code of section 12.5, from 1 to 19, or with the code it came with. -/
def RequestCodes.Statement (i : Instr) : Prop :=
  match requestCode i with
  | none => True
  | some code => (1 ≤ code ∧ code ≤ 19) ∨ i = .panelRequestUnknown code

theorem RequestCodes.powerOn : RequestCodes.Statement .powerOn := trivial

theorem RequestCodes.powerLoss (programmed : Bool) : RequestCodes.Statement (.powerLoss programmed) := trivial

theorem RequestCodes.resetPinAssert : RequestCodes.Statement .resetPinAssert := trivial

theorem RequestCodes.resetPinRelease : RequestCodes.Statement .resetPinRelease := trivial

theorem RequestCodes.configLoadDone (image : List Word16) : RequestCodes.Statement (.configLoadDone image) := trivial

theorem RequestCodes.writeComplete : RequestCodes.Statement .writeComplete := trivial

theorem RequestCodes.panelRead : RequestCodes.Statement .panelRead := trivial

theorem RequestCodes.panelRequestUnknown (code : Nat) : RequestCodes.Statement (.panelRequestUnknown code) :=
  .inr rfl

theorem RequestCodes.status : RequestCodes.Statement .status :=
  .inl (by decide)

theorem RequestCodes.start (media colour sides originals copies collated : Nat) :
    RequestCodes.Statement (.start media colour sides originals copies collated) :=
  .inl (by decide)

theorem RequestCodes.resume : RequestCodes.Statement .resume :=
  .inl (by decide)

theorem RequestCodes.endJob : RequestCodes.Statement .endJob :=
  .inl (by decide)

theorem RequestCodes.cancel : RequestCodes.Statement .cancel :=
  .inl (by decide)

theorem RequestCodes.jobRead : RequestCodes.Statement .jobRead :=
  .inl (by decide)

theorem RequestCodes.quote (media colour sides sheets cls : Nat) :
    RequestCodes.Statement (.quote media colour sides sheets cls) :=
  .inl (by decide)

theorem RequestCodes.journalRead (first : Nat) : RequestCodes.Statement (.journalRead first) :=
  .inl (by decide)

theorem RequestCodes.journalRelease (upTo : Nat) : RequestCodes.Statement (.journalRelease upTo) :=
  .inl (by decide)

theorem RequestCodes.meterRead (index : Nat) : RequestCodes.Statement (.meterRead index) :=
  .inl (by decide)

theorem RequestCodes.jamLogRead : RequestCodes.Statement .jamLogRead :=
  .inl (by decide)

theorem RequestCodes.accountRead (account : Nat) : RequestCodes.Statement (.accountRead account) :=
  .inl (by decide)

theorem RequestCodes.holdRead (index : Nat) : RequestCodes.Statement (.holdRead index) :=
  .inl (by decide)

theorem RequestCodes.deferredRead (index : Nat) : RequestCodes.Statement (.deferredRead index) :=
  .inl (by decide)

theorem RequestCodes.heardRead : RequestCodes.Statement .heardRead :=
  .inl (by decide)

theorem RequestCodes.alertRead : RequestCodes.Statement .alertRead :=
  .inl (by decide)

theorem RequestCodes.alertAck (flags : Byte) : RequestCodes.Statement (.alertAck flags) :=
  .inl (by decide)

theorem RequestCodes.alertEnable (flags : Byte) (master : Nat) : RequestCodes.Statement (.alertEnable flags master) :=
  .inl (by decide)

theorem RequestCodes.resetStation : RequestCodes.Statement .resetStation :=
  .inl (by decide)

theorem RequestCodes.sheetFed (media colour sides : Nat) : RequestCodes.Statement (.sheetFed media colour sides) := trivial

theorem RequestCodes.sensorOn (sensor : Nat) : RequestCodes.Statement (.sensorOn sensor) := trivial

theorem RequestCodes.sensorOff (sensor : Nat) : RequestCodes.Statement (.sensorOff sensor) := trivial

theorem RequestCodes.doorOpen : RequestCodes.Statement .doorOpen := trivial

theorem RequestCodes.doorClosed : RequestCodes.Statement .doorClosed := trivial

theorem RequestCodes.engineFault (code : Nat) : RequestCodes.Statement (.engineFault code) := trivial

theorem RequestCodes.engineMessageGarbled : RequestCodes.Statement .engineMessageGarbled := trivial

theorem RequestCodes.sheetDeadlineExpiry (place : Nat) : RequestCodes.Statement (.sheetDeadlineExpiry place) := trivial

theorem RequestCodes.cardIn (record : List Byte) : RequestCodes.Statement (.cardIn record) := trivial

theorem RequestCodes.cardOut : RequestCodes.Statement .cardOut := trivial

theorem RequestCodes.writeDone (serial count : Nat) : RequestCodes.Statement (.writeDone serial count) := trivial

theorem RequestCodes.writeFail (serial : Nat) : RequestCodes.Statement (.writeFail serial) := trivial

theorem RequestCodes.cardMessageDiscarded : RequestCodes.Statement .cardMessageDiscarded := trivial

theorem RequestCodes.writeDeadlineExpiry : RequestCodes.Statement .writeDeadlineExpiry := trivial

theorem RequestCodes.askTimerExpiry : RequestCodes.Statement .askTimerExpiry := trivial

theorem RequestCodes.cancelledAskExpiry : RequestCodes.Statement .cancelledAskExpiry := trivial

theorem RequestCodes.topupTimerExpiry : RequestCodes.Statement .topupTimerExpiry := trivial

theorem RequestCodes.keepAliveDue : RequestCodes.Statement .keepAliveDue := trivial

theorem RequestCodes.runOutDue : RequestCodes.Statement .runOutDue := trivial

theorem RequestCodes.idleTimeout : RequestCodes.Statement .idleTimeout := trivial

theorem RequestCodes.holdGive (source holdId job amount cls lifetime : Nat) :
    RequestCodes.Statement (.holdGive source holdId job amount cls lifetime) := trivial

theorem RequestCodes.holdDeny (source job reason : Nat) : RequestCodes.Statement (.holdDeny source job reason) := trivial

theorem RequestCodes.holdGone (source holdId job : Nat) : RequestCodes.Statement (.holdGone source holdId job) := trivial

theorem RequestCodes.holdAsk : RequestCodes.Statement .holdAsk := trivial

theorem RequestCodes.holdMore : RequestCodes.Statement .holdMore := trivial

theorem RequestCodes.holdKeep : RequestCodes.Statement .holdKeep := trivial

theorem RequestCodes.sweepVisit : RequestCodes.Statement .sweepVisit := trivial

theorem RequestCodes.acctPut : RequestCodes.Statement .acctPut := trivial

theorem RequestCodes.acctTopup : RequestCodes.Statement .acctTopup := trivial

theorem RequestCodes.acctQuery : RequestCodes.Statement .acctQuery := trivial

theorem RequestCodes.acctAnswer (source account result available periodSpent : Nat) :
    RequestCodes.Statement (.acctAnswer source account result available periodSpent) := trivial

theorem RequestCodes.periodClose : RequestCodes.Statement .periodClose := trivial

theorem RequestCodes.announce : RequestCodes.Statement .announce := trivial

theorem RequestCodes.settle : RequestCodes.Statement .settle := trivial

theorem RequestCodes.settleQuickTimerExpiry (home : Nat) : RequestCodes.Statement (.settleQuickTimerExpiry home) := trivial

theorem RequestCodes.settleSlowTimerExpiry (home : Nat) : RequestCodes.Statement (.settleSlowTimerExpiry home) := trivial

theorem RequestCodes.settleAck : RequestCodes.Statement .settleAck := trivial

theorem RequestCodes.tally (source job funding id charge impressions : Nat) :
    RequestCodes.Statement (.tally source job funding id charge impressions) := trivial

theorem RequestCodes.lineQuietRest : RequestCodes.Statement .lineQuietRest := trivial

theorem RequestCodes.contentionLost : RequestCodes.Statement .contentionLost := trivial

theorem RequestCodes.sendResult (answered : Bool) : RequestCodes.Statement (.sendResult answered) := trivial

theorem RequestCodes.frameReceived (bytes : List Byte) : RequestCodes.Statement (.frameReceived bytes) := trivial

end Sys2Proof.Laws
end

