-- ==== Sys2Proof/Laws/Tables.lean ====
section
/-! SUPPORT. Tables and the ledger: what a read gives after a write, and that every write keeps the canonical form. -/

namespace Sys2Proof.Machine

open Sys2Proof

variable {α : Type}

/-! ### Reads after writes -/

@[simp] theorem tableGet_put (t : Table α) (k j : Nat) (v : α) :
    tableGet (tablePut t k v) j = if k = j then some v else tableGet t j := by
  induction t with
  | nil => simp [tablePut, tableGet]
  | cons e t ih =>
    obtain ⟨i, w⟩ := e
    unfold tablePut
    split
    · simp [tableGet]
    · split
      · subst_vars
        by_cases h : i = j <;> simp [tableGet, h]
      · by_cases h : i = j
        · subst h; simp [tableGet]; omega
        · simp [tableGet, h, ih]

/-- Every listed number of a rising table is at least a lower bound of its numbers. -/
theorem tableGet_of_lt {t : Table α} {k : Nat} (h : ∀ e ∈ t, k < e.1) : tableGet t k = none := by
  induction t with
  | nil => rfl
  | cons e t ih =>
    obtain ⟨i, w⟩ := e
    have hi : k < i := h (i, w) (by simp)
    simp [tableGet, Nat.ne_of_gt hi, ih (fun e he => h e (by simp [he]))]

theorem tableGet_erase {t : Table α} (ht : Rising t) (k j : Nat) :
    tableGet (tableErase t k) j = if k = j then none else tableGet t j := by
  induction t with
  | nil => simp [tableErase, tableGet]
  | cons e t ih =>
    obtain ⟨i, w⟩ := e
    obtain ⟨hlt, ht'⟩ := List.pairwise_cons.mp ht
    unfold tableErase
    split
    · subst_vars
      split
      · subst_vars; exact tableGet_of_lt hlt
      · simp [tableGet, *]
    · by_cases h : i = j
      · subst h; simp [tableGet]; omega
      · simp [tableGet, h, ih ht']

/-! ### The canonical form -/

theorem mem_tablePut {t : Table α} {k : Nat} {v : α} {e : Nat × α} (h : e ∈ tablePut t k v) : e = (k, v) ∨ e ∈ t := by
  induction t with
  | nil => simpa [tablePut] using h
  | cons x t ih =>
    obtain ⟨i, w⟩ := x
    unfold tablePut at h
    split at h
    · simpa using h
    · split at h
      · rcases List.mem_cons.mp h with h | h <;> simp [h]
      · rcases List.mem_cons.mp h with h | h
        · simp [h]
        · rcases ih h with h | h <;> simp [h]

theorem mem_of_mem_tableErase {t : Table α} {k : Nat} {e : Nat × α} (h : e ∈ tableErase t k) : e ∈ t := by
  induction t with
  | nil => simp [tableErase] at h
  | cons x t ih =>
    obtain ⟨i, w⟩ := x
    unfold tableErase at h
    split at h
    · simp [h]
    · rcases List.mem_cons.mp h with h | h
      · simp [h]
      · simp [ih h]

theorem Rising.put {t : Table α} (ht : Rising t) (k : Nat) (v : α) : Rising (tablePut t k v) := by
  induction t with
  | nil => simp [tablePut, Rising]
  | cons x t ih =>
    obtain ⟨i, w⟩ := x
    obtain ⟨hlt, ht'⟩ := List.pairwise_cons.mp ht
    unfold tablePut
    split
    · refine List.pairwise_cons.mpr ⟨fun e he => ?_, ht⟩
      rcases List.mem_cons.mp he with rfl | he
      · assumption
      · exact Nat.lt_trans (by assumption) (hlt e he)
    · split
      · subst_vars; exact List.pairwise_cons.mpr ⟨hlt, ht'⟩
      · refine List.pairwise_cons.mpr ⟨fun e he => ?_, ih ht'⟩
        rcases mem_tablePut he with rfl | he
        · show i < k; omega
        · exact hlt e he

theorem Rising.erase {t : Table α} (ht : Rising t) (k : Nat) : Rising (tableErase t k) := by
  induction t with
  | nil => simp [tableErase, Rising]
  | cons x t ih =>
    obtain ⟨i, w⟩ := x
    obtain ⟨hlt, ht'⟩ := List.pairwise_cons.mp ht
    unfold tableErase
    split
    · exact ht'
    · exact List.pairwise_cons.mpr ⟨fun e he => hlt e (mem_of_mem_tableErase he), ih ht'⟩

theorem Rising.set {t : Table α} (ht : Rising t) (k : Nat) (v : Option α) : Rising (tableSet t k v) := by
  cases v with
  | none => exact ht.erase k
  | some w => exact ht.put k w

theorem RisingNonzero.set {t : Table Nat} (ht : RisingNonzero t) (k n : Nat) : RisingNonzero (countSet t k n) := by
  obtain ⟨hr, hz⟩ := ht
  have hz' : ∀ e ∈ t, e.2 ≠ 0 := by simpa using hz
  unfold countSet
  split
  · refine ⟨hr.erase k, ?_⟩
    simpa using fun a b h => hz' (a, b) (mem_of_mem_tableErase h)
  · refine ⟨hr.put k n, ?_⟩
    simp only [List.all_eq_true, bne_iff_ne, ne_eq]
    intro e he
    rcases mem_tablePut he with rfl | he
    · assumption
    · exact hz' e he

/-- Programming a record keeps the memory canonical (R161). -/
theorem Ledger.wf.program {l : Ledger} (h : l.wf) (w : Write) : (program l w).wf := by
  obtain ⟨ha, hh, hj, hd, hm, hk⟩ := h
  cases w with
  | account slot value => exact ⟨ha.put slot value, hh, hj, hd, hm, hk⟩
  | hold slot value => exact ⟨ha, hh.set slot value, hj, hd, hm, hk⟩
  | journal position value => exact ⟨ha, hh, hj.put position value, hd, hm, hk⟩
  | deferred slot value => exact ⟨ha, hh, hj, hd.set slot value, hm, hk⟩
  | meter index value => exact ⟨ha, hh, hj, hd, hm.set index value, hk⟩
  | mark station value => exact ⟨ha, hh, hj, hd, hm, hk.set station value⟩
  | checkpoint value => exact ⟨ha, hh, hj, hd, hm, hk⟩
  | apply value => exact ⟨ha, hh, hj, hd, hm, hk⟩
  | period value => exact ⟨ha, hh, hj, hd, hm, hk⟩
  | counter c value => cases c <;> exact ⟨ha, hh, hj, hd, hm, hk⟩

/-- A store never written is canonical (R160). -/
theorem Ledger.wf_empty : ({} : Ledger).wf := by
  refine ⟨?_, ?_, ?_, ?_, ?_, ?_⟩ <;> simp [RisingNonzero]

/-- The newest values of a canonical memory are canonical (R163). -/
theorem Ledger.wf.newest {s : Store} (h : s.stored.wf) : s.newest.wf := by
  have fold : ∀ (ws : List Write) (l : Ledger), l.wf → (ws.foldl Machine.program l).wf := by
    intro ws
    induction ws with
    | nil => exact fun l hl => hl
    | cons w ws ih => exact fun l hl => ih _ (hl.program w)
  exact fold _ _ (fold _ _ h)

end Sys2Proof.Machine
end

