-- ==== Sys2Proof/Laws/Steps.lean ====
section
/-! SUPPORT. What a post, a step of a block's work, a write-done and the whole of a command leave alone, and when work that waits has
nothing to do. -/

-- One theorem after another: many small theorems elaborated at once need more threads than the check allows.
set_option Elab.async false

namespace Sys2Proof.Machine

open Sys2Proof

/-! ### One step -/

/-- What no step of a block's work changes: the reset pin, the time base, the configuration, the path, the stored memory, the
frames of the inbound queue, the ALERT output. -/
def Part.sameBase (p q : Part) : Prop :=
  q.resetPin = p.resetPin ∧ q.now = p.now ∧ q.config = p.config ∧ q.path = p.path ∧ q.store.stored = p.store.stored ∧
    q.alertOut = p.alertOut ∧ q.line.inbound = p.line.inbound

theorem Part.sameBase_refl (p : Part) : p.sameBase p := by simp [Part.sameBase]

theorem Part.sameBase.trans {p q r : Part} (h : p.sameBase q) (k : q.sameBase r) : p.sameBase r := by
  unfold Part.sameBase at *
  obtain ⟨a, b, c, d, e, f, g⟩ := h
  simp only [a, b, c, d, e, f, g] at k
  exact k

theorem Part.tryPost_sameBase {p q : Part} {w : Write} {notes : List Note} (h : p.tryPost w notes = some q) : p.sameBase q := by
  obtain ⟨-, rfl⟩ := Part.tryPost_eq_some.mp h
  simp [Part.sameBase]

theorem Part.justPost_sameBase {p : Part} {w : Write} {notes : List Note} {r : Part × List Task}
    (h : p.justPost w notes = some r) : p.sameBase r.1 := by
  simp only [Part.justPost, Option.map_eq_some_iff] at h
  obtain ⟨q, hq, rfl⟩ := h
  exact p.tryPost_sameBase hq

theorem Part.changeHold_sameBase {p q : Part} {slot : Nat} {value : Option HoldRecord} {notes : List Note}
    (h : p.changeHold slot value notes = some q) : p.sameBase q := by
  simp only [Part.changeHold, Option.map_eq_some_iff] at h
  obtain ⟨r, hr, rfl⟩ := h
  obtain ⟨-, rfl⟩ := Part.tryPost_eq_some.mp hr
  simp [Part.sameBase]

/-- A step whose post is followed by a change that keeps the base. -/
theorem Part.tryPost_map_sameBase {p : Part} {w : Write} {notes : List Note} {f : Part → Part × List Task}
    {r : Part × List Task} (h : (p.tryPost w notes).map f = some r) (hf : ∀ q : Part, q.sameBase (f q).1) : p.sameBase r.1 := by
  obtain ⟨q, hq, rfl⟩ := Option.map_eq_some_iff.mp h
  exact (p.tryPost_sameBase hq).trans (hf q)

theorem Part.changeHold_map_sameBase {p : Part} {slot : Nat} {value : Option HoldRecord} {notes : List Note}
    {r : Part × List Task} (h : (p.changeHold slot value notes).map (fun q => (q, [])) = some r) : p.sameBase r.1 := by
  obtain ⟨q, hq, rfl⟩ := Option.map_eq_some_iff.mp h
  exact Part.changeHold_sameBase hq

theorem Part.some_sameBase {p : Part} {r : Part × List Task} {tasks : List Task} (h : some (p, tasks) = some r) :
    p.sameBase r.1 := by
  cases h
  exact p.sameBase_refl

theorem Task.step_sameBase {t : Task} {p : Part} {r : Part × List Task} (h : t.step p = some r) : p.sameBase r.1 := by
  cases t <;> simp only [Task.step, always, Option.some.injEq] at h
  case journalCount body =>
    exact p.tryPost_map_sameBase h fun q => by cases body.losable <;> simp [Part.sameBase]
  case startWalk number => exact p.tryPost_map_sameBase h fun q => by simp [Part.sameBase]
  case carry =>
    unfold Part.stepCarry at h
    split at h
    · cases h; simp [Part.sameBase]
    · exact p.tryPost_map_sameBase h fun q => by simp [Part.sameBase]
  case endWalk =>
    refine p.tryPost_map_sameBase h fun q => ?_
    cases q.accounts.pendingClose <;> simp [Part.sameBase]
  case markSettling holdId =>
    unfold Part.stepMarkSettling at h
    split at h
    · exact Part.some_sameBase h
    · exact Part.changeHold_map_sameBase h
  case removeHold holdId notes =>
    unfold Part.stepRemoveHold at h
    split at h
    · exact Part.some_sameBase h
    · exact Part.changeHold_map_sameBase h
  case debit =>
    unfold Part.stepDebit at h
    split at h
    · exact Part.some_sameBase h
    · split at h
      · cases h; simp [Part.sameBase]
      · exact p.justPost_sameBase h
  case putEntry =>
    unfold Part.stepPutEntry at h
    split at h
    · cases h
    · refine p.tryPost_map_sameBase h fun q => ?_
      split <;> simp [Part.sameBase]
  case countSend =>
    unfold Part.stepCountSend at h
    split at h
    · exact Part.some_sameBase h
    · exact p.justPost_sameBase h
  case vacate =>
    simp only [Part.stepVacate] at h
    split at h
    · cases h; simp [Part.sameBase]
    · exact p.justPost_sameBase h
  case removeEntry =>
    unfold Part.stepRemoveEntry at h
    split at h
    · exact Part.some_sameBase h
    · exact p.tryPost_map_sameBase h fun q => by simp [Part.sameBase]
  case recoverDebit =>
    unfold Part.stepRecoverDebit at h
    split at h
    · exact Part.some_sameBase h
    · exact p.justPost_sameBase h
  case quiet =>
    split at h
    · exact Part.some_sameBase h
    · cases h
  all_goals first
    | exact p.justPost_sameBase h
    | exact Part.changeHold_map_sameBase h
    | (subst h; simp [Part.sameBase]; done)

/-! ### Work that goes on (R164) -/

theorem Part.advance_sameBase {p q : Part} {w : Work} {rest : List Work} (h : p.advance w rest = some q) : p.sameBase q := by
  unfold Part.advance at h
  split at h
  · cases h
    simp [Part.sameBase]
  · obtain ⟨r, hr, rfl⟩ := Option.map_eq_some_iff.mp h
    have hs := Task.step_sameBase hr
    simpa [Part.sameBase] using hs

theorem Part.advanceFirst_sameBase {p q : Part} {before after : List Work} (h : p.advanceFirst before after = some q) :
    p.sameBase q := by
  induction after generalizing before with
  | nil => cases h
  | cons w after ih =>
    unfold Part.advanceFirst at h
    split at h
    · rename_i r hr
      cases h
      split at hr
      · exact p.advance_sameBase hr
      · cases hr
    · exact ih h

theorem Part.fill_sameBase (p : Part) : p.sameBase p.fill := by simp [Part.sameBase]

theorem Part.withWork_sameBase (p : Part) (work : List Work) : p.sameBase (p.withWork work) := by simp [Part.sameBase]

theorem Part.react_sameBase (p : Part) : p.sameBase p.react := by simp [Part.sameBase]

/-- Work that goes on keeps the base, however far it goes. -/
theorem Part.pump_sameBase (fuel : Nat) (p : Part) : p.sameBase (p.pump fuel) := by
  induction fuel generalizing p with
  | zero => exact p.fill_sameBase
  | succ fuel ih =>
    unfold Part.pump
    split
    · rename_i q hq
      obtain ⟨work, rfl⟩ := Part.markWait_eq_some hq
      exact (p.fill_sameBase.trans (p.fill.withWork_sameBase work)).trans (ih _)
    · split
      · exact p.fill_sameBase
      · rename_i q hq
        exact ((p.fill_sameBase.trans (p.fill.advanceFirst_sameBase hq)).trans q.react_sameBase).trans (ih _)

theorem Part.goOn_sameBase (p : Part) : p.sameBase p.goOn := by
  unfold Part.goOn
  split
  · exact p.pump_sameBase _
  · exact p.pump_sameBase _
  all_goals exact p.sameBase_refl

/-- Work goes on in the two phases in which the store is served. -/
theorem Part.goOn_serving {p : Part} (h : p.phase = .serving) : p.goOn = p.pump pumpFuel := by simp [Part.goOn, h]

/-- Outside recovery and service nothing goes on. -/
theorem Part.goOn_idle {p : Part} (h : p.phase ≠ .recovering) (k : p.phase ≠ .serving) : p.goOn = p := by
  unfold Part.goOn
  split <;> simp_all

/-! ### Write-dones (R161) -/

theorem Note.act_sameBase (note : Note) (p : Part) : p.sameBase (note.act p) := by
  cases note <;> simp [Note.act, Part.sameBase]

theorem Part.notes_sameBase (notes : List Note) (p : Part) : p.sameBase (notes.foldl (fun r note => note.act r) p) := by
  induction notes generalizing p with
  | nil => exact p.sameBase_refl
  | cons note notes ih => exact (note.act_sameBase p).trans (ih _)

/-! ### The drain (R167) -/

theorem Part.drainPosts_sameBase (p : Part) (work : List Work) : p.sameBase (p.drainPosts work) := by
  induction work generalizing p with
  | nil => exact p.sameBase_refl
  | cons w work ih =>
    have hw : p.sameBase (p.withWork work) := by simp [Part.sameBase]
    unfold Part.drainPosts
    split
    · exact hw.trans (ih _)
    · split
      · exact hw.trans (ih _)
      · split
        · exact p.sameBase_refl
        · rename_i q hq
          refine ((p.tryPost_sameBase hq).trans ?_).trans (ih _)
          simp [Part.sameBase]

@[simp] theorem Part.resetValues_frame (p : Part) (phase : Phase) :
    (p.resetValues phase).resetPin = p.resetPin ∧ (p.resetValues phase).config = p.config ∧
      (p.resetValues phase).store.stored = p.store.stored ∧ (p.resetValues phase).outputs = p.outputs := by
  simp [Part.resetValues]

@[simp] theorem Part.beginRecovery_frame (p : Part) :
    p.beginRecovery.resetPin = p.resetPin ∧ p.beginRecovery.config = p.config ∧
      p.beginRecovery.store.stored = p.store.stored ∧ p.beginRecovery.outputs = p.outputs := by
  simp [Part.beginRecovery]

@[simp] theorem Part.startUp_frame (p : Part) (load : Bool) :
    (p.startUp load).resetPin = p.resetPin ∧ (p.startUp load).config = p.config ∧
      (p.startUp load).store.stored = p.store.stored ∧ (p.startUp load).outputs = p.outputs := by
  unfold Part.startUp
  split <;> simp

/-- What survives even a start-up: the reset pin, the configuration, the stored memory. -/
def Part.sameKept (p q : Part) : Prop :=
  q.resetPin = p.resetPin ∧ q.config = p.config ∧ q.store.stored = p.store.stored

theorem Part.sameBase.kept {p q : Part} (h : p.sameBase q) : p.sameKept q := ⟨h.1, h.2.2.1, h.2.2.2.2.1⟩

theorem Part.sameKept.trans {p q r : Part} (h : p.sameKept q) (k : q.sameKept r) : p.sameKept r :=
  ⟨k.1.trans h.1, k.2.1.trans h.2.1, k.2.2.trans h.2.2⟩

theorem Part.drain_sameKept (p : Part) (load : Bool) : p.sameKept (p.drain load) := by
  have h : p.sameBase (p.fill.drainPosts p.fill.store.work) := p.fill_sameBase.trans (p.fill.drainPosts_sameBase _)
  unfold Part.drain
  dsimp only
  split
  · refine h.kept.trans ?_
    simp [Part.sameKept]
  · exact h.kept

/-! ### Every command -/

theorem Part.reactIdle_sameBase (p before : Part) : p.sameBase (p.reactIdle before) := by simp [Part.sameBase]

/-- What follows a command keeps the base, unless a drain goes on. -/
theorem Part.follow_sameBase {p before : Part} (h : ∀ load, p.phase ≠ .draining load) : p.sameBase (p.follow before) := by
  unfold Part.follow
  split
  · rename_i load hp
    exact absurd hp (h load)
  · exact ((p.reactIdle_sameBase before).trans (Part.react_sameBase _)).trans (Part.goOn_sameBase _)
  all_goals exact p.goOn_sameBase

theorem Part.follow_sameKept (p before : Part) : p.sameKept (p.follow before) := by
  unfold Part.follow
  split
  · exact (p.drain_sameKept _).trans (Part.goOn_sameBase _).kept
  · exact (((p.reactIdle_sameBase before).trans (Part.react_sameBase _)).trans (Part.goOn_sameBase _)).kept
  all_goals exact p.goOn_sameBase.kept

/-- WRITE_COMPLETE stores the oldest post and nothing else (R161). -/
theorem Part.writeComplete_stored {p : Part} {post : Post} {rest : List Post} (h : p.store.queue = post :: rest) :
    p.writeComplete.store.stored = program p.store.stored post.write := by
  simp only [Part.writeComplete, h]
  split
  · exact (((Part.pump_sameBase _ _).trans (Part.notes_sameBase _ _)).kept.trans (Part.follow_sameKept _ _)).2.2
  · exact (((Part.pump_sameBase _ _).trans (Part.notes_sameBase _ _)).kept.trans (Part.follow_sameKept _ _)).2.2
  all_goals rfl

/-- A command changes the stored memory, the configuration and the reset pin by its own effect alone. -/
theorem Part.command_sameKept (p : Part) (f : Part → Part) : (f p).sameKept (p.command f) := by
  have h := (f p).follow_sameKept p
  unfold Part.command
  simpa [Part.sameKept] using h

/-- In service a command changes the time base and the path by its own effect alone. -/
theorem Part.command_path {p : Part} {f : Part → Part} (h : ∀ load, (f p).phase ≠ .draining load) :
    (p.command f).path = (f p).path ∧ (p.command f).now = (f p).now := by
  have h := (f p).follow_sameBase (before := p) h
  unfold Part.command
  simpa [Part.sameBase] using ⟨h.2.2.2.1, h.2.1⟩

end Sys2Proof.Machine
end

