-- ==== Sys2Proof/Laws/Rest.lean ====
section
/-! SUPPORT. A part at rest: the rules that follow a command do nothing more, and a command is then its own effect. -/

-- One theorem after another: many small theorems elaborated at once need more threads than the check allows.
set_option Elab.async false

namespace Sys2Proof.Machine

open Sys2Proof

theorem Store.fill_empty {s : Store} (h : s.pending = []) : s.fill = s := by
  cases s
  simp_all [Store.fill, joinPending]

theorem Part.fill_empty {p : Part} (h : p.store.pending = []) : p.fill = p := by
  unfold Part.fill
  rw [Store.fill_empty h]

/-- Being at rest rests on the phase, the job, the path, the configuration, PERMIT and the waiting work alone. -/
theorem Part.AtRest.same {p q : Part} (h : p.AtRest)
    (hs : q.phase = p.phase ∧ q.job = p.job ∧ q.path = p.path ∧ q.config = p.config ∧ q.permit = p.permit ∧
      q.store.work = p.store.work ∧ q.store.pending = p.store.pending ∧ q.store.starting = p.store.starting) : q.AtRest := by
  obtain ⟨h1, h2, h3, h4, h5, h6, h7, h8⟩ := hs
  have hf : q.outOfFunds = p.outOfFunds := by simp [Part.outOfFunds, h2, h3]
  have hr : q.runOutHolds = p.runOutHolds := by simp [Part.runOutHolds, h2, h3]
  have hp : q.permitHolds = p.permitHolds := by
    simp [Part.permitHolds, Part.serving, Part.outOfService, h1, h2, h3, h4]
  unfold Part.AtRest at *
  rw [h1, h2, h3, h5, h6, h7, h8, hf, hr, hp]
  exact h

/-- With no work and nothing pending, nothing goes on. -/
theorem Part.pump_rest {p : Part} (hw : p.store.work = []) (hp : p.store.pending = []) (fuel : Nat) : p.pump fuel = p := by
  have hm : p.markWait = none := by simp [Part.markWait, hw]
  cases fuel with
  | zero => exact Part.fill_empty hp
  | succ fuel => simp [Part.pump, Part.fill_empty hp, hw, Part.advanceFirst, hm]

theorem Part.AtRest.reactDrain {p : Part} (h : p.AtRest) : p.reactDrain = p := by
  unfold Part.reactDrain
  rw [if_neg]
  simpa using h.2.2.2.1

theorem Part.AtRest.reactFunds {p : Part} (h : p.AtRest) : p.reactFunds = p := by
  unfold Part.reactFunds
  rw [if_neg]
  intro hc
  simp only [Bool.and_eq_true, Bool.not_eq_true', Option.isNone_iff_eq_none] at hc
  rcases h.2.2.2.2.1 hc.1.1 with ht | he
  · simp_all
  · simp_all

theorem Part.AtRest.reactRunOut {p : Part} (h : p.AtRest) : p.reactRunOut = p := by
  have hr := h.2.2.2.2.2.1
  unfold Part.reactRunOut
  cases hd : p.job.runOutDue with
  | none =>
    rw [hd] at hr
    rw [if_neg (by simp [hr]), ← hd]
  | some due =>
    rw [hd] at hr
    rw [if_pos (by simp [hr])]

/-- The job controller's rules leave a part at rest as it is. -/
theorem Part.AtRest.react {p : Part} (h : p.AtRest) : p.react = p := by
  unfold Part.react
  rw [h.reactDrain, h.reactFunds, h.reactRunOut]
  split
  · simp only [← h.2.2.2.2.2.2.1]
  · rfl

theorem Part.AtRest.goOn {p : Part} (h : p.AtRest) : p.goOn = p := by
  rw [Part.goOn_serving h.1, Part.pump_rest h.2.1 h.2.2.1]

/-- The idle timeout does not fall due with a list that was empty before. -/
theorem Part.reactIdle_empty {p before : Part} (h : before.path.sheets = []) : p.reactIdle before = p := by
  simp [Part.reactIdle, h]

/-- The idle timeout does not fall due with a sheet in the list. -/
theorem Part.reactIdle_sheets {p before : Part} (h : p.path.sheets ≠ []) : p.reactIdle before = p := by
  simp [Part.reactIdle, Part.idleReached, h]

/-- The idle timeout does not fall due at an event that touched the activity time. -/
theorem Part.reactIdle_touched {p before : Part} (h : p.now - p.job.lastActivity < p.config.values.idleTimeout * 1000) :
    p.reactIdle before = p := by
  have : ¬p.config.values.idleTimeout * 1000 ≤ p.now - p.job.lastActivity := by omega
  simp [Part.reactIdle, Part.idleReached, this]

/-- The idle timeout does not fall due in a state in which it does not run. -/
theorem Part.reactIdle_state {p before : Part} (hr : p.job.state ≠ .ready) (hp : p.job.state ≠ .paused)
    (hn : p.job.state ≠ .running) : p.reactIdle before = p := by
  simp [Part.reactIdle, Part.idleReached, hr, hp, hn]

/-- A command that leaves no work, in service: the rules that follow it act once. -/
theorem Part.command_noWork {p q r : Part} {f : Part → Part} (hf : f p = q) (hs : q.phase = .serving)
    (hi : q.reactIdle p = q) (hr : q.react = r) (hw : r.store.work = []) (hp : r.store.pending = []) :
    p.command f = (r.journalLow p).alert := by
  have hrs : r.phase = .serving := by rw [← hr]; simpa using hs
  unfold Part.command Part.follow
  rw [hf, hs]
  simp only
  rw [hi, hr, Part.goOn_serving hrs, Part.pump_rest hw hp]

/-- A command whose effect leaves the part at rest is that effect. -/
theorem Part.command_rest {p q : Part} {f : Part → Part} (hf : f p = q) (hq : q.AtRest) (hi : q.reactIdle p = q) :
    p.command f = (q.journalLow p).alert :=
  Part.command_noWork hf hq.1 hi hq.react hq.2.1 hq.2.2.1

/-- In service WRITE_COMPLETE stores the oldest post, gives its place, sends the write-dones, lets what they bring about follow, and
begins the next programming (R161). -/
theorem Part.writeComplete_serving {p : Part} {post : Post} {rest : List Post} (hs : p.phase = .serving)
    (hq : p.store.queue = post :: rest) :
    p.writeComplete =
      ((post.notes.foldl (fun r note => note.act r)
        (((p.programOldest post rest).setStarting (!rest.isEmpty)).pump pumpFuel)).follow p).setStarting false := by
  have : (p.programOldest post rest).phase = .serving := hs
  simp only [Part.writeComplete, hq, this]

/-- JOURNAL_LOW is not raised while the free count does not fall. -/
theorem Part.journalLow_same {p before : Part} (h : p.freeSlots = before.freeSlots) : p.journalLow before = p := by
  unfold Part.journalLow
  rw [h, if_neg]
  simp only [Bool.and_eq_true, decide_eq_true_eq]
  omega

/-- The idle timeout falls due only when the list empties. -/
theorem Part.reactIdle_path {p before : Part} (h : p.path.sheets = before.path.sheets) : p.reactIdle before = p := by
  unfold Part.reactIdle Part.idleReached
  rw [h, if_neg]
  simp only [Bool.and_eq_true, Bool.not_eq_true']
  rintro ⟨h1, h2⟩
  simp_all

/-- A command at rest that leaves the job, the path, PERMIT and the journal's count alone is its own effect. -/
theorem event_rest {s : State} {f : Part → Part} {q : Part} (h : s.part.AtRest) (hf : f s.part = q)
    (hs : q.phase = s.part.phase ∧ q.job = s.part.job ∧ q.path = s.part.path ∧ q.config = s.part.config ∧
      q.permit = s.part.permit ∧ q.store.work = s.part.store.work ∧ q.store.pending = s.part.store.pending ∧
      q.store.starting = s.part.store.starting)
    (hj : q.freeSlots = s.part.freeSlots) : event s f = .next { s with part := q.alert } := by
  unfold event
  rw [Part.command_rest hf (h.same hs) (Part.reactIdle_path (by rw [hs.2.2.1])), Part.journalLow_same hj]

/-! ### Frames dropped in a line state that refuses every frame (R151, R153) -/

theorem Part.refusesFrame_closed {p : Part} (h : p.line.state = .withdrawn ∨ p.line.state = .silent) (dest : Nat) :
    p.refusesFrame dest = true := by
  rcases h with h | h <;> simp [Part.refusesFrame, h]

theorem Job.told_nil (j : Job) (now : Nat) : j.told [] now = j := by simp [Job.told, dropsTicket]

theorem SettlementUnit.told_nil (u : SettlementUnit) : u.told [] = u := by
  unfold SettlementUnit.told
  cases u.cancelled <;> simp [dropsTicket]

/-- No frame carries a ticket that was never given. -/
@[simp] theorem dropsTicket_none (fs : List OutFrame) : dropsTicket fs none = false := by simp [dropsTicket]

@[simp] theorem dropsTicket_cons (f : OutFrame) (fs : List OutFrame) (t : Option Nat) :
    dropsTicket (f :: fs) t = (decide (some f.ticket = t) || dropsTicket fs t) := rfl

/-- Every frame of the outbound queue dropped and its owner told, with an attempt left and no frame of two owners. -/
theorem Part.dropFrames_told (fs : List OutFrame) : ∀ (p : Part),
    p.line.state = .withdrawn ∨ p.line.state = .silent →
    (p.job.state = .authorize → p.job.topupOutstanding = false ∧ (p.job.askFrame.isSome = true → p.job.askAttempts < 3)) →
    (p.job.topupOutstanding = true → p.job.topupFrame.isSome = true → p.job.topupAttempts < 3) →
    (∀ c, p.settlement.cancelled = some c → c.frame.isSome = true → c.frame ≠ p.job.askFrame ∧ c.frame ≠ p.job.topupFrame) →
    p.dropFrames fs = { p with job := p.job.told fs p.now, settlement := p.settlement.told fs } := by
  induction fs with
  | nil =>
    intro p _ _ _ _
    simp [Part.dropFrames, Job.told_nil, SettlementUnit.told_nil]
  | cons f fs ih =>
    intro p hl ha ht hc
    have step : p.dropFrames (f :: fs) = (p.sendFailed f.ticket).dropFrames fs := rfl
    have hr := fun d => Part.refusesFrame_closed hl d
    rw [step]
    unfold Part.sendFailed
    split
    · rename_i h
      obtain ⟨h1, h2⟩ := h
      obtain ⟨h3, h4⟩ := ha h1
      have h5 := h4 (by simp [h2])
      have hcan : ∀ c, p.settlement.cancelled = some c → decide (some f.ticket = c.frame) = false := by
        intro c hcc
        have := hc c hcc
        simp only [decide_eq_false_iff_not]
        intro hf
        exact (this (by simp [← hf])).1 (by rw [← hf, h2])
      have hu : p.settlement.told (f :: fs) = p.settlement.told fs := by
        unfold SettlementUnit.told
        cases hcc : p.settlement.cancelled with
        | none => rfl
        | some c => simp [hcan c hcc]
      have he :
          p.askAttemptEnded =
            { p with
              job :=
                { p.job with askAttempts := p.job.askAttempts + 1, askDue := some (p.now + 400), askFrame := none } } := by
        simp [Part.askAttemptEnded, h5, Part.askAttempt, Part.enqueue, hr, Config.attemptMs]
      rw [ih p.askAttemptEnded (by rw [he]; exact hl) (by simp [he, h3]) (by simp [he, h3])]
      · simp [he, Job.told, h1, h2, hu]
      · rw [he]
        intro c hcc hsome
        exact ⟨by intro hz; simp [hz] at hsome, (hc c hcc hsome).2⟩
    · rename_i h
      split
      · rename_i h'
        obtain ⟨h1, h2⟩ := h'
        have h0 : p.job.state ≠ .authorize := by
          intro hz
          have := (ha hz).1
          simp_all
        have h5 := ht h1 (by simp [h2])
        have hcan : ∀ c, p.settlement.cancelled = some c → decide (some f.ticket = c.frame) = false := by
          intro c hcc
          have := hc c hcc
          simp only [decide_eq_false_iff_not]
          intro hf
          exact (this (by simp [← hf])).2 (by rw [← hf, h2])
        have hu : p.settlement.told (f :: fs) = p.settlement.told fs := by
          unfold SettlementUnit.told
          cases hcc : p.settlement.cancelled with
          | none => rfl
          | some c => simp [hcan c hcc]
        have he :
            p.topupAttemptEnded =
              { p with
                job :=
                  { p.job with
                    topupAttempts := p.job.topupAttempts + 1, topupDue := some (p.now + 400), topupFrame := none } } := by
          simp [Part.topupAttemptEnded, h5, Part.topupAttempt, Part.enqueue, hr, h1, Config.attemptMs]
        rw [ih p.topupAttemptEnded (by rw [he]; exact hl) (by simp [he, h0]) (by simp [he])]
        · simp [he, Job.told, h0, h1, h2, hu]
        · rw [he]
          intro c hcc hsome
          exact ⟨(hc c hcc hsome).1, by intro hz; simp [hz] at hsome⟩
      · rename_i h'
        have hj : p.job.told (f :: fs) p.now = p.job.told fs p.now := by
          unfold Job.told
          have e1 : p.job.state = .authorize → decide (some f.ticket = p.job.askFrame) = false := by
            intro hz; simp only [decide_eq_false_iff_not]; intro hw; exact h ⟨hz, hw.symm⟩
          have e2 : p.job.topupOutstanding = true → decide (some f.ticket = p.job.topupFrame) = false := by
            intro hz; simp only [decide_eq_false_iff_not]; intro hw; exact h' ⟨hz, hw.symm⟩
          by_cases hz : p.job.state = .authorize
          · simp [hz, e1 hz]
          · cases hw : p.job.topupOutstanding
            · simp [hz]
            · simp [hz, e2 hw]
        cases hcc : p.settlement.cancelled with
        | none =>
          simp only
          rw [ih p hl ha ht hc, hj]
          simp [SettlementUnit.told, hcc]
        | some c =>
          simp only
          split
          · rename_i hf
            refine (ih p.dropCancelled.releaseDeferred hl ha ht (by simp [Part.dropCancelled, Part.releaseDeferred])).trans ?_
            simp only [Part.dropCancelled, Part.releaseDeferred, hj]
            simp [SettlementUnit.told, hcc, hf]
          · rename_i hf
            rw [ih p hl ha ht hc, hj]
            have : decide (some f.ticket = c.frame) = false := by
              simp only [decide_eq_false_iff_not]; intro hw; exact hf hw.symm
            simp [SettlementUnit.told, hcc, this]

end Sys2Proof.Machine
end

