-- ==== Sys2Proof/Laws/State.lean ====
section
/-! SUPPORT. The updates of State: what each field holds after each update, so that no later proof unfolds one. -/

-- One theorem after another: many small theorems elaborated at once need more threads than the check allows.
set_option Elab.async false

namespace Sys2Proof.Machine

open Sys2Proof

/-! ### Part.raise -/

@[simp] theorem Part.raise_phase (p : Part) (a : Alert) : (p.raise a).phase = p.phase := rfl

@[simp] theorem Part.raise_resetPin (p : Part) (a : Alert) : (p.raise a).resetPin = p.resetPin := rfl

@[simp] theorem Part.raise_now (p : Part) (a : Alert) : (p.raise a).now = p.now := rfl

@[simp] theorem Part.raise_config (p : Part) (a : Alert) : (p.raise a).config = p.config := rfl

@[simp] theorem Part.raise_job (p : Part) (a : Alert) : (p.raise a).job = p.job := rfl

@[simp] theorem Part.raise_permit (p : Part) (a : Alert) : (p.raise a).permit = p.permit := rfl

@[simp] theorem Part.raise_path (p : Part) (a : Alert) : (p.raise a).path = p.path := rfl

@[simp] theorem Part.raise_card (p : Part) (a : Alert) : (p.raise a).card = p.card := rfl

@[simp] theorem Part.raise_holds (p : Part) (a : Alert) : (p.raise a).holds = p.holds := rfl

@[simp] theorem Part.raise_accounts (p : Part) (a : Alert) : (p.raise a).accounts = p.accounts := rfl

@[simp] theorem Part.raise_settlement (p : Part) (a : Alert) : (p.raise a).settlement = p.settlement := rfl

@[simp] theorem Part.raise_line (p : Part) (a : Alert) : (p.raise a).line = p.line := rfl

@[simp] theorem Part.raise_store (p : Part) (a : Alert) : (p.raise a).store = p.store := rfl

@[simp] theorem Part.raise_journal (p : Part) (a : Alert) : (p.raise a).journal = p.journal := rfl

@[simp] theorem Part.raise_panel (p : Part) (a : Alert) : (p.raise a).panel = p.panel.raise a := rfl

@[simp] theorem Part.raise_alertOut (p : Part) (a : Alert) : (p.raise a).alertOut = p.alertOut := rfl

@[simp] theorem Part.raise_outputs (p : Part) (a : Alert) : (p.raise a).outputs = p.outputs := rfl

/-! ### Part.rejectWith -/

@[simp] theorem Part.rejectWith_phase (p : Part) (r : Reject) : (p.rejectWith r).phase = p.phase := rfl

@[simp] theorem Part.rejectWith_resetPin (p : Part) (r : Reject) : (p.rejectWith r).resetPin = p.resetPin := rfl

@[simp] theorem Part.rejectWith_now (p : Part) (r : Reject) : (p.rejectWith r).now = p.now := rfl

@[simp] theorem Part.rejectWith_config (p : Part) (r : Reject) : (p.rejectWith r).config = p.config := rfl

@[simp] theorem Part.rejectWith_job (p : Part) (r : Reject) : (p.rejectWith r).job = p.job := rfl

@[simp] theorem Part.rejectWith_permit (p : Part) (r : Reject) : (p.rejectWith r).permit = p.permit := rfl

@[simp] theorem Part.rejectWith_path (p : Part) (r : Reject) : (p.rejectWith r).path = p.path := rfl

@[simp] theorem Part.rejectWith_card (p : Part) (r : Reject) : (p.rejectWith r).card = p.card := rfl

@[simp] theorem Part.rejectWith_holds (p : Part) (r : Reject) : (p.rejectWith r).holds = p.holds := rfl

@[simp] theorem Part.rejectWith_accounts (p : Part) (r : Reject) : (p.rejectWith r).accounts = p.accounts := rfl

@[simp] theorem Part.rejectWith_settlement (p : Part) (r : Reject) : (p.rejectWith r).settlement = p.settlement := rfl

@[simp] theorem Part.rejectWith_line (p : Part) (r : Reject) : (p.rejectWith r).line = p.line := rfl

@[simp] theorem Part.rejectWith_store (p : Part) (r : Reject) : (p.rejectWith r).store = p.store := rfl

@[simp] theorem Part.rejectWith_journal (p : Part) (r : Reject) : (p.rejectWith r).journal = p.journal := rfl

@[simp] theorem Part.rejectWith_panel (p : Part) (r : Reject) : (p.rejectWith r).panel = p.panel.rejectWith r := rfl

@[simp] theorem Part.rejectWith_alertOut (p : Part) (r : Reject) : (p.rejectWith r).alertOut = p.alertOut := rfl

@[simp] theorem Part.rejectWith_outputs (p : Part) (r : Reject) : (p.rejectWith r).outputs = p.outputs := rfl

/-! ### Part.sendCard -/

@[simp] theorem Part.sendCard_phase (p : Part) (m : CardMessage) : (p.sendCard m).phase = p.phase := rfl

@[simp] theorem Part.sendCard_resetPin (p : Part) (m : CardMessage) : (p.sendCard m).resetPin = p.resetPin := rfl

@[simp] theorem Part.sendCard_now (p : Part) (m : CardMessage) : (p.sendCard m).now = p.now := rfl

@[simp] theorem Part.sendCard_config (p : Part) (m : CardMessage) : (p.sendCard m).config = p.config := rfl

@[simp] theorem Part.sendCard_job (p : Part) (m : CardMessage) : (p.sendCard m).job = p.job := rfl

@[simp] theorem Part.sendCard_permit (p : Part) (m : CardMessage) : (p.sendCard m).permit = p.permit := rfl

@[simp] theorem Part.sendCard_path (p : Part) (m : CardMessage) : (p.sendCard m).path = p.path := rfl

@[simp] theorem Part.sendCard_card (p : Part) (m : CardMessage) : (p.sendCard m).card = p.card := rfl

@[simp] theorem Part.sendCard_holds (p : Part) (m : CardMessage) : (p.sendCard m).holds = p.holds := rfl

@[simp] theorem Part.sendCard_accounts (p : Part) (m : CardMessage) : (p.sendCard m).accounts = p.accounts := rfl

@[simp] theorem Part.sendCard_settlement (p : Part) (m : CardMessage) : (p.sendCard m).settlement = p.settlement := rfl

@[simp] theorem Part.sendCard_line (p : Part) (m : CardMessage) : (p.sendCard m).line = p.line := rfl

@[simp] theorem Part.sendCard_store (p : Part) (m : CardMessage) : (p.sendCard m).store = p.store := rfl

@[simp] theorem Part.sendCard_journal (p : Part) (m : CardMessage) : (p.sendCard m).journal = p.journal := rfl

@[simp] theorem Part.sendCard_panel (p : Part) (m : CardMessage) : (p.sendCard m).panel = p.panel := rfl

@[simp] theorem Part.sendCard_alertOut (p : Part) (m : CardMessage) : (p.sendCard m).alertOut = p.alertOut := rfl

@[simp] theorem Part.sendCard_outputs (p : Part) (m : CardMessage) :
    (p.sendCard m).outputs = { p.outputs with card := p.outputs.card ++ [m.bytes] } := rfl

/-! ### Part.driveFrame -/

@[simp] theorem Part.driveFrame_phase (p : Part) (ticket : Nat) : (p.driveFrame ticket).phase = p.phase := rfl

@[simp] theorem Part.driveFrame_resetPin (p : Part) (ticket : Nat) : (p.driveFrame ticket).resetPin = p.resetPin := rfl

@[simp] theorem Part.driveFrame_now (p : Part) (ticket : Nat) : (p.driveFrame ticket).now = p.now := rfl

@[simp] theorem Part.driveFrame_config (p : Part) (ticket : Nat) : (p.driveFrame ticket).config = p.config := rfl

@[simp] theorem Part.driveFrame_job (p : Part) (ticket : Nat) : (p.driveFrame ticket).job = p.job := rfl

@[simp] theorem Part.driveFrame_permit (p : Part) (ticket : Nat) : (p.driveFrame ticket).permit = p.permit := rfl

@[simp] theorem Part.driveFrame_path (p : Part) (ticket : Nat) : (p.driveFrame ticket).path = p.path := rfl

@[simp] theorem Part.driveFrame_card (p : Part) (ticket : Nat) : (p.driveFrame ticket).card = p.card := rfl

@[simp] theorem Part.driveFrame_holds (p : Part) (ticket : Nat) : (p.driveFrame ticket).holds = p.holds := rfl

@[simp] theorem Part.driveFrame_accounts (p : Part) (ticket : Nat) : (p.driveFrame ticket).accounts = p.accounts := rfl

@[simp] theorem Part.driveFrame_settlement (p : Part) (ticket : Nat) : (p.driveFrame ticket).settlement = p.settlement := rfl

@[simp] theorem Part.driveFrame_line (p : Part) (ticket : Nat) : (p.driveFrame ticket).line = p.line := rfl

@[simp] theorem Part.driveFrame_store (p : Part) (ticket : Nat) : (p.driveFrame ticket).store = p.store := rfl

@[simp] theorem Part.driveFrame_journal (p : Part) (ticket : Nat) : (p.driveFrame ticket).journal = p.journal := rfl

@[simp] theorem Part.driveFrame_panel (p : Part) (ticket : Nat) : (p.driveFrame ticket).panel = p.panel := rfl

@[simp] theorem Part.driveFrame_alertOut (p : Part) (ticket : Nat) : (p.driveFrame ticket).alertOut = p.alertOut := rfl

@[simp] theorem Part.driveFrame_outputs (p : Part) (ticket : Nat) :
    (p.driveFrame ticket).outputs =
      { p.outputs with
        line :=
          p.outputs.line ++
            (p.line.outbound.find? (fun f => decide (f.ticket = ticket))).toList.map
              (fun f => frameBytes p.station f.dest f.message) } := rfl

/-! ### Part.advanceSweep -/

@[simp] theorem Part.advanceSweep_phase (p : Part) : (p.advanceSweep).phase = p.phase := rfl

@[simp] theorem Part.advanceSweep_resetPin (p : Part) : (p.advanceSweep).resetPin = p.resetPin := rfl

@[simp] theorem Part.advanceSweep_now (p : Part) : (p.advanceSweep).now = p.now := rfl

@[simp] theorem Part.advanceSweep_config (p : Part) : (p.advanceSweep).config = p.config := rfl

@[simp] theorem Part.advanceSweep_job (p : Part) : (p.advanceSweep).job = p.job := rfl

@[simp] theorem Part.advanceSweep_permit (p : Part) : (p.advanceSweep).permit = p.permit := rfl

@[simp] theorem Part.advanceSweep_path (p : Part) : (p.advanceSweep).path = p.path := rfl

@[simp] theorem Part.advanceSweep_card (p : Part) : (p.advanceSweep).card = p.card := rfl

@[simp] theorem Part.advanceSweep_holds (p : Part) :
    (p.advanceSweep).holds = { p.holds with pointer := (p.holds.pointer + 1) % Config.holdSlots } := rfl

@[simp] theorem Part.advanceSweep_accounts (p : Part) : (p.advanceSweep).accounts = p.accounts := rfl

@[simp] theorem Part.advanceSweep_settlement (p : Part) : (p.advanceSweep).settlement = p.settlement := rfl

@[simp] theorem Part.advanceSweep_line (p : Part) : (p.advanceSweep).line = p.line := rfl

@[simp] theorem Part.advanceSweep_store (p : Part) : (p.advanceSweep).store = p.store := rfl

@[simp] theorem Part.advanceSweep_journal (p : Part) : (p.advanceSweep).journal = p.journal := rfl

@[simp] theorem Part.advanceSweep_panel (p : Part) : (p.advanceSweep).panel = p.panel := rfl

@[simp] theorem Part.advanceSweep_alertOut (p : Part) : (p.advanceSweep).alertOut = p.alertOut := rfl

@[simp] theorem Part.advanceSweep_outputs (p : Part) : (p.advanceSweep).outputs = p.outputs := rfl

/-! ### Part.expectReturn -/

@[simp] theorem Part.expectReturn_phase (p : Part) : (p.expectReturn).phase = p.phase := rfl

@[simp] theorem Part.expectReturn_resetPin (p : Part) : (p.expectReturn).resetPin = p.resetPin := rfl

@[simp] theorem Part.expectReturn_now (p : Part) : (p.expectReturn).now = p.now := rfl

@[simp] theorem Part.expectReturn_config (p : Part) : (p.expectReturn).config = p.config := rfl

@[simp] theorem Part.expectReturn_job (p : Part) : (p.expectReturn).job = p.job := rfl

@[simp] theorem Part.expectReturn_permit (p : Part) : (p.expectReturn).permit = p.permit := rfl

@[simp] theorem Part.expectReturn_path (p : Part) : (p.expectReturn).path = p.path := rfl

@[simp] theorem Part.expectReturn_card (p : Part) :
    (p.expectReturn).card = { p.card with returns := saturate 7 (p.card.returns + 1) } := rfl

@[simp] theorem Part.expectReturn_holds (p : Part) : (p.expectReturn).holds = p.holds := rfl

@[simp] theorem Part.expectReturn_accounts (p : Part) : (p.expectReturn).accounts = p.accounts := rfl

@[simp] theorem Part.expectReturn_settlement (p : Part) : (p.expectReturn).settlement = p.settlement := rfl

@[simp] theorem Part.expectReturn_line (p : Part) : (p.expectReturn).line = p.line := rfl

@[simp] theorem Part.expectReturn_store (p : Part) : (p.expectReturn).store = p.store := rfl

@[simp] theorem Part.expectReturn_journal (p : Part) : (p.expectReturn).journal = p.journal := rfl

@[simp] theorem Part.expectReturn_panel (p : Part) : (p.expectReturn).panel = p.panel := rfl

@[simp] theorem Part.expectReturn_alertOut (p : Part) : (p.expectReturn).alertOut = p.alertOut := rfl

@[simp] theorem Part.expectReturn_outputs (p : Part) : (p.expectReturn).outputs = p.outputs := rfl

/-! ### Part.postRunning -/

@[simp] theorem Part.postRunning_phase (p : Part) (w : Write) : (p.postRunning w).phase = p.phase := rfl

@[simp] theorem Part.postRunning_resetPin (p : Part) (w : Write) : (p.postRunning w).resetPin = p.resetPin := rfl

@[simp] theorem Part.postRunning_now (p : Part) (w : Write) : (p.postRunning w).now = p.now := rfl

@[simp] theorem Part.postRunning_config (p : Part) (w : Write) : (p.postRunning w).config = p.config := rfl

@[simp] theorem Part.postRunning_job (p : Part) (w : Write) : (p.postRunning w).job = p.job := rfl

@[simp] theorem Part.postRunning_permit (p : Part) (w : Write) : (p.postRunning w).permit = p.permit := rfl

@[simp] theorem Part.postRunning_path (p : Part) (w : Write) : (p.postRunning w).path = p.path := rfl

@[simp] theorem Part.postRunning_card (p : Part) (w : Write) : (p.postRunning w).card = p.card := rfl

@[simp] theorem Part.postRunning_holds (p : Part) (w : Write) : (p.postRunning w).holds = p.holds := rfl

@[simp] theorem Part.postRunning_accounts (p : Part) (w : Write) : (p.postRunning w).accounts = p.accounts := rfl

@[simp] theorem Part.postRunning_settlement (p : Part) (w : Write) : (p.postRunning w).settlement = p.settlement := rfl

@[simp] theorem Part.postRunning_line (p : Part) (w : Write) : (p.postRunning w).line = p.line := rfl

@[simp] theorem Part.postRunning_store (p : Part) (w : Write) : (p.postRunning w).store = p.store.postRunning w := rfl

@[simp] theorem Part.postRunning_journal (p : Part) (w : Write) : (p.postRunning w).journal = p.journal := rfl

@[simp] theorem Part.postRunning_panel (p : Part) (w : Write) : (p.postRunning w).panel = p.panel := rfl

@[simp] theorem Part.postRunning_alertOut (p : Part) (w : Write) : (p.postRunning w).alertOut = p.alertOut := rfl

@[simp] theorem Part.postRunning_outputs (p : Part) (w : Write) : (p.postRunning w).outputs = p.outputs := rfl

/-! ### Part.assign -/

@[simp] theorem Part.assign_phase (p : Part) (owner : Owner) (tasks : List Task) :
    (p.assign owner tasks).phase = p.phase := rfl

@[simp] theorem Part.assign_resetPin (p : Part) (owner : Owner) (tasks : List Task) :
    (p.assign owner tasks).resetPin = p.resetPin := rfl

@[simp] theorem Part.assign_now (p : Part) (owner : Owner) (tasks : List Task) : (p.assign owner tasks).now = p.now := rfl

@[simp] theorem Part.assign_config (p : Part) (owner : Owner) (tasks : List Task) :
    (p.assign owner tasks).config = p.config := rfl

@[simp] theorem Part.assign_job (p : Part) (owner : Owner) (tasks : List Task) : (p.assign owner tasks).job = p.job := rfl

@[simp] theorem Part.assign_permit (p : Part) (owner : Owner) (tasks : List Task) :
    (p.assign owner tasks).permit = p.permit := rfl

@[simp] theorem Part.assign_path (p : Part) (owner : Owner) (tasks : List Task) : (p.assign owner tasks).path = p.path := rfl

@[simp] theorem Part.assign_card (p : Part) (owner : Owner) (tasks : List Task) : (p.assign owner tasks).card = p.card := rfl

@[simp] theorem Part.assign_holds (p : Part) (owner : Owner) (tasks : List Task) :
    (p.assign owner tasks).holds = p.holds := rfl

@[simp] theorem Part.assign_accounts (p : Part) (owner : Owner) (tasks : List Task) :
    (p.assign owner tasks).accounts = p.accounts := rfl

@[simp] theorem Part.assign_settlement (p : Part) (owner : Owner) (tasks : List Task) :
    (p.assign owner tasks).settlement = p.settlement := rfl

@[simp] theorem Part.assign_line (p : Part) (owner : Owner) (tasks : List Task) : (p.assign owner tasks).line = p.line := rfl

@[simp] theorem Part.assign_store (p : Part) (owner : Owner) (tasks : List Task) :
    (p.assign owner tasks).store = { p.store with work := p.store.work ++ [{ owner := owner, tasks := tasks }] } := rfl

@[simp] theorem Part.assign_journal (p : Part) (owner : Owner) (tasks : List Task) :
    (p.assign owner tasks).journal = p.journal := rfl

@[simp] theorem Part.assign_panel (p : Part) (owner : Owner) (tasks : List Task) :
    (p.assign owner tasks).panel = p.panel := rfl

@[simp] theorem Part.assign_alertOut (p : Part) (owner : Owner) (tasks : List Task) :
    (p.assign owner tasks).alertOut = p.alertOut := rfl

@[simp] theorem Part.assign_outputs (p : Part) (owner : Owner) (tasks : List Task) :
    (p.assign owner tasks).outputs = p.outputs := rfl

/-! ### Part.releaseDeferred -/

@[simp] theorem Part.releaseDeferred_phase (p : Part) : (p.releaseDeferred).phase = p.phase := rfl

@[simp] theorem Part.releaseDeferred_resetPin (p : Part) : (p.releaseDeferred).resetPin = p.resetPin := rfl

@[simp] theorem Part.releaseDeferred_now (p : Part) : (p.releaseDeferred).now = p.now := rfl

@[simp] theorem Part.releaseDeferred_config (p : Part) : (p.releaseDeferred).config = p.config := rfl

@[simp] theorem Part.releaseDeferred_job (p : Part) : (p.releaseDeferred).job = p.job := rfl

@[simp] theorem Part.releaseDeferred_permit (p : Part) : (p.releaseDeferred).permit = p.permit := rfl

@[simp] theorem Part.releaseDeferred_path (p : Part) : (p.releaseDeferred).path = p.path := rfl

@[simp] theorem Part.releaseDeferred_card (p : Part) : (p.releaseDeferred).card = p.card := rfl

@[simp] theorem Part.releaseDeferred_holds (p : Part) : (p.releaseDeferred).holds = p.holds := rfl

@[simp] theorem Part.releaseDeferred_accounts (p : Part) : (p.releaseDeferred).accounts = p.accounts := rfl

@[simp] theorem Part.releaseDeferred_settlement (p : Part) :
    (p.releaseDeferred).settlement = { p.settlement with reserved := p.settlement.reserved - 1 } := rfl

@[simp] theorem Part.releaseDeferred_line (p : Part) : (p.releaseDeferred).line = p.line := rfl

@[simp] theorem Part.releaseDeferred_store (p : Part) : (p.releaseDeferred).store = p.store := rfl

@[simp] theorem Part.releaseDeferred_journal (p : Part) : (p.releaseDeferred).journal = p.journal := rfl

@[simp] theorem Part.releaseDeferred_panel (p : Part) : (p.releaseDeferred).panel = p.panel := rfl

@[simp] theorem Part.releaseDeferred_alertOut (p : Part) : (p.releaseDeferred).alertOut = p.alertOut := rfl

@[simp] theorem Part.releaseDeferred_outputs (p : Part) : (p.releaseDeferred).outputs = p.outputs := rfl

/-! ### Part.releaseJournal -/

@[simp] theorem Part.releaseJournal_phase (p : Part) : (p.releaseJournal).phase = p.phase := rfl

@[simp] theorem Part.releaseJournal_resetPin (p : Part) : (p.releaseJournal).resetPin = p.resetPin := rfl

@[simp] theorem Part.releaseJournal_now (p : Part) : (p.releaseJournal).now = p.now := rfl

@[simp] theorem Part.releaseJournal_config (p : Part) : (p.releaseJournal).config = p.config := rfl

@[simp] theorem Part.releaseJournal_job (p : Part) : (p.releaseJournal).job = p.job := rfl

@[simp] theorem Part.releaseJournal_permit (p : Part) : (p.releaseJournal).permit = p.permit := rfl

@[simp] theorem Part.releaseJournal_path (p : Part) : (p.releaseJournal).path = p.path := rfl

@[simp] theorem Part.releaseJournal_card (p : Part) : (p.releaseJournal).card = p.card := rfl

@[simp] theorem Part.releaseJournal_holds (p : Part) : (p.releaseJournal).holds = p.holds := rfl

@[simp] theorem Part.releaseJournal_accounts (p : Part) : (p.releaseJournal).accounts = p.accounts := rfl

@[simp] theorem Part.releaseJournal_settlement (p : Part) : (p.releaseJournal).settlement = p.settlement := rfl

@[simp] theorem Part.releaseJournal_line (p : Part) : (p.releaseJournal).line = p.line := rfl

@[simp] theorem Part.releaseJournal_store (p : Part) : (p.releaseJournal).store = p.store := rfl

@[simp] theorem Part.releaseJournal_journal (p : Part) :
    (p.releaseJournal).journal = { p.journal with reserved := p.journal.reserved - 1 } := rfl

@[simp] theorem Part.releaseJournal_panel (p : Part) : (p.releaseJournal).panel = p.panel := rfl

@[simp] theorem Part.releaseJournal_alertOut (p : Part) : (p.releaseJournal).alertOut = p.alertOut := rfl

@[simp] theorem Part.releaseJournal_outputs (p : Part) : (p.releaseJournal).outputs = p.outputs := rfl

/-! ### Part.setHeld -/

@[simp] theorem Part.setHeld_phase (p : Part) (account amount : Nat) : (p.setHeld account amount).phase = p.phase := rfl

@[simp] theorem Part.setHeld_resetPin (p : Part) (account amount : Nat) :
    (p.setHeld account amount).resetPin = p.resetPin := rfl

@[simp] theorem Part.setHeld_now (p : Part) (account amount : Nat) : (p.setHeld account amount).now = p.now := rfl

@[simp] theorem Part.setHeld_config (p : Part) (account amount : Nat) : (p.setHeld account amount).config = p.config := rfl

@[simp] theorem Part.setHeld_job (p : Part) (account amount : Nat) : (p.setHeld account amount).job = p.job := rfl

@[simp] theorem Part.setHeld_permit (p : Part) (account amount : Nat) : (p.setHeld account amount).permit = p.permit := rfl

@[simp] theorem Part.setHeld_path (p : Part) (account amount : Nat) : (p.setHeld account amount).path = p.path := rfl

@[simp] theorem Part.setHeld_card (p : Part) (account amount : Nat) : (p.setHeld account amount).card = p.card := rfl

@[simp] theorem Part.setHeld_holds (p : Part) (account amount : Nat) : (p.setHeld account amount).holds = p.holds := rfl

@[simp] theorem Part.setHeld_accounts (p : Part) (account amount : Nat) :
    (p.setHeld account amount).accounts = { p.accounts with held := countSet p.accounts.held account amount } := rfl

@[simp] theorem Part.setHeld_settlement (p : Part) (account amount : Nat) :
    (p.setHeld account amount).settlement = p.settlement := rfl

@[simp] theorem Part.setHeld_line (p : Part) (account amount : Nat) : (p.setHeld account amount).line = p.line := rfl

@[simp] theorem Part.setHeld_store (p : Part) (account amount : Nat) : (p.setHeld account amount).store = p.store := rfl

@[simp] theorem Part.setHeld_journal (p : Part) (account amount : Nat) :
    (p.setHeld account amount).journal = p.journal := rfl

@[simp] theorem Part.setHeld_panel (p : Part) (account amount : Nat) : (p.setHeld account amount).panel = p.panel := rfl

@[simp] theorem Part.setHeld_alertOut (p : Part) (account amount : Nat) :
    (p.setHeld account amount).alertOut = p.alertOut := rfl

@[simp] theorem Part.setHeld_outputs (p : Part) (account amount : Nat) :
    (p.setHeld account amount).outputs = p.outputs := rfl

/-! ### Part.setStarting -/

@[simp] theorem Part.setStarting_phase (p : Part) (b : Bool) : (p.setStarting b).phase = p.phase := rfl

@[simp] theorem Part.setStarting_resetPin (p : Part) (b : Bool) : (p.setStarting b).resetPin = p.resetPin := rfl

@[simp] theorem Part.setStarting_now (p : Part) (b : Bool) : (p.setStarting b).now = p.now := rfl

@[simp] theorem Part.setStarting_config (p : Part) (b : Bool) : (p.setStarting b).config = p.config := rfl

@[simp] theorem Part.setStarting_job (p : Part) (b : Bool) : (p.setStarting b).job = p.job := rfl

@[simp] theorem Part.setStarting_permit (p : Part) (b : Bool) : (p.setStarting b).permit = p.permit := rfl

@[simp] theorem Part.setStarting_path (p : Part) (b : Bool) : (p.setStarting b).path = p.path := rfl

@[simp] theorem Part.setStarting_card (p : Part) (b : Bool) : (p.setStarting b).card = p.card := rfl

@[simp] theorem Part.setStarting_holds (p : Part) (b : Bool) : (p.setStarting b).holds = p.holds := rfl

@[simp] theorem Part.setStarting_accounts (p : Part) (b : Bool) : (p.setStarting b).accounts = p.accounts := rfl

@[simp] theorem Part.setStarting_settlement (p : Part) (b : Bool) : (p.setStarting b).settlement = p.settlement := rfl

@[simp] theorem Part.setStarting_line (p : Part) (b : Bool) : (p.setStarting b).line = p.line := rfl

@[simp] theorem Part.setStarting_journal (p : Part) (b : Bool) : (p.setStarting b).journal = p.journal := rfl

@[simp] theorem Part.setStarting_panel (p : Part) (b : Bool) : (p.setStarting b).panel = p.panel := rfl

@[simp] theorem Part.setStarting_alertOut (p : Part) (b : Bool) : (p.setStarting b).alertOut = p.alertOut := rfl

@[simp] theorem Part.setStarting_outputs (p : Part) (b : Bool) : (p.setStarting b).outputs = p.outputs := rfl

@[simp] theorem Part.setStarting_store (p : Part) (b : Bool) : (p.setStarting b).store = { p.store with starting := b } := rfl

/-! ### Part.alert -/

@[simp] theorem Part.alert_phase (p : Part) : (p.alert).phase = p.phase := rfl

@[simp] theorem Part.alert_resetPin (p : Part) : (p.alert).resetPin = p.resetPin := rfl

@[simp] theorem Part.alert_now (p : Part) : (p.alert).now = p.now := rfl

@[simp] theorem Part.alert_config (p : Part) : (p.alert).config = p.config := rfl

@[simp] theorem Part.alert_job (p : Part) : (p.alert).job = p.job := rfl

@[simp] theorem Part.alert_permit (p : Part) : (p.alert).permit = p.permit := rfl

@[simp] theorem Part.alert_path (p : Part) : (p.alert).path = p.path := rfl

@[simp] theorem Part.alert_card (p : Part) : (p.alert).card = p.card := rfl

@[simp] theorem Part.alert_holds (p : Part) : (p.alert).holds = p.holds := rfl

@[simp] theorem Part.alert_accounts (p : Part) : (p.alert).accounts = p.accounts := rfl

@[simp] theorem Part.alert_settlement (p : Part) : (p.alert).settlement = p.settlement := rfl

@[simp] theorem Part.alert_line (p : Part) : (p.alert).line = p.line := rfl

@[simp] theorem Part.alert_store (p : Part) : (p.alert).store = p.store := rfl

@[simp] theorem Part.alert_journal (p : Part) : (p.alert).journal = p.journal := rfl

@[simp] theorem Part.alert_panel (p : Part) : (p.alert).panel = p.panel := rfl

@[simp] theorem Part.alert_alertOut (p : Part) : (p.alert).alertOut = p.panel.drives := rfl

@[simp] theorem Part.alert_outputs (p : Part) : (p.alert).outputs = p.outputs := rfl

/-! ### Part.respond -/

@[simp] theorem Part.respond_phase (p : Part) (code : Nat) (result : PanelResult) (body : List Byte) :
    (p.respond code result body).phase = p.phase := rfl

@[simp] theorem Part.respond_resetPin (p : Part) (code : Nat) (result : PanelResult) (body : List Byte) :
    (p.respond code result body).resetPin = p.resetPin := rfl

@[simp] theorem Part.respond_now (p : Part) (code : Nat) (result : PanelResult) (body : List Byte) :
    (p.respond code result body).now = p.now := rfl

@[simp] theorem Part.respond_config (p : Part) (code : Nat) (result : PanelResult) (body : List Byte) :
    (p.respond code result body).config = p.config := rfl

@[simp] theorem Part.respond_job (p : Part) (code : Nat) (result : PanelResult) (body : List Byte) :
    (p.respond code result body).job = p.job := rfl

@[simp] theorem Part.respond_permit (p : Part) (code : Nat) (result : PanelResult) (body : List Byte) :
    (p.respond code result body).permit = p.permit := rfl

@[simp] theorem Part.respond_path (p : Part) (code : Nat) (result : PanelResult) (body : List Byte) :
    (p.respond code result body).path = p.path := rfl

@[simp] theorem Part.respond_card (p : Part) (code : Nat) (result : PanelResult) (body : List Byte) :
    (p.respond code result body).card = p.card := rfl

@[simp] theorem Part.respond_holds (p : Part) (code : Nat) (result : PanelResult) (body : List Byte) :
    (p.respond code result body).holds = p.holds := rfl

@[simp] theorem Part.respond_accounts (p : Part) (code : Nat) (result : PanelResult) (body : List Byte) :
    (p.respond code result body).accounts = p.accounts := rfl

@[simp] theorem Part.respond_settlement (p : Part) (code : Nat) (result : PanelResult) (body : List Byte) :
    (p.respond code result body).settlement = p.settlement := rfl

@[simp] theorem Part.respond_line (p : Part) (code : Nat) (result : PanelResult) (body : List Byte) :
    (p.respond code result body).line = p.line := rfl

@[simp] theorem Part.respond_store (p : Part) (code : Nat) (result : PanelResult) (body : List Byte) :
    (p.respond code result body).store = p.store := rfl

@[simp] theorem Part.respond_journal (p : Part) (code : Nat) (result : PanelResult) (body : List Byte) :
    (p.respond code result body).journal = p.journal := rfl

@[simp] theorem Part.respond_panel (p : Part) (code : Nat) (result : PanelResult) (body : List Byte) :
    (p.respond code result body).panel = { p.panel with response := some { code := code, result := result, body := body } } := rfl

@[simp] theorem Part.respond_alertOut (p : Part) (code : Nat) (result : PanelResult) (body : List Byte) :
    (p.respond code result body).alertOut = p.alertOut := rfl

@[simp] theorem Part.respond_outputs (p : Part) (code : Nat) (result : PanelResult) (body : List Byte) :
    (p.respond code result body).outputs = p.outputs := rfl

/-! ### Part.answering -/

@[simp] theorem Part.answering_phase (p : Part) (code : Nat) (result : PanelResult) (body : List Byte) :
    (p.answering code result body).phase = p.phase := rfl

@[simp] theorem Part.answering_resetPin (p : Part) (code : Nat) (result : PanelResult) (body : List Byte) :
    (p.answering code result body).resetPin = p.resetPin := rfl

@[simp] theorem Part.answering_now (p : Part) (code : Nat) (result : PanelResult) (body : List Byte) :
    (p.answering code result body).now = p.now := rfl

@[simp] theorem Part.answering_config (p : Part) (code : Nat) (result : PanelResult) (body : List Byte) :
    (p.answering code result body).config = p.config := rfl

@[simp] theorem Part.answering_job (p : Part) (code : Nat) (result : PanelResult) (body : List Byte) :
    (p.answering code result body).job = p.job := rfl

@[simp] theorem Part.answering_permit (p : Part) (code : Nat) (result : PanelResult) (body : List Byte) :
    (p.answering code result body).permit = p.permit := rfl

@[simp] theorem Part.answering_path (p : Part) (code : Nat) (result : PanelResult) (body : List Byte) :
    (p.answering code result body).path = p.path := rfl

@[simp] theorem Part.answering_card (p : Part) (code : Nat) (result : PanelResult) (body : List Byte) :
    (p.answering code result body).card = p.card := rfl

@[simp] theorem Part.answering_holds (p : Part) (code : Nat) (result : PanelResult) (body : List Byte) :
    (p.answering code result body).holds = p.holds := rfl

@[simp] theorem Part.answering_accounts (p : Part) (code : Nat) (result : PanelResult) (body : List Byte) :
    (p.answering code result body).accounts = p.accounts := rfl

@[simp] theorem Part.answering_settlement (p : Part) (code : Nat) (result : PanelResult) (body : List Byte) :
    (p.answering code result body).settlement = p.settlement := rfl

@[simp] theorem Part.answering_line (p : Part) (code : Nat) (result : PanelResult) (body : List Byte) :
    (p.answering code result body).line = p.line := rfl

@[simp] theorem Part.answering_store (p : Part) (code : Nat) (result : PanelResult) (body : List Byte) :
    (p.answering code result body).store = p.store := rfl

@[simp] theorem Part.answering_journal (p : Part) (code : Nat) (result : PanelResult) (body : List Byte) :
    (p.answering code result body).journal = p.journal := rfl

@[simp] theorem Part.answering_panel (p : Part) (code : Nat) (result : PanelResult) (body : List Byte) :
    (p.answering code result body).panel = { p.panel with response := some { code := code, result := result, body := body } } := rfl

@[simp] theorem Part.answering_alertOut (p : Part) (code : Nat) (result : PanelResult) (body : List Byte) :
    (p.answering code result body).alertOut = p.alertOut := rfl

@[simp] theorem Part.answering_outputs (p : Part) (code : Nat) (result : PanelResult) (body : List Byte) :
    (p.answering code result body).outputs = p.outputs := rfl

/-! ### Panel.raise -/

@[simp] theorem Panel.raise_flags (s : Panel) (a : Alert) : (s.raise a).flags = s.flags ||| a.mask := rfl

@[simp] theorem Panel.raise_enables (s : Panel) (a : Alert) : (s.raise a).enables = s.enables := rfl

@[simp] theorem Panel.raise_master (s : Panel) (a : Alert) : (s.raise a).master = s.master := rfl

@[simp] theorem Panel.raise_reject (s : Panel) (a : Alert) : (s.raise a).reject = s.reject := rfl

@[simp] theorem Panel.raise_response (s : Panel) (a : Alert) : (s.raise a).response = s.response := rfl

@[simp] theorem Panel.raise_resetWaits (s : Panel) (a : Alert) : (s.raise a).resetWaits = s.resetWaits := rfl

/-! ### Panel.rejectWith -/

@[simp] theorem Panel.rejectWith_flags (s : Panel) (r : Reject) : (s.rejectWith r).flags = s.flags ||| Alert.cardReject.mask := rfl

@[simp] theorem Panel.rejectWith_enables (s : Panel) (r : Reject) : (s.rejectWith r).enables = s.enables := rfl

@[simp] theorem Panel.rejectWith_master (s : Panel) (r : Reject) : (s.rejectWith r).master = s.master := rfl

@[simp] theorem Panel.rejectWith_reject (s : Panel) (r : Reject) : (s.rejectWith r).reject = some r := rfl

@[simp] theorem Panel.rejectWith_response (s : Panel) (r : Reject) : (s.rejectWith r).response = s.response := rfl

@[simp] theorem Panel.rejectWith_resetWaits (s : Panel) (r : Reject) : (s.rejectWith r).resetWaits = s.resetWaits := rfl

/-! ### Panel.acknowledge -/

@[simp] theorem Panel.acknowledge_flags (s : Panel) (flags : Byte) : (s.acknowledge flags).flags = s.flags &&& ~~~flags := rfl

@[simp] theorem Panel.acknowledge_enables (s : Panel) (flags : Byte) : (s.acknowledge flags).enables = s.enables := rfl

@[simp] theorem Panel.acknowledge_master (s : Panel) (flags : Byte) : (s.acknowledge flags).master = s.master := rfl

@[simp] theorem Panel.acknowledge_reject (s : Panel) (flags : Byte) : (s.acknowledge flags).reject = if flags &&& Alert.cardReject.mask != 0 then none else s.reject := rfl

@[simp] theorem Panel.acknowledge_response (s : Panel) (flags : Byte) : (s.acknowledge flags).response = s.response := rfl

@[simp] theorem Panel.acknowledge_resetWaits (s : Panel) (flags : Byte) : (s.acknowledge flags).resetWaits = s.resetWaits := rfl

/-! ### Panel.enable -/

@[simp] theorem Panel.enable_flags (s : Panel) (flags : Byte) (master : Bool) : (s.enable flags master).flags = s.flags := rfl

@[simp] theorem Panel.enable_enables (s : Panel) (flags : Byte) (master : Bool) : (s.enable flags master).enables = flags &&& alertBits := rfl

@[simp] theorem Panel.enable_master (s : Panel) (flags : Byte) (master : Bool) : (s.enable flags master).master = master := rfl

@[simp] theorem Panel.enable_reject (s : Panel) (flags : Byte) (master : Bool) : (s.enable flags master).reject = s.reject := rfl

@[simp] theorem Panel.enable_response (s : Panel) (flags : Byte) (master : Bool) : (s.enable flags master).response = s.response := rfl

@[simp] theorem Panel.enable_resetWaits (s : Panel) (flags : Byte) (master : Bool) : (s.enable flags master).resetWaits = s.resetWaits := rfl

/-! ### PathMonitor.cover -/

@[simp] theorem PathMonitor.cover_sheets (m : PathMonitor) (x : Sensor) (b : Bool) : (m.cover x b).sheets = m.sheets := by
  cases x <;> rfl

@[simp] theorem PathMonitor.cover_doorOpen (m : PathMonitor) (x : Sensor) (b : Bool) : (m.cover x b).doorOpen = m.doorOpen := by
  cases x <;> rfl

@[simp] theorem PathMonitor.cover_jammed (m : PathMonitor) (x : Sensor) (b : Bool) : (m.cover x b).jammed = m.jammed := by
  cases x <;> rfl

@[simp] theorem PathMonitor.cover_log (m : PathMonitor) (x : Sensor) (b : Bool) : (m.cover x b).log = m.log := by
  cases x <;> rfl

@[simp] theorem PathMonitor.cover_covered (m : PathMonitor) (x y : Sensor) (b : Bool) :
    (m.cover x b).covered y = if x = y then b else m.covered y := by
  cases x <;> cases y <;> rfl

end Sys2Proof.Machine
end

