-- ==== Sys2Proof/Tests/Slice0.lean ====
section
/-! SUPPORT. Tests: the checks of WellFormed, the formats of chapter 12, the worked cases of the manual, each as one step, and for
every obligation with hypotheses a state that meets them. -/

-- One theorem after another: many small theorems elaborated at once need more threads than the check allows.
set_option Elab.async false
-- A witness of many conditions is one long conjunction to decide.
set_option synthInstance.maxSize 512

namespace Sys2Proof.Tests

open Sys2Proof Sys2Proof.Machine

/-! ### A station to test on -/

/-- Values of the worked cases of chapters 1 to 4. -/
def values : Values where
  station := 7
  base := [80, 0, 0, 0, 0, 0, 0, 450, 0, 0, 0, 0, 0, 0, 0, 0]
  backPct := 70
  b1 := 5
  b2 := 10
  t2 := 80
  t3 := 60
  disc := [0, 10, 15, 0]
  minCharge := 50
  minGrant := 50
  holdStep := 500
  lifetime := 300
  grace := 24
  idleTimeout := 60
  floatLimit := 800
  floatPool := 2000
  w1 := 400
  w2 := 600
  w3 := 800
  dwell := List.replicate 8 1500

/-- A good configuration with those values. -/
def good : Configuration := { image := [], values := values, outcome := .good, clamped := 0 }

/-- A station in service with no job. -/
def idle : Part := { phase := .serving, config := good, now := 20000 }

/-- A station that is out of service. -/
def bad : Part := { idle with config := { good with outcome := .bad } }

/-- A state with PERMIT and ALERT as they follow from the rest. -/
def at' (p : Part) : State :=
  { pending := [], part := { p with permit := p.permitHolds, alertOut := p.panel.drives } }

/-- The state after a command. -/
def after (c : Instr) (p : Part) : State :=
  match exec c (at' p) with
  | .next t => t
  | _ => State.reset

/-- The plan of section 1.6.1: 3 copies of 4 originals. -/
def plan : Plan := { media := 0, colour := .mono, twoSided := false, originals := 4, copies := 3, collated := false }

/-- A job for account 40,213 of station 12 under hold 905, in a state. -/
def job (st : JobState) : Job :=
  { state := st, number := 318, funding := some .accountRemote, payer := 40213, home := some 12, holdId := some 905
    limit := some 500, lifetime := some 300, cls := 1, plan := some plan, planReserve := 8000, keepDue := some 150000
    lastActivity := 19000 }

/-- A station with such a job. -/
def withJob (j : Job) : Part := { idle with job := j, journal := { reserved := 1 }, settlement := { reserved := 1 } }

/-- A sheet of that job. -/
def sheet (st : Stage) (index deadline : Nat) : Sheet :=
  { owner := some 318, index := some index, media := 0, colour := .mono, twoSided := false, reserve := 8000, stage := st
    deadline := deadline }

/-- A station with a job and sheets in the path. -/
def withSheets (j : Job) (sheets : List Sheet) : Part :=
  { withJob { j with assigned := sheets.length, acc := { j.acc with reserved := 8000 * sheets.length } } with
    path := { sheets := sheets } }

/-- An account of the worked exchange (section 5.9). -/
def account : Account :=
  { number := 40213, credit := .charge 2000, cls := 1, blocked := false, spent := 1200, lastSpent := 0, impressions := 0
    overdrawn := false, closedPeriod := 41, lastApply := 0 }

/-- A hold record of that account. -/
def hold (id station job amount touched : Nat) (st : HoldState) : HoldRecord :=
  { id := id, account := 40213, station := station, job := job, amount := amount, state := st, touched := touched }

/-- A home station with a ledger, a held amount and a frame in its inbound queue. -/
def home (l : Ledger) (held : Nat) (m : Message) : Part :=
  { idle with
    now := 5000000, config := { good with values := { values with station := 12 } }, store := { stored := l }
    accounts := { held := if held = 0 then [] else [(40213, held)] }
    line := { inbound := [{ source := 7, dest := 12, message := m }] } }

/-- The account's record in its slot. -/
def books : Ledger := { accounts := [(191, .used account)] }

/-! ### WellFormed refuses what the wire cannot carry -/

theorem test_ill_formed_panel :
    WellFormed (.panelRequestUnknown 256) = false ∧ WellFormed (.start 256 0 1 1 1 0) = false ∧
      WellFormed (.start 0 256 1 1 1 0) = false ∧ WellFormed (.start 0 0 256 1 1 0) = false ∧
      WellFormed (.start 0 0 1 65536 1 0) = false ∧ WellFormed (.start 0 0 1 1 65536 0) = false ∧
      WellFormed (.start 0 0 1 1 1 256) = false ∧ WellFormed (.quote 256 0 1 0 0) = false ∧
      WellFormed (.quote 0 256 1 0 0) = false ∧ WellFormed (.quote 0 0 256 0 0) = false ∧
      WellFormed (.quote 0 0 1 16777216 0) = false ∧ WellFormed (.quote 0 0 1 0 256) = false ∧
      WellFormed (.journalRead 4294967296) = false ∧ WellFormed (.journalRelease 4294967296) = false ∧
      WellFormed (.meterRead 256) = false ∧ WellFormed (.accountRead 16777216) = false ∧
      WellFormed (.holdRead 256) = false ∧ WellFormed (.deferredRead 256) = false ∧ WellFormed (.alertEnable 0 256) = false := by
  decide +kernel

theorem test_ill_formed_lines :
    WellFormed (.configLoadDone []) = false ∧ WellFormed (.sheetFed 8 0 1) = false ∧ WellFormed (.sheetFed 0 2 1) = false ∧
      WellFormed (.sheetFed 0 0 0) = false ∧ WellFormed (.sheetFed 0 0 3) = false ∧ WellFormed (.sensorOn 3) = false ∧
      WellFormed (.sensorOff 3) = false ∧ WellFormed (.engineFault 256) = false ∧
      WellFormed (.sheetDeadlineExpiry 6) = false ∧ WellFormed (.cardIn (List.replicate 256 0)) = false ∧
      WellFormed (.writeDone 4294967296 0) = false ∧ WellFormed (.writeDone 0 65536) = false ∧
      WellFormed (.writeFail 4294967296) = false := by
  decide +kernel

theorem test_ill_formed_frames :
    WellFormed (.holdGive 0 0 0 0 0 0) = false ∧ WellFormed (.holdGive 31 0 0 0 0 0) = false ∧
      WellFormed (.holdGive 1 65536 0 0 0 0) = false ∧ WellFormed (.holdGive 1 0 65536 0 0 0) = false ∧
      WellFormed (.holdGive 1 0 0 4294967296 0 0) = false ∧ WellFormed (.holdGive 1 0 0 0 256 0) = false ∧
      WellFormed (.holdGive 1 0 0 0 0 65536) = false ∧ WellFormed (.holdDeny 0 0 0) = false ∧
      WellFormed (.holdDeny 1 65536 0) = false ∧ WellFormed (.holdDeny 1 0 256) = false ∧
      WellFormed (.holdGone 31 0 0) = false ∧ WellFormed (.holdGone 1 65536 0) = false ∧
      WellFormed (.holdGone 1 0 65536) = false ∧ WellFormed (.acctAnswer 0 0 0 0 0) = false ∧
      WellFormed (.acctAnswer 1 16777216 0 0 0) = false ∧ WellFormed (.acctAnswer 1 0 256 0 0) = false ∧
      WellFormed (.acctAnswer 1 0 0 4294967296 0) = false ∧ WellFormed (.acctAnswer 1 0 0 0 4294967296) = false ∧
      WellFormed (.settleQuickTimerExpiry 0) = false ∧ WellFormed (.settleSlowTimerExpiry 31) = false ∧
      WellFormed (.tally 0 0 0 0 0 0) = false ∧ WellFormed (.tally 1 65536 0 0 0 0) = false ∧
      WellFormed (.tally 1 0 256 0 0 0) = false ∧ WellFormed (.tally 1 0 0 4294967296 0 0) = false ∧
      WellFormed (.tally 1 0 0 0 4294967296 0) = false ∧ WellFormed (.tally 1 0 0 0 0 16777216) = false := by
  decide +kernel

theorem test_well_formed_at_the_edges :
    WellFormed (.configLoadDone (List.replicate 64 0)) = true ∧ WellFormed (.sheetFed 7 1 2) = true ∧
      WellFormed (.sensorOn 2) = true ∧ WellFormed (.quote 255 255 255 16777215 255) = true ∧
      WellFormed (.holdGive 30 65535 65535 4294967295 255 65535) = true ∧
      WellFormed (.cardIn (List.replicate 255 0)) = true := by
  decide +kernel

/-! ### Formats (chapter 12) -/

/-- The table's rows have no bits. -/
theorem test_no_word_spells_a_command : decodeTableWord 16 0 = none ∧ (State.reset.withFetchWord 16 0) = State.reset := by
  decide +kernel

/-- Section 12.8: SHEET_FED of media 7, colour, two-sided; SENSOR_ON of EXIT; ENGINE_FAULT 9; a check byte that is wrong. -/
theorem test_engine_messages :
    decodeEngine [0x01, 0x07, 0x01, 0x02, 0xF5] = .sheetFed 7 1 2 ∧ decodeEngine [0x02, 0x02, 0xFC] = .sensorOn 2 ∧
      decodeEngine [0x06, 0x09, 0xF1] = .engineFault 9 ∧ decodeEngine [0x06, 0x09, 0xF0] = .engineMessageGarbled ∧
      decodeEngine [0x01, 0x08, 0x01, 0x02, 0xF4] = .engineMessageGarbled := by
  decide +kernel

/-- Section 12.9: WRITE_DONE of serial 00A4_1C07 and count 418 (section 4.5); CARD_OUT; a wrong check byte. -/
theorem test_card_messages :
    decodeCard [0x03, 0x00, 0xA4, 0x1C, 0x07, 0x01, 0xA2, 0x93] = .writeDone 0xA41C07 418 ∧ decodeCard [0x02, 0xFE] = .cardOut ∧
      decodeCard [0x02, 0xFF] = .cardMessageDiscarded := by
  decide +kernel

/-- Section 12.5: the write transactions of METER_READ(25) and of a code that names no request; a read transaction. -/
theorem test_panel_transactions :
    decodePanel [0x57, 0x0A, 0x01, 0x19, 0xDC] = some (.meterRead 25) ∧
      decodePanel [0x57, 0x14, 0x00, 0xEC] = some (.panelRequestUnknown 20) ∧ decodePanel [0x52] = some .panelRead := by
  decide +kernel

/-- R108: account 40,213 passes through E1F0 and 4F1B and ends at E0BF; its home index is 191. -/
theorem test_home_index :
    crc [0x00] = 0xE1F0#16 ∧ crc [0x00, 0x9D] = 0x4F1B#16 ∧ crc [0x00, 0x9D, 0x15] = 0xE0BF#16 ∧ homeIndex 40213 = 191 := by
  decide +kernel

/-- The order of frames: HOLD_GIVE to 3 goes before SETTLE and HOLD_KEEP to 12 (section 8.11). -/
theorem test_frames_queue_in_header_order :
    (insertFrame
          [{ ticket := 0, dest := 12, message := .settle 1 2 3 4 5 }, { ticket := 1, dest := 12, message := .holdKeep 1 2 }]
          { ticket := 2, dest := 3, message := .holdGive 1 2 3 0 300 }).map OutFrame.ticket = [2, 0, 1] := by
  decide +kernel

/-! ### Worked cases -/

/-- Section 1.6.1: twelve sheets come to 81,600 cu and 69 cents. -/
theorem test_tiered_job :
    ((List.replicate 12 (sheet .atExit 0 0)).foldl (chargeSheet values) { reserved := 96000 }).gross = 81600 ∧
      finalCharge values 81600 12 2 200 = 69 := by
  decide +kernel

/-- Section 1.6.2: the two-sided colour sheet takes 76,500 cu of reserve and is charged 45,900; the job ends at 108 cents. -/
theorem test_two_sided_sheet :
    fullReserve values 3 .colour true = 76500 ∧
      (chargeSheet values { gross := 81600, delivered := 12, reserved := 76500 }
            { sheet .atExit 12 0 with media := 3, colour := .colour, twoSided := true, reserve := 76500 }).gross = 127500 ∧
      finalCharge values 127500 14 2 200 = 108 := by
  decide +kernel

/-- Section 1.6.3: the minimum charge is capped at a hold of 30 cents, and nothing delivered costs nothing. -/
theorem test_minimum_at_the_cap : finalCharge values 8000 1 0 30 = 30 ∧ finalCharge values 0 0 0 30 = 0 := by
  decide +kernel

/-- Section 1.7.1: 12 impressions at 69 cents, and 6 at 190. -/
theorem test_quotes :
    (after (.quote 0 0 1 12 2) idle).part.panel.response = some { code := 7, result := .ok, body := [0, 0, 12, 0, 0, 69] } ∧
      (after (.quote 3 1 2 3 2) idle).part.panel.response = some { code := 7, result := .ok, body := [0, 0, 6, 0, 0, 190] } := by
  decide +kernel

/-- Section 2.8: START of a job with a hold of 500 cents reserves 8,000 cu and asserts PERMIT. -/
theorem test_start_asserts_permit :
    (after (.start 0 0 1 3 2 0) (withJob (job .ready))).part.job.planReserve = 8000 ∧
      (after (.start 0 0 1 3 2 0) (withJob (job .ready))).part.permit = true := by
  decide +kernel

/-- Section 2.8: the feed of index 5 of six takes A to 6 and releases PERMIT. -/
theorem test_last_feed_releases_permit :
    (after (.sheetFed 0 0 1)
          (withJob
            { job .running with
              plan := some { plan with originals := 3, copies := 2 }, assigned := 5, position := 5
              acc := { gross := 24000 } })).part.permit = false := by
  decide +kernel

/-- Section 2.8: the sixth delivery is charged at 80 percent, and the run-out wait begins, 400 ms long. -/
theorem test_last_delivery_starts_the_run_out :
    let t :=
      after (.sensorOff 2)
        { withSheets
            { job .running with
              plan := some { plan with originals := 3, copies := 2 }, position := 5, acc := { gross := 40000, delivered := 5 } }
            [sheet .atExit 5 30000] with
          path := { sheets := [sheet .atExit 5 30000], exitCovered := true } }
    t.part.job.acc.gross = 46400 ∧ t.part.job.runOutDue = some 20400 := by
  decide +kernel

/-- Section 2.8: at the run-out the job settles at 50 cents under the end reason DONE. -/
theorem test_run_out_settles :
    let t :=
      after .runOutDue
        (withJob
          { job .running with
            plan := some { plan with originals := 3, copies := 2 }, assigned := 6, position := 6, runOutDue := some 20000
            acc := { gross := 46400, delivered := 6 } })
    t.part.job.charge = some 50 ∧ t.part.job.endReason = some .done ∧ t.part.job.state = .settling := by
  decide +kernel

/-- Section 2.4: the positions of 3 originals and 2 copies. -/
theorem test_positions :
    (List.range 6).map { plan with originals := 3, copies := 2, collated := true }.place =
        [(1, 1), (1, 2), (1, 3), (2, 1), (2, 2), (2, 3)] ∧
      (List.range 6).map { plan with originals := 3, copies := 2 }.place = [(1, 1), (2, 1), (1, 2), (2, 2), (1, 3), (2, 3)] := by
  decide +kernel

/-- Section 3.8: the deadline of index 2 in TO_EXIT is a LATE jam at EXIT that spoils three sheets. -/
theorem test_late_jam :
    let t :=
      after (.sheetDeadlineExpiry 0)
        { withSheets { job .running with position := 2 } [sheet .toExit 2 20000, sheet .atFuse 3 21100, sheet .atReg 4 21300] with
          path :=
            { sheets := [sheet .toExit 2 20000, sheet .atFuse 3 21100, sheet .atReg 4 21300], regCovered := true
              fuseCovered := true } }
    t.part.path.log =
        [{ kind := .late, sensor := some .exit, code := none, job := some 318, first := some (2, 3, 1), spoiled := 3
           time := 20 }] ∧
      t.part.job.state = .jammed ∧ t.part.job.acc.reserved = 0 ∧ t.part.job.assigned = 2 ∧ t.part.job.spoiled = 3 ∧
      countGet t.part.ledger.meters 16 = 3 := by
  decide +kernel

/-- Section 4.5: F = 84 from a balance of 1,250 is written as 1,166 under count 417; count 418 closes the session. -/
theorem test_value_card_is_written :
    let card : ValueCard := { serial := 0xA41C07, balance := 1250, cls := 1, count := 417 }
    let j : Job := { job .ready with funding := some .value, limit := some 1250, acc := { gross := 93300, delivered := 12 } }
    (after .endJob { withJob j with card := { session := .held card 318 } }).part.outputs.card =
        [[0x07, 0x00, 0xA4, 0x1C, 0x07, 0x00, 0x04, 0x8E, 0x01, 0xA1, 0xFE]] ∧
      (after (.writeDone 0xA41C07 418)
            { withJob { j with state := .settling } with
              card := { session := .writing card 318 false 84 1166 22000 } }).part.card =
        { session := .closed, returns := 1 } := by
  decide +kernel

/-- Section 4.8: with 1,370 cents of float outstanding job 402 opens on 630. -/
theorem test_float_decision :
    let p := withJob { job .authorize with limit := none, plan := none, askAttempts := 3, askDue := some 20000 }
    let t := after .askTimerExpiry { p with settlement := { p.settlement with floatOutstanding := 1370 } }
    t.part.job.limit = some 630 ∧ t.part.job.funding = some .float ∧ t.part.settlement.floatOutstanding = 2000 := by
  decide +kernel

/-- The holds of section 5.9: one of the account in slot 9, the others in slots 0 to 13 of other accounts. -/
def exchange : Table HoldRecord :=
  (List.range 14).map (fun i =>
    (i, if i = 9 then hold 1180 3 77 200 4990 .active else { hold (100 + i) 4 i 50 4990 .active with account := 1 }))

/-- Section 5.9: the ask takes hold id 1,205 and slot 14, for 500 cents. -/
theorem test_ask_takes_the_lowest_slot :
    (after .holdAsk (home { books with holds := exchange, holdId := 1204 } 200 (.holdAsk 40213 611 500))).part.store.queue =
      [{ write := .counter .holdId 1205, notes := [] },
        { write := .hold 14 (some (hold 1205 7 611 500 5000 .active)), notes := [.grant 7 14 1205 611] }] := by
  decide +kernel

/-- Section 5.9: the request for more is granted 100, and the held amount rises to 800. -/
theorem test_more_is_limited_by_the_account :
    let t :=
      after .holdMore
        (home { books with holds := tablePut exchange 14 (hold 1205 7 611 500 5150 .active) } 700 (.holdMore 1205 611 500))
    tableGet t.part.ledger.holds 14 = some (hold 1205 7 611 600 5000 .active) ∧ t.part.held 40213 = 800 := by
  decide +kernel

/-- Section 5.9: 309 seconds after its last touch the record lapses; a later keep restores it when the account allows. -/
theorem test_lapse_and_restore :
    let p := home { books with holds := [(0, hold 1205 7 611 600 4691 .active)] } 600 (.announce 0)
    let q := home { books with holds := [(14, hold 1205 7 611 600 4900 .lapsed)] } 200 (.holdKeep 1205 611)
    tableGet (after .sweepVisit { p with holds := { due := some 5000000 } }).part.ledger.holds 0 =
        some (hold 1205 7 611 600 5000 .lapsed) ∧
      tableGet (after .holdKeep q).part.ledger.holds 14 = some (hold 1205 7 611 600 5000 .active) ∧
      (after .holdKeep q).part.held 40213 = 800 := by
  decide +kernel

/-- Section 6.3: with 510 used, 511 vacated and 0 used, Z is found in slot 0 and W goes to 511. -/
theorem test_probing :
    let slots : Table AccountSlot := [(0, .used { account with number := 3 }), (510, .used { account with number := 1 }), (511, .vacated)]
    (probe slots 3 16 510).map Prod.fst = some 0 ∧ probe slots 4 16 510 = none ∧ probeFree slots 16 510 = some 511 := by
  decide +kernel

/-- Section 6.7: a close carries the spent amount over. -/
theorem test_close_carries_the_period :
    let t := after .periodClose (home { books with period := { current := 41 } } 0 (.periodClose 42))
    (findAccount t.part.ledger 40213).map (fun e => (e.2.lastSpent, e.2.spent, e.2.closedPeriod)) = some (1200, 0, 42) ∧
      t.part.ledger.period = { current := 42, walking := true } := by
  decide +kernel

/-- Section 7.3: 4 is newer than a mark of 65,530, and 402 is not newer than 402. -/
theorem test_newer_float : floatNewer 65530 4 = true ∧ floatNewer 402 402 = false := by
  decide +kernel

/-- Section 8.11: an unanswered frame raises the score by 8 and stays at the head; the answered one leaves and lowers it by 1. -/
theorem test_scores_of_a_send :
    let p : Part :=
      { idle with line := { score := 39, sending := some 0, outbound := [{ ticket := 0, dest := 12, message := .settle 1 2 3 4 5 }] } }
    (after (.sendResult false) p).part.line.score = 47 ∧
      (after (.sendResult false) p).part.line.outbound.map OutFrame.attempts = [1] ∧
      (after (.sendResult true) p).part.line.score = 38 ∧ (after (.sendResult true) p).part.line.outbound = [] := by
  decide +kernel

/-- R141, section 12.1: HOLD_KEEP of hold 905 and job 318 from station 7 to 12, its rank, destination, source and length before its
payload, goes out whole at the end of its send. -/
theorem test_sent_frame :
    let p : Part := { idle with line := { sending := some 0, outbound := [{ ticket := 0, dest := 12, message := .holdKeep 905 318 }] } }
    (after (.sendResult true) p).part.outputs.line.map (fun bytes => bytes.take 7) = [[0x96, 0x1C, 0x04, 0x03, 0x89, 0x01, 0x3E]] ∧
      judge ((after (.sendResult true) p).part.outputs.line.getD 0 []) = .good 7 12 (some (.holdKeep 905 318)) := by
  decide +kernel

/-- Section 12.5: a QUOTE's response of 190 cents goes out with code, result, length, body and check byte. -/
theorem test_response_bytes :
    (after .panelRead (after (.quote 3 1 2 3 2) idle).part).part.outputs.panel =
      [[0x07, 0x01, 0x06, 0x00, 0x00, 0x06, 0x00, 0x00, 0xBE, 0x2E]] := by
  decide +kernel

/-- R41, R58: the feed that causes a DOOR jam of a PAUSED job sets the activity time; a feed against the jammed path does not (R62). -/
theorem test_jam_feed_sets_activity :
    let p := withJob (job .paused)
    (after (.sheetFed 0 0 1) { p with path := { doorOpen := true } }).part.job.lastActivity = 20000 ∧
      (after (.sheetFed 0 0 1) { p with path := { doorOpen := true, jammed := true } }).part.job.lastActivity = 19000 := by
  decide +kernel

/-- R125, R155: a local settlement that the hold table cannot take yet leaves the sending side free; a post that waits stops it. -/
theorem test_heard_report_beside_a_waiting_settlement :
    let e : DeferredEntry :=
      { number := 3, home := 12, holdId := 905, account := 40213, job := 318, charge := 50, impressions := 6, attempts := 3 }
    let full := (List.range 8).map (fun i => ({ write := .meter i 1, notes := [] } : Post))
    let local' : Settlement :=
      { source := 7, holdId := 5, account := 40213, job := 317, charge := 50, impressions := 6, requester := .job }
    let p := fun (w : Work) => ({ idle with
      store :=
        { stored := { deferred := [(15, e)] }, queue := full
          work := [{ owner := .hold, tasks := [.putHoldId 9], begun := true, since := some 20000 }, w] }
      settlement := { flights := [{ home := 12, number := 3, slow := true, sends := 3, due := 50000 }] } } : Part)
    let heard := fun (w : Work) => (after (.frameReceived (frameBytes 12 0 (.announce 0))) (p w)).part.line.outbound.length
    heard { owner := .settlement, tasks := [.decide local'] } = 1 ∧
      heard { owner := .settlement, tasks := [.countSend 3], begun := true, since := some 20000 } = 0 := by
  decide +kernel

/-- R126: a heard report of the millisecond in which the slow timer runs out makes one send, and leaves the timer to make another. -/
theorem test_heard_report_and_expiry :
    let e : DeferredEntry :=
      { number := 3, home := 12, holdId := 905, account := 40213, job := 318, charge := 50, impressions := 6, attempts := 3 }
    let p : Part :=
      { idle with
        store := { stored := { deferred := [(15, e)] } }
        settlement := { flights := [{ home := 12, number := 3, slow := true, sends := 3, due := 20000 }] } }
    let q := (after (.frameReceived (frameBytes 12 0 (.announce 0))) p).part
    let r := (after (.settleSlowTimerExpiry 12) q).part
    q.line.outbound.length = 1 ∧ q.settlement.flights.map Flight.due = [20000] ∧ r.line.outbound.length = 2 ∧
      r.settlement.flights.map Flight.due = [50000] := by
  decide +kernel

/-- R125: an entry comes into flight once its own write has completed, also when its number was another entry's. -/
theorem test_entry_waits_for_its_write :
    let old : DeferredEntry :=
      { number := 1, home := 12, holdId := 905, account := 40213, job := 318, charge := 50, impressions := 6, attempts := 3 }
    let p : Part :=
      { idle with
        store :=
          { stored := { deferred := [(0, old)] }
            queue :=
              [{ write := .deferred 0 none, notes := [] },
                { write := .deferred 1 (some { old with job := 319 }), notes := [.entryStored 1 false] }] } }
    p.oldestFor 12 = none ∧ (p.oldestFor 12).isSome = false ∧
      ({ p with store := { stored := { deferred := [(1, { old with job := 319 })] } } } : Part).oldestFor 12 =
        some { old with job := 319 } := by
  decide +kernel

/-- Section 9.7: of the queued posts only the one being programmed can survive a loss of supply. -/
theorem test_loss_of_supply :
    let p : Part :=
      { idle with
        store :=
          { queue := [{ write := .meter 3 7, notes := [] }, { write := .meter 0 2, notes := [] }] } }
    (after (.powerLoss true) p).part.store = { stored := { meters := [(3, 7)] } } ∧ (after (.powerLoss false) p).part.store = {} := by
  decide +kernel

/-- Section 10.6: with 17 free slots a card is taken and JOURNAL_LOW raised at 16; with 8 free it is refused. -/
theorem test_journal_at_its_limit :
    let record := withCheck (bytesOf 1 2 ++ bytesOf 4 5 ++ bytesOf 3 100 ++ bytesOf 1 0 ++ bytesOf 2 0)
    let p := fun (newest : Nat) => { idle with store := { stored := { journalSequence := newest, releaseMark := 5000 } } }
    (p 5239).freeSlots = 17 ∧ (after (.cardIn record) (p 5239)).part.freeSlots = 16 ∧
      (after (.cardIn record) (p 5239)).part.panel.isSet .journalLow = true ∧
      (after (.cardIn record) (p 5248)).part.panel.reject = some .stationFull := by
  decide +kernel

/-- Section 11.5: an idle timeout of 10 s and a dwell of 12,000 ms are clamped, which makes the outcome CLAMPED with 2. -/
theorem test_two_values_are_clamped :
    let words : List Nat :=
      [7] ++ List.replicate 16 80 ++ [70, 5, 10, 80, 60, 0, 10, 15, 0, 50, 50, 500, 300, 1, 10, 800, 2000, 400, 600, 800] ++
        [1500, 1500, 1500, 1500, 12000, 1500, 1500, 1500]
    let rest := words ++ List.replicate (63 - words.length) 0
    let c := loadImage ((rest ++ [65536 - rest.sum % 65536]).map (BitVec.ofNat 16))
    c.outcome = .clamped ∧ c.clamped = 2 ∧ c.values.idleTimeout = 15 ∧ c.values.dwell.getD 4 0 = 10000 := by
  decide +kernel

/-- R132: at the return to FREE with a SETTLE and a local request waiting, one choice is read; a SETTLE that is discarded lets the
request go. -/
theorem test_either_goes_first :
    let request : Settlement :=
      { source := 12, holdId := 1205, account := 40213, job := 611, charge := 5, impressions := 1, requester := .cancelledAsk 611 }
    let p : Part := { home books 0 (.settle 0 40213 0 5 1) with settlement := { requests := [request] } }
    p.returnFree.1.settlement.turns = 1 ∧ (p.withLine {}).returnFree.1.settlement.turns = 0 ∧
      (after .settle p).part.settlement.requests = [] := by
  decide +kernel

/-! ### States that meet the obligations' hypotheses -/

/-- A station with every list and count full. -/
def full : Part :=
  { withSheets (job .running) [sheet .toExit 0 21000, sheet .toFuse 1 21000, sheet .fed 2 21000, sheet .fed 3 21000,
      sheet .fed 4 21000, sheet .fed 5 21000] with
    store := { queue := (List.range 8).map (fun i => { write := .meter i 1, notes := [] }) }
    line :=
      { score := 255
        outbound := (List.range 8).map (fun i => { ticket := i, dest := 12, message := .holdKeep 905 i })
        inbound := List.replicate 8 { source := 12, dest := 7, message := .holdGone 905 318 } }
    card := { returns := 7 } }

/-- Meets the hypotheses of the invariants over a step (StoredMemoryStaysCanonical to AlertFollowsTheFlags): a station with every
list full, and a step from it. -/
theorem test_witness_invariants :
    (at' full).part.Canonical ∧ (at' full).part.InPlaces ∧ (at' full).part.PermitSafe ∧ (at' full).part.AlertDecided ∧
      ∃ t, step { at' full with pending := [.doorOpen] } = .next t :=
  ⟨by decide +kernel, by decide +kernel, by decide +kernel, by decide +kernel, _, rfl⟩

/-- Meets the hypotheses of StoredRecordsAndConfigurationAreKept: a command that is none of those excepted. -/
theorem test_witness_kept :
    (∃ t, exec .cardOut (at' full) = .next t) ∧ Instr.cardOut ≠ .writeComplete ∧ (∀ b, Instr.cardOut ≠ .powerLoss b) ∧
      ∀ image, Instr.cardOut ≠ .configLoadDone image :=
  ⟨⟨_, rfl⟩, by simp, by simp, by simp⟩

/-- Meets the hypotheses of BuiltFrameIsJudgedGood: stations and messages at the edges of their fields. -/
theorem test_witness_frames :
    isStation 1 = true ∧ isStation 30 = true ∧ (Message.holdAsk 16777215 65535 4294967295).inWidth = true ∧
      (Message.acctPut 0 1 3 3 4294967295).inWidth = true := by
  decide +kernel

/-- A part with no supply, one that drains, and one that reads its image. -/
def in' (phase : Phase) : Part := { idle with phase := phase }

/-- Meets the hypotheses of SupplyKeepsTheStoredRecords, ResetPinDrainsThenStartsUp and LoadKeepsTheClampedImage: the phases they
start from. -/
theorem test_witness_supply_and_reset :
    (in' .off).phase = .off ∧ (at' full).part.phase ≠ .off ∧ (at' full).part.phase = .serving ∧
      (at' full).part.store.work = [] ∧ (at' full).part.store.pending = [] ∧
      (∃ load, (in' (.draining true)).phase = .draining load ∧ load = true) ∧
      (∃ load, (in' (.draining false)).phase = .draining load ∧ load = false) ∧
      (in' (.draining true)).store.queue = [] ∧ (in' (.draining true)).store.pending = [] ∧
      (in' (.draining true)).store.work = [] ∧ (in' .loading).phase = .loading := by
  decide +kernel

/-- A station with one post queued. -/
def posted (w : Write) (notes : List Note) : Part := { idle with store := { queue := [{ write := w, notes := notes }] } }

/-- Meets the hypotheses of WriteCompleteStoresTheOldestPost. -/
theorem test_witness_write_complete :
    (at' (posted (.meter 25 4294967295) [])).part.store.queue = { write := .meter 25 4294967295, notes := [] } :: [] ∧
      (at' (posted (.meter 25 4294967295) [])).part.AtRest := by
  decide +kernel

/-- Meets the hypotheses of NewPartEntersService: a ledger for each step of recovery, the debit made and not made, and entries of
two homes. -/
theorem test_witness_recovery :
    let r : ApplyRecord :=
      { sequence := 9, holdId := some 905, station := 12, job := 4, account := 40213, charge := 50, impressions := 6 }
    let c : Checkpoint :=
      { job := 318, funding := .accountRemote, payer := 40213, home := some 12, holdId := some 905, limit := 500, cls := 1
        gross := 8000, delivered := 1, mono := 1, colour := 0, position := 1, unbilled := 0, unpermitted := 0, spoiled := 0, jams := 0 }
    let e := fun (number home : Nat) =>
      ({ number := number, home := home, holdId := 0, account := 1, job := 4, charge := 50, impressions := 6, attempts := 65535 } :
        DeferredEntry)
    ({ books with apply := some r } : Ledger).wf ∧ findAccount books r.account = some (191, account) ∧
      account.lastApply ≠ r.sequence ∧ ({ account with lastApply := 9 } : Account).lastApply = r.sequence ∧
      ({ checkpoint := some c } : Ledger).wf ∧ newestJob { checkpoint := some c } ≠ some c.job ∧
      lowestFree ({} : Ledger).deferred 0 16 = some 0 ∧ ({ holds := [(63, hold 905 7 4 50 9 .settling)] } : Ledger).wf ∧
      ({ deferred := [(0, e 2 12), (15, e 1 30)] } : Ledger).wf ∧ ([(0, e 2 12), (15, e 1 30)].map (fun x => x.2.home)).Nodup ∧
      ([(0, e 2 12), (15, e 1 30)].map (fun x => x.2.number)).Nodup := by
  decide +kernel

/-- Meets the hypotheses of ChargesAreRoundedAndCapped and DeliveriesAndFeedsStayWithinTheHold: amounts at the limit of the hold. -/
theorem test_witness_charges :
    8000 ≤ 1000 * 30 ∧ values.minCharge ≤ 200 ∧
      (let acc : Accumulators := { gross := 500000 - 8000, reserved := 8000 }
       acc.gross + acc.reserved ≤ 1000 * 500 ∧ (sheet .atExit 0 0).reserve ≤ acc.reserved) := by
  decide +kernel

/-- Meets the hypotheses of QuotesComeToTheFinalCharge, and ReadsAnswerFromTheNewestValues for a response store that is empty. -/
theorem test_witness_quotes :
    values.t2 ≤ 100 ∧ values.t3 ≤ 100 ∧ (sheet .fed 0 0).reserve = fullReserve values 0 .mono false ∧
      (at' idle).part.phase = .serving ∧ (at' idle).part.config.outcome ≠ .bad ∧ (at' idle).part.panel.response = none := by
  decide +kernel

/-- A station whose panel processor has a response to read. -/
def unread (p : Part) : Part := { p with panel := { p.panel with response := some { code := 1, result := .ok, body := [] } } }

/-- Meets the hypotheses of RequestsAreRefusedOrReplacedByFull. -/
theorem test_witness_requests :
    (at' (in' .loading)).part.phase = .loading ∧ (at' (in' .loading)).part.job = {} ∧
      (at' (in' .loading)).part.panel.response = none ∧ (at' (in' .loading)).part.AlertDecided ∧
      requestCode .status = some 1 ∧ requestCode .resetStation = some 19 ∧ (at' bad).part.AtRest ∧
      (at' bad).part.AlertDecided ∧ (at' bad).part.config.outcome = .bad ∧ (at' bad).part.job = {} ∧
      (∀ k, Instr.resetStation ≠ .panelRequestUnknown k) ∧ 19 ∈ refusedOutOfService ∧
      (at' (unread idle)).part.AtRest ∧ (at' (unread idle)).part.AlertDecided ∧
      (at' (unread idle)).part.panel.response = some { code := 1, result := .ok, body := [] } := by
  refine ⟨?_, ?_, ?_, ?_, ?_, ?_, ?_, ?_, ?_, ?_, by simp, ?_, ?_, ?_, ?_⟩ <;> decide +kernel

/-- Meets the hypotheses of ResponsesAreReadAndResetWaits, both clauses on PANEL_READ; AlertRequestsSetFlagsAndEnables and
RESET_STATION from a station at rest. -/
theorem test_witness_panel_read :
    let p := at' (unread { full with panel := { resetWaits := true } })
    p.part.AtRest ∧ p.part.AlertDecided ∧ p.part.panel.resetWaits = true ∧ p.part.store.queue ≠ [] ∧
      (at' idle).part.panel.resetWaits = false := by
  decide +kernel

/-- Meets the hypotheses of StartBeginsThePlanOrIsRefused: an accepted START, and one refused for each reason. -/
theorem test_witness_start :
    let s := at' (withJob { job .ready with plan := none })
    s.part.AtRest ∧ s.part.config.outcome ≠ .bad ∧ s.part.panel.response = none ∧ s.part.job.state = .ready ∧
      s.part.path.jammed = false ∧ s.part.job.exhausted = none ∧
      s.part.job.acc.gross + s.part.job.acc.reserved + fullReserve s.part.config.values 3 .colour true ≤
        1000 * s.part.job.amount ∧
      (let t := at' { withJob (job .ready) with path := { jammed := true } }
       t.part.AtRest ∧ t.part.path.jammed = true) ∧
      (at' (withJob (job .paused))).part.AtRest ∧ (at' (withJob (job .paused))).part.job.state ≠ .ready := by
  decide +kernel

/-- Meets the hypotheses of ResumeRunsAPausedJob: a paused job on an empty path, with its funds exhausted, and with no headroom; and
a job that is not paused. -/
theorem test_witness_resume :
    let s := at' (withJob (job .paused))
    s.part.AtRest ∧ s.part.config.outcome ≠ .bad ∧ s.part.panel.response = none ∧ s.part.job.state = .paused ∧
      s.part.path.jammed = false ∧ s.part.job.headroom = true ∧ s.part.job.exhausted = none ∧
      s.part.job.position < s.part.job.positions ∧ (at' idle).part.AtRest ∧ (at' idle).part.job.state ≠ .paused ∧
      (let t := at' (withJob { job .paused with exhausted := some .funds })
       t.part.AtRest ∧ t.part.job.exhausted.isSome = true ∧ t.part.path.sheets = []) ∧
      (let t := at' (withJob { job .paused with acc := { gross := 492001 } })
       t.part.AtRest ∧ t.part.job.headroom = false ∧ t.part.job.topupOutstanding = false ∧ t.part.job.exhausted = none ∧
         t.part.job.funding ≠ some .accountLocal) := by
  decide +kernel

/-- Meets the hypotheses of EndAndCancelDrainTheJob, by state. -/
theorem test_witness_end :
    (at' full).part.AtRest ∧ (at' full).part.job.state = .running ∧ (at' full).part.path.sheets ≠ [] ∧
      (at' { withJob (job .jammed) with path := { jammed := true } }).part.AtRest ∧
      (at' (withSheets (job .draining) [sheet .fed 0 21000])).part.AtRest ∧ (at' (withJob (job .settling))).part.AtRest ∧
      (at' (withJob (job .authorize))).part.AtRest := by
  decide +kernel

/-- A job that waits for its first answer. -/
def asking : Job :=
  { state := .authorize, number := 318, funding := some .accountRemote, payer := 40213, home := some 12, askAttempts := 1
    askDue := some 20400 }

/-- Meets the hypotheses of CancelOfAnAskKeepsARecord. -/
theorem test_witness_cancel :
    let s := at' (withJob asking)
    s.part.AtRest ∧ s.part.config.outcome ≠ .bad ∧ s.part.panel.response = none ∧ s.part.job.state = .authorize ∧
      s.part.settlement.cancelled = none := by
  decide +kernel

/-- Meets the hypotheses of EndedRemoteJobSettles: at the run-out time, and at the idle timeout. -/
theorem test_witness_remote_end :
    let s := at' (withJob { job .running with lastActivity := 0, position := 12, assigned := 12, runOutDue := some 20000 })
    let q := at' { withJob { job .running with lastActivity := 0 } with now := 60000 }
    s.part.AtRest ∧ s.part.config.outcome ≠ .bad ∧ s.part.path.sheets = [] ∧ s.part.job.funding = some .accountRemote ∧
      s.part.deferredSlot = some 0 ∧ s.part.store.queue.length < 8 ∧ s.part.panel.response = none ∧
      s.part.job.state = .running ∧ s.part.job.runOutDue = some 20000 ∧ 20000 ≤ s.part.now ∧ q.part.AtRest ∧
      q.part.path.sheets = [] ∧ q.part.deferredSlot = some 0 ∧
      q.part.config.values.idleTimeout * 1000 ≤ q.part.now - q.part.job.lastActivity ∧ s.part.job.home = some 12 ∧
      s.part.job.holdId = some 905 := by
  decide +kernel

/-- Meets the hypotheses of EndedRemoteJobSettles: the last sheet of a DRAINING job at EXIT. -/
theorem test_witness_last_delivery :
    let s := at' (withSheets { job .draining with endReason := some .cardGone } [sheet .atExit 0 21000])
    s.part.AtRest ∧ s.part.path.jammed = false ∧ s.part.path.sheets = [sheet .atExit 0 21000] ∧ s.part.job.state = .draining ∧
      s.part.job.endReason = some .cardGone ∧ s.part.job.funding = some .accountRemote ∧ s.part.deferredSlot = some 0 ∧
      s.part.store.queue = [] := by
  decide +kernel

/-- Meets the hypotheses of EndedRemoteJobSettles and ClearPausesTheJob for a FLOAT job: at END, at its last sheet, and JAMMED. -/
theorem test_witness_float_end :
    let float := fun (st : JobState) =>
      { job st with funding := some .float, holdId := none, limit := some 800, lifetime := none, keepDue := none }
    let s := at' (withJob (float .running))
    let last := at' (withSheets { float .draining with endReason := some .panelEnd } [sheet .atExit 0 21000])
    let jam := at' { withJob { float .jammed with consecutiveJams := 3 } with path := { jammed := true, exitCovered := true } }
    s.part.AtRest ∧ s.part.path.sheets = [] ∧ s.part.job.funding = some .float ∧ s.part.deferredSlot = some 0 ∧
      s.part.store.queue = [] ∧ s.part.panel.response = none ∧ last.part.AtRest ∧ last.part.deferredSlot = some 0 ∧
      last.part.job.endReason = some .panelEnd ∧ jam.part.AtRest ∧ jam.part.job.consecutiveJams = 3 ∧
      jam.part.deferredSlot = some 0 := by
  decide +kernel

/-- A value card and its job. -/
def purse : ValueCard := { serial := 5, balance := 500, cls := 0, count := 65535 }

/-- A station whose card is being written. -/
def writing : Part :=
  { withJob { job .settling with funding := some .value, charge := some 84 } with
    card := { session := .writing purse 318 false 84 416 20000 } }

/-- Meets the hypotheses of ValueJobsWriteTheirCard: the end of a value job, and each answer to its write. -/
theorem test_witness_value_jobs :
    let s := at' { withJob { job .ready with funding := some .value, acc := { gross := 8000, delivered := 1 } } with
      card := { session := .held purse 318 } }
    s.part.AtRest ∧ s.part.config.outcome ≠ .bad ∧ s.part.panel.response = none ∧ s.part.path.sheets = [] ∧
      s.part.job.funding = some .value ∧ s.part.card.session = .held purse 318 ∧ s.part.job.state = .ready ∧
      finalCharge s.part.config.values s.part.job.acc.gross s.part.job.acc.delivered s.part.job.cls s.part.job.amount ≠ 0 ∧
      (at' writing).part.AtRest ∧ (at' writing).part.card.session = .writing purse 318 false 84 416 20000 ∧
      (at' writing).part.job.state = .settling ∧ (at' writing).part.store.queue = [] ∧
      0 < (at' writing).part.journal.reserved ∧ 20000 ≤ (at' writing).part.now ∧ (purse.count + 1) % 65536 = 0 ∧
      ¬(4 = purse.serial ∧ 0 = (purse.count + 1) % 65536) ∧ 4 ≠ purse.serial ∧
      (at' { writing with now := 19999 }).part.AtRest := by
  decide +kernel

/-- Meets the hypotheses of ValueJobsWriteTheirCard on an answer with no write in flight: the session closed, held and gone. -/
theorem test_witness_no_write_in_flight :
    (at' idle).part.AtRest ∧ (at' idle).part.card.session = .closed ∧
      (at' { idle with card := { session := .held purse 318 } }).part.AtRest ∧
      (at' { idle with card := { session := .gone purse 318 } }).part.AtRest := by
  decide +kernel

/-- Meets the hypotheses of JournalReleaseRaisesTheExportMark: a mark that stays, one that moves, and a full queue. -/
theorem test_witness_journal_release :
    let s := at' { idle with store := { stored := { journalSequence := 10, releaseMark := 4 } } }
    s.part.AtRest ∧ s.part.store.merges (.counter .releaseMark 0) = false ∧
      max s.part.ledger.releaseMark (min 4 s.part.ledger.journalSequence) = s.part.ledger.releaseMark ∧
      max s.part.ledger.releaseMark (min 5 s.part.ledger.journalSequence) ≠ s.part.ledger.releaseMark ∧
      s.part.store.queue.length < 8 ∧
      (let t := at' { full with store := { full.store with stored := { journalSequence := 10, releaseMark := 4 } } }
       t.part.AtRest ∧ t.part.store.merges (.counter .releaseMark 0) = false ∧ 8 ≤ t.part.store.queue.length ∧
         max t.part.ledger.releaseMark (min 5 t.part.ledger.journalSequence) ≠ t.part.ledger.releaseMark) := by
  decide +kernel

/-- Meets the hypotheses of JournalReleaseRaisesTheExportMark on JOURNAL_LOW: a card taken with 17 free slots leaves 16. -/
theorem test_witness_journal_low :
    let record := withCheck (bytesOf 1 2 ++ bytesOf 4 5 ++ bytesOf 3 100 ++ bytesOf 1 0 ++ bytesOf 2 0)
    let p : Part := { idle with store := { stored := { journalSequence := 239 } } }
    (∃ t, exec (.cardIn record) (at' p) = .next t) ∧ (at' p).part.phase = .serving ∧
      (after (.cardIn record) p).part.phase = .serving ∧ 16 < (at' p).part.freeSlots ∧
      (after (.cardIn record) p).part.freeSlots ≤ 16 :=
  ⟨⟨_, rfl⟩, by decide +kernel, by decide +kernel, by decide +kernel, by decide +kernel⟩

/-- Meets the hypotheses of FeedsJoinJamOrAreSpoiled and PermittedFeedTakesItsReserve. -/
theorem test_witness_feeds :
    let s := at' (withSheets (job .running) [sheet .fed 0 21000])
    s.part.phase = .serving ∧ s.part.path.jammed = false ∧ s.part.path.doorOpen = false ∧ s.part.path.sheets.length < 6 ∧
      6 ≤ (at' full).part.path.sheets.length ∧ (at' full).part.path.jammed = false ∧ s.part.AtRest ∧ s.part.permit = true ∧
      (let j := s.part.job
       let reserve := min (fullReserve values 0 .mono false) (1000 * j.amount - j.acc.gross - j.acc.reserved)
       j.acc.gross + (j.acc.reserved + reserve) + j.planReserve ≤ 1000 * j.amount) ∧
      (let t := at' { withJob (job .jammed) with path := { jammed := true } }
       t.part.AtRest ∧ t.part.path.jammed = true ∧ t.part.store.queue = []) ∧
      ∀ st ∈ [JobState.ready, .paused],
        let u := at' { withJob (job st) with path := { doorOpen := true } }
        u.part.AtRest ∧ u.part.path.jammed = false ∧ u.part.path.doorOpen = true ∧ u.part.path.sheets = [] ∧
          u.part.job.state = st ∧ u.part.store.queue = [] := by
  decide +kernel

/-- Meets the hypotheses of JamsStopThePath and JamSpoilsTheJobsSheets. -/
theorem test_witness_jams :
    let s := at' (withSheets (job .running) [sheet .atReg 0 20000])
    s.part.phase = .serving ∧ s.part.path.jammed = false ∧ s.part.path.sheets ≠ [] ∧
      s.part.path.sheets.any (fun x => x.stage = Sensor.reg.stage) = true ∧
      (∀ x ∈ s.part.path.sheets, x.stage ≠ Sensor.exit.stage) ∧ s.part.path.sheets[0]? = some (sheet .atReg 0 20000) ∧
      (sheet .atReg 0 20000).deadline ≤ s.part.now ∧ s.part.AtRest ∧ s.part.Canonical ∧ s.part.job.plan = some plan ∧
      s.part.path.sheets.findSome? Sheet.index = some 0 ∧
      s.part.now - s.part.job.lastActivity < s.part.config.values.idleTimeout * 1000 := by
  decide +kernel

/-- Meets the hypotheses of SensorsMoveTheirSheetOrAreRecorded. -/
theorem test_witness_sensors :
    let s := at' (withSheets (job .running) [sheet .toFuse 0 21000, sheet .fed 1 21000])
    let t := at' (withSheets (job .running) [sheet .atReg 0 21000])
    s.part.AtRest ∧ s.part.path.jammed = false ∧
      s.part.path.sheets = [sheet .toFuse 0 21000] ++ sheet .fed 1 21000 :: [] ∧
      (∀ y ∈ [sheet .toFuse 0 21000], Sensor.reg.stage.rank < y.stage.rank) ∧
      (sheet .fed 1 21000).stage = Sensor.reg.stageBefore ∧ t.part.AtRest ∧
      t.part.path.sheets = [] ++ sheet .atReg 0 21000 :: [] ∧ (sheet .atReg 0 21000).stage = Sensor.reg.stage := by
  decide +kernel

/-- Meets the hypotheses of SensorsMoveTheirSheetOrAreRecorded. -/
theorem test_witness_path_records :
    let s := at' { withJob (job .jammed) with path := { jammed := true, regCovered := true, exitCovered := true } }
    s.part.AtRest ∧ s.part.path.jammed = true ∧ (s.part.path.cover .reg false).isClear = false ∧
      s.part.path.regCovered = true ∧ (at' idle).part.path.sheets = [] ∧ (at' idle).part.job.state ≠ .running ∧
      (∀ x, (at' idle).part.path.sheets[0]? = some x → (at' idle).part.now < x.deadline) ∧
      (let t := at' (withSheets (job .running) [sheet .atReg 0 20001])
       t.part.AtRest ∧ t.part.path.sheets[0]? = some (sheet .atReg 0 20001) ∧ t.part.now < (sheet .atReg 0 20001).deadline) := by
  refine ⟨?_, ?_, ?_, ?_, ?_, ?_, fun x h => absurd h (by simp [at', idle]), ?_⟩ <;> decide +kernel

/-- Meets the hypotheses of ClearPausesTheJob. -/
theorem test_witness_clears :
    let s := at' { withJob (job .jammed) with path := { jammed := true, exitCovered := true } }
    let path := s.part.path.cover .exit false
    s.part.AtRest ∧ s.part.path.jammed = true ∧ path.regCovered = false ∧ path.fuseCovered = false ∧
      path.exitCovered = false ∧ path.doorOpen = false ∧ s.part.job.drainMark = false ∧ s.part.job.consecutiveJams ≠ 3 ∧
      s.part.job.position ≠ s.part.job.positions ∧
      (let t := at' { idle with path := { jammed := true, doorOpen := true } }
       t.part.AtRest ∧ t.part.path.jammed = true ∧ t.part.job.state = .idle) := by
  decide +kernel

/-- Meets the hypotheses of ClearPausesTheJob: JAMMED jobs that settle at the clear, for each of its three reasons. -/
theorem test_witness_settling_clears :
    let s := fun (j : Job) => at' { withJob j with path := { jammed := true, exitCovered := true } }
    let limit := s { job .jammed with consecutiveJams := 3 }
    let drain := s { job .jammed with drainMark := true, endReason := some .panelEnd }
    let done := s { job .jammed with position := 12, assigned := 12 }
    limit.part.AtRest ∧ limit.part.job.funding = some .accountRemote ∧ limit.part.deferredSlot = some 0 ∧
      limit.part.store.queue.length < 8 ∧ limit.part.job.consecutiveJams = 3 ∧ drain.part.AtRest ∧
      drain.part.job.consecutiveJams ≠ 3 ∧ drain.part.job.endReason = some .panelEnd ∧ done.part.AtRest ∧
      done.part.job.drainMark = false ∧ done.part.job.position = done.part.job.positions := by
  decide +kernel

/-- Meets the hypotheses of DeliveryChargesTheSheet: a sheet of the job in each state, the last one of a complete plan, and an
unowned one. -/
theorem test_witness_deliveries :
    let s := fun (st : JobState) => at' (withSheets (job st) [sheet .atExit 0 21000, sheet .fed 1 21000])
    let last :=
      at' { withSheets { job .running with position := 11 } [sheet .atExit 11 21000] with
        job := { job .running with position := 11, assigned := 12, acc := { reserved := 8000 } } }
    let unowned : Sheet := { sheet .atExit 0 21000 with owner := none, index := none, reserve := 0 }
    let t := fun (p : Part) => at' { p with path := { sheets := [unowned] } }
    (∀ st ∈ [JobState.ready, .running, .paused, .draining], (s st).part.AtRest) ∧ (s .running).part.path.jammed = false ∧
      (s .running).part.store.queue = [] ∧ (s .running).part.path.sheets = sheet .atExit 0 21000 :: [sheet .fed 1 21000] ∧
      (s .running).part.config.values.idleTimeout ≠ 0 ∧ (sheet .atExit 0 21000).owner = some (s .running).part.job.number ∧
      ({ (s .running).part.job with acc := chargeSheet values (s .running).part.job.acc (sheet .atExit 0 21000) } : Job).headroom =
        true ∧ last.part.AtRest ∧ last.part.path.sheets = [sheet .atExit 11 21000] ∧
      ({ last.part.job with acc := chargeSheet values last.part.job.acc (sheet .atExit 11 21000) } : Job).headroom = true ∧
      (t idle).part.AtRest ∧ (t (withJob (job .paused))).part.AtRest ∧
      (t (withJob (job .paused))).part.now - (t (withJob (job .paused))).part.job.lastActivity <
        (t (withJob (job .paused))).part.config.values.idleTimeout * 1000 := by
  decide +kernel

/-- Records of an account card and of a value card. -/
def accountRecord : List Byte := withCheck (bytesOf 1 1 ++ bytesOf 3 40213 ++ bytesOf 1 12)
def valueRecord : List Byte := withCheck (bytesOf 1 2 ++ bytesOf 4 5 ++ bytesOf 3 100000 ++ bytesOf 1 3 ++ bytesOf 2 65535)

set_option maxRecDepth 4000 in
/-- Meets the hypotheses of CardRecordsAreValidatedInOrder, CardsAreRefusedOrOpenAValueJob and AccountCardAsksItsHome, at the edges
of the fields. -/
theorem test_witness_cards :
    byteSum [0x01] ≠ 0 ∧ byteSum [0x01, 0xFF] = 0 ∧ byteSum [0x03, 0xFD] = 0 ∧ fits 3 16777215 = true ∧ fits 1 30 = true ∧ fits 1 31 = true ∧ fits 4 4294967295 = true ∧
      fits 3 100000 = true ∧ fits 3 100001 = true ∧ fits 1 3 = true ∧ fits 1 4 = true ∧ fits 2 65535 = true ∧
      (at' idle).part.AtRest ∧ validateCard [0x01] = .error .cardCheck ∧ validateCard accountRecord = .ok (.account 40213 12) ∧
      (at' full).part.job.state ≠ .idle ∧
      validateCard valueRecord = .ok (.value { serial := 5, balance := 100000, cls := 3, count := 65535 }) ∧
      12 ≠ (at' idle).part.config.values.station ∧ (at' idle).part.job = {} ∧ 17 < (at' idle).part.freeSlots ∧
      (at' idle).part.deferredUsed + (at' idle).part.settlement.reserved < 16 ∧ (at' idle).part.store.queue = [] := by
  refine ⟨?_, ?_, ?_, ?_, ?_, ?_, ?_, ?_, ?_, ?_, ?_, ?_, ?_, rfl, rfl, ?_, rfl, ?_, ?_, ?_, ?_, ?_⟩ <;> decide +kernel

set_option maxRecDepth 4000 in
/-- Meets the hypotheses of AccountCardAsksItsHome for a card of this station: an account that is unknown, BLOCKED, short by a cent,
and covered. -/
theorem test_witness_local_ask :
    let s := fun (l : Ledger) => at' { idle with store := { stored := l } }
    let with' := fun (a : Account) => ({ accounts := [(191, .used a)] } : Ledger)
    validateCard (withCheck (bytesOf 1 1 ++ bytesOf 3 40213 ++ bytesOf 1 7)) = .ok (.account 40213 (s {}).part.config.values.station) ∧
      (s {}).part.AtRest ∧ findAccount ({} : Ledger) 40213 = none ∧ repeatOf ({} : Ledger) 7 40213 1 = none ∧
      (s (with' { account with blocked := true })).part.AtRest ∧
      findAccount (with' { account with spent := 1951 }) 40213 = some (191, { account with spent := 1951 }) ∧
      min (min values.holdStep (available { account with spent := 1951 } 0)) 100000 < values.minGrant ∧
      (s books).part.AtRest ∧ lowestFree books.holds 0 64 = some 0 ∧ 17 < (s books).part.freeSlots ∧
      values.minGrant ≤ min (min values.holdStep (available account 0)) 100000 := by
  refine ⟨rfl, ?_, ?_, ?_, ?_, ?_, ?_, ?_, ?_, ?_, ?_⟩ <;> decide +kernel

/-- Meets the hypotheses of CardOutReachesTheSession, by session. -/
theorem test_witness_card_out :
    0 < (at' full).part.card.returns ∧ (at' writing).part.card.returns = 0 ∧
      (let s := at' { withSheets { job .running with funding := some .value } [sheet .fed 0 21000] with
         card := { session := .held purse 318 } }
       s.part.AtRest ∧ s.part.card.returns = 0 ∧ s.part.card.session = .held purse 318 ∧ s.part.path.sheets ≠ []) ∧
      (at' { idle with card := { session := .gone purse 318 } }).part.AtRest := by
  decide +kernel

/-- Meets the hypotheses of TimersAskAgainKeepTheHoldOrGiveUp: the third attempt, a grant of exactly minGrant, and one cent less. -/
theorem test_witness_asks :
    let s := fun (attempts outstanding : Nat) =>
      let p := withJob { asking with askAttempts := attempts, askDue := some 20000 }
      at' { p with settlement := { p.settlement with floatOutstanding := outstanding } }
    (s 2 0).part.AtRest ∧ (s 2 0).part.job.home = some 12 ∧ (s 2 0).part.job.askDue = some 20000 ∧
      20000 ≤ (s 2 0).part.now ∧ (s 2 0).part.refusesFrame 12 = false ∧ (s 3 1950).part.AtRest ∧
      (s 3 1950).part.store.queue = [] ∧ values.minGrant ≤ min values.floatLimit (values.floatPool - 1950) ∧
      (s 3 1951).part.AtRest ∧ min values.floatLimit (values.floatPool - 1951) < values.minGrant := by
  decide +kernel

/-- Meets the hypotheses of TimersAskAgainKeepTheHoldOrGiveUp, timer by timer. -/
theorem test_witness_timers :
    let s := fun (attempts : Nat) =>
      at' (withSheets { job .running with topupOutstanding := true, topupAttempts := attempts, topupDue := some 20000 }
        [sheet .fed 0 21000])
    let k := at' (withJob { job .ready with keepDue := some 20000 })
    let c := at' { idle with
      settlement := { reserved := 1, cancelled := some { job := 1, home := 12, account := 3, due := some 20000, frame := none } } }
    (s 2).part.AtRest ∧ (s 2).part.refusesFrame 12 = false ∧ (s 3).part.AtRest ∧ (s 3).part.path.sheets ≠ [] ∧ k.part.AtRest ∧
      k.part.job.lifetime = some 300 ∧ k.part.job.keepDue = some 20000 ∧ c.part.AtRest ∧ 20000 ≤ c.part.now ∧
      c.part.settlement.cancelled = some { job := 1, home := 12, account := 3, due := some 20000, frame := none } := by
  decide +kernel

/-- Meets the hypotheses of HoldAnswersFundOrEndTheJob and LostHoldEndsTheJob. -/
theorem test_witness_answers :
    let s := at' (withJob asking)
    s.part.AtRest ∧ s.part.job.state = .authorize ∧ s.part.job.home = some 12 ∧ s.part.job.number = 318 ∧
      s.part.job.funding = some .accountRemote ∧ s.part.store.queue = [] ∧ (at' idle).part.job.state = .idle ∧
      (at' idle).part.settlement.cancelled = none ∧ s.part.job.home ≠ some 11 ∧
      (at' full).part.job.home = some 12 ∧ (at' full).part.job.holdId = some 905 ∧ (at' full).part.path.sheets ≠ [] := by
  decide +kernel

/-- Meets the hypotheses of LostHoldEndsTheJob for a JAMMED job on its jammed path, a DRAINING one, and one that settles. -/
theorem test_witness_lost_holds :
    let j := at' { withJob (job .jammed) with path := { jammed := true, exitCovered := true } }
    let d := at' (withSheets { job .draining with endReason := some .panelEnd } [sheet .fed 0 21000])
    j.part.AtRest ∧ j.part.InPlaces ∧ j.part.job.home = some 12 ∧ j.part.job.holdId = some 905 ∧ j.part.job.state = .jammed ∧
      d.part.AtRest ∧ d.part.job.home = some 12 ∧ d.part.job.holdId = some 905 ∧ d.part.job.state = .draining ∧
      (at' (withJob (job .settling))).part.AtRest := by
  decide +kernel

/-- A home station with every account slot and every hold slot of interest. -/
def asked (account : Nat) (a : Account) (l : Ledger) (wanted : Nat) : State :=
  at' (home { l with accounts := [(191, .used a)] } 0 (.holdAsk account 611 wanted))

/-- Meets the hypotheses of HoldAsksAreGrantedOrDenied: each answer, and the write-done. -/
theorem test_witness_hold_asks :
    (asked 40213 account {} 500).part.AtRest ∧ repeatOf (asked 40213 account {} 500).part.ledger 7 40213 611 = none ∧
      findAccount (asked 40213 account {} 500).part.ledger 40213 = some (191, account) ∧
      lowestFree (asked 40213 account {} 500).part.ledger.holds 0 64 = some 0 ∧
      (asked 40213 account {} 500).part.store.queue = [] ∧
      findAccount (asked 1 account {} 500).part.ledger 1 = none ∧ ({ account with blocked := true } : Account).blocked = true ∧
      min (min 49 (available account 0)) 100000 < values.minGrant ∧
      values.minGrant ≤ min (min 50 (available account 0)) 100000 ∧
      repeatOf (asked 40213 account { holds := [(63, hold 1205 7 611 500 5000 .active)] } 500).part.ledger 7 40213 611 =
        some (63, hold 1205 7 611 500 5000 .active) ∧
      (at' (posted (.hold 63 (some (hold 1205 12 611 500 5000 .active))) [.grant 12 63 1205 611])).part.AtRest := by
  decide +kernel

/-- All 64 hold slots in use: the records of slots 9 and 40 in a state, touched at 4,000, the others ACTIVE. -/
def fullTable (st : HoldState) : Table HoldRecord :=
  (List.range 64).map (fun i =>
    (i, { hold (100 + i) 4 i 50 (if i = 9 ∨ i = 40 then 4000 else 4990) (if i = 9 ∨ i = 40 then st else .active) with account := 1 }))

/-- Meets the hypotheses of HoldAsksAreGrantedOrDenied with the table full: nothing to evict, and two LAPSED records of equal age;
and a grant to the own job. -/
theorem test_witness_full_hold_table :
    let s := fun (st : HoldState) => asked 40213 account { holds := fullTable st } 500
    let own := at' { withJob { asking with funding := some .accountLocal, home := some 7, askDue := none } with
      store :=
        { stored := books
          queue := [{ write := .hold 63 (some (hold 1205 7 318 500 5000 .active)), notes := [.grant 7 63 1205 318] }] } }
    (s .active).part.AtRest ∧ repeatOf (s .active).part.ledger 7 40213 611 = none ∧
      lowestFree (s .active).part.ledger.holds 0 64 = none ∧ (∀ e ∈ (s .active).part.ledger.holds, e.2.state ≠ .lapsed) ∧
      (s .lapsed).part.AtRest ∧ tableGet (s .lapsed).part.ledger.holds 9 = some { hold 109 4 9 50 4000 .lapsed with account := 1 } ∧
      (∀ e ∈ (s .lapsed).part.ledger.holds, e.2.state = .lapsed → 4000 < e.2.touched ∨ (4000 = e.2.touched ∧ 9 ≤ e.1)) ∧
      (s .lapsed).part.Canonical ∧ Rising (s .lapsed).part.accounts.held ∧ 17 < (s .lapsed).part.freeSlots ∧ own.part.AtRest ∧
      own.part.job.state = .authorize ∧ own.part.job.home = some own.part.config.values.station := by
  decide +kernel

/-- A home station that holds 500 cents for job 611 of station 7 and takes a request. -/
def granted (a : Account) (touched : Nat) (m : Message) : Part :=
  home { accounts := [(191, .used a)], holds := [(63, hold 1205 7 611 500 touched .active)] } 500 m

/-- Meets the hypotheses of HoldsAreEnlargedKeptAndSwept: HOLD_MORE and HOLD_KEEP of an ACTIVE record. -/
theorem test_witness_more_and_keep :
    (at' (granted account 5000 (.holdMore 1205 611 50))).part.AtRest ∧
      ownHold (granted account 5000 (.holdMore 1205 611 50)).ledger 8 1205 611 = none ∧
      ownHold (granted account 5000 (.holdMore 1205 611 50)).ledger 7 1205 611 =
        some (63, hold 1205 7 611 500 5000 .active) ∧
      (granted account 5000 (.holdMore 1205 611 50)).isBlocked 40213 = false ∧
      values.minGrant ≤ min (min 50 ((granted account 5000 (.holdMore 1205 611 50)).availableOf 40213)) (100000 - 500) ∧
      tableGet (granted account 5000 (.holdMore 1205 611 50)).ledger.holds 63 = some (hold 1205 7 611 500 5000 .active) ∧
      500 ≤ (granted account 5000 (.holdMore 1205 611 50)).held 40213 ∧
      Rising (granted account 5000 (.holdMore 1205 611 50)).accounts.held ∧
      (granted { account with blocked := true } 5000 (.holdMore 1205 611 50)).isBlocked 40213 = true ∧
      (at' (granted account 5000 (.holdKeep 1205 611))).part.AtRest := by
  decide +kernel

/-- Meets the hypotheses of HoldsAreEnlargedKeptAndSwept: HOLD_KEEP of a SETTLING record, and of a LAPSED one whose account covers
it exactly, and does not. -/
theorem test_witness_keep_of_other_records :
    let p := fun (amount : Nat) (st : HoldState) =>
      home { books with holds := [(63, hold 1205 7 611 amount 5000 st)] } 200 (.holdKeep 1205 611)
    (at' (p 600 .settling)).part.AtRest ∧
      ownHold (p 600 .settling).ledger 7 1205 611 = some (63, hold 1205 7 611 600 5000 .settling) ∧
      (at' (p 600 .lapsed)).part.AtRest ∧ (p 600 .lapsed).availableOf 40213 = 600 ∧ (at' (p 601 .lapsed)).part.AtRest ∧
      (p 601 .lapsed).availableOf 40213 < 601 ∧ (p 600 .lapsed).store.queue = [] ∧ Rising (p 600 .lapsed).accounts.held := by
  decide +kernel

/-- Meets the hypotheses of HoldsAreEnlargedKeptAndSwept: HOLD_MORE of a SETTLING record, and of a LAPSED one whose account does not
cover it, or covers it and grants the increment. -/
theorem test_witness_more_of_other_records :
    let p := fun (a : Account) (st : HoldState) (increment : Nat) =>
      home { accounts := [(191, .used a)], holds := [(63, hold 1205 7 611 600 5000 st)] } 0 (.holdMore 1205 611 increment)
    (at' (p account .settling 50)).part.AtRest ∧
      ownHold (p account .settling 50).ledger 7 1205 611 = some (63, hold 1205 7 611 600 5000 .settling) ∧
      (at' (p account .lapsed 201)).part.AtRest ∧ (p account .lapsed 201).availableOf 40213 < 600 + 201 ∧
      (at' (p account .lapsed 200)).part.AtRest ∧ 600 + 200 ≤ (p account .lapsed 200).availableOf 40213 ∧
      (p account .lapsed 200).isBlocked 40213 = false ∧ values.minGrant ≤ min (min 200 (800 - 600)) (100000 - 600) := by
  decide +kernel

/-- Meets the hypotheses of HoldsAreEnlargedKeptAndSwept: HOLD_MORE of a LAPSED record that is restored and then denied. -/
theorem test_witness_more_denied :
    let p := fun (a : Account) (st : HoldState) (increment : Nat) =>
      home { accounts := [(191, .used a)], holds := [(63, hold 1205 7 611 600 5000 st)] } 0 (.holdMore 1205 611 increment)
    (at' (p { account with blocked := true } .lapsed 200)).part.AtRest ∧
      (p { account with blocked := true } .lapsed 200).isBlocked 40213 = true ∧ (at' (p account .lapsed 49)).part.AtRest ∧
      min (min 49 (800 - 600)) (100000 - 600) < values.minGrant ∧ Rising (p account .lapsed 49).accounts.held := by
  decide +kernel

/-- The same station, its sweep at the slot in use. -/
def visiting (touched due : Nat) : Part :=
  { granted account touched (.announce 0) with holds := { pointer := 63, due := some due } }

/-- Meets the hypotheses of HoldsAreEnlargedKeptAndSwept: the sweep at a lifetime exactly, and one second before. -/
theorem test_witness_sweep :
    (at' (visiting 4700 5000000)).part.AtRest ∧ (at' (visiting 4701 5000000)).part.AtRest ∧
      (at' (visiting 4701 5000001)).part.AtRest ∧ values.lifetime ≤ 5000000 / 1000 - 4700 ∧
      5000000 / 1000 - 4701 < values.lifetime ∧
      tableGet (visiting 4700 5000000).ledger.holds 63 = some (hold 1205 7 611 500 4700 .active) := by
  decide +kernel

/-- An account that is not in the books, and accounts that fill every slot of its run. -/
def crowded : Ledger :=
  { accounts := (List.range 16).map (fun i => (191 + i, .used { account with number := 1 + i })) }

/-- Meets the hypotheses of AcctPutKeepsTheAccounts and TopupsAndQueriesAreAnswered. -/
theorem test_witness_office :
    let s := fun (l : Ledger) (m : Message) => at' (home l 0 m)
    (s {} (.acctPut 40213 0 3 1 10000000)).part.AtRest ∧ findAccount ({} : Ledger) 40213 = none ∧
      insertionSlot ({} : Ledger) 40213 = some 191 ∧ findAccount crowded 40213 = none ∧ insertionSlot crowded 40213 = none ∧
      findAccount books 40213 = some (191, account) ∧ account.credit.isKind 1 = false ∧
      (s { accounts := [(191, .used { account with credit := .prepaid (-50) })] } (.acctTopup 40213 2147483647)).part.AtRest ∧
      findAccount ({ accounts := [(191, .used { account with credit := .prepaid (-50) })] } : Ledger) 40213 =
        some (191, { account with credit := .prepaid (-50) }) ∧
      (s books (.acctQuery 40213)).part.AtRest := by
  decide +kernel

/-- The books with a hold that names the account. -/
def named : Ledger := { books with holds := [(63, hold 1205 7 611 500 5000 .lapsed)] }

/-- Meets the hypotheses of AcctPutKeepsTheAccounts: closing an account that a hold names and one that none names, changing one of
the same kind. -/
theorem test_witness_closed_and_changed :
    (at' (home named 0 (.acctPut 40213 0 1 2 2000))).part.AtRest ∧ findAccount named 40213 = some (191, account) ∧
      named.holds.any (fun e => decide (e.2.account = 40213)) = true ∧
      (at' (home books 0 (.acctPut 40213 0 1 2 2000))).part.AtRest ∧
      books.holds.any (fun e => decide (e.2.account = 40213)) = false ∧
      (at' (home books 0 (.acctPut 40213 0 3 1 10000000))).part.AtRest ∧ account.credit.isKind 0 = true := by
  decide +kernel

/-- A home station whose vacating post waits behind a full queue. -/
def vacating (l : Ledger) (m : Message) : Part :=
  let p := home l 0 m
  { p with
    store :=
      { stored := l
        queue := (List.range 8).map (fun i => { write := .meter i 1, notes := [] })
        work := [{ owner := .account, tasks := [.vacate 191 40213 3], begun := true, since := some 19000 }] } }

/-- Meets the hypotheses of AcctPutKeepsTheAccounts at the post of an account that waits to be closed: named by a hold, and not. -/
theorem test_witness_waiting_close :
    ∀ l ∈ [books, named],
      let s := at' (vacating l (.announce 0))
      ({ s.part with store := { s.part.store with work := [] } } : Part).AtRest ∧ s.part.store.queue.tail.length = 7 ∧
        (∀ x ∈ s.part.store.queue.tail, x.write.name ≠ .account 191) ∧
        s.part.ledger.holds.any (fun e => decide (e.2.account = 40213)) = decide (l = named) ∧
        findAccount s.part.ledger 40213 = some (191, account) := by
  decide +kernel

/-- R101: an account whose closing post waits stays in the table when a hold comes to name it, and the office is answered IN_USE. -/
theorem test_waiting_close_meets_a_hold :
    let p := vacating books (.holdAsk 40213 611 500)
    let q := (after .writeComplete (after .holdAsk p).part).part
    (findAccount q.ledger 40213).isSome = true ∧ q.store.work.map Work.owner = [.hold] ∧
      q.line.outbound.map OutFrame.message = [.acctAnswer 40213 6 800 1200] ∧
      (findAccount (after .writeComplete (vacating books (.announce 0))).part.ledger 40213) = none := by
  decide +kernel

/-- Meets the hypotheses of AcctPutKeepsTheAccounts on the inbound frames: a queue of frames at the edges of their fields, and a
step. -/
theorem test_witness_inbound_widths :
    let p := home books 0 (.acctPut 16777215 1 3 3 4294967295)
    (∀ f ∈ p.line.inbound, f.message.inWidth = true) ∧ ∃ t, step { at' p with pending := [.acctPut] } = .next t :=
  ⟨by decide +kernel, _, rfl⟩

/-- Meets the hypotheses of TopupsAndQueriesAreAnswered: a top-up out of range, of an unknown account, and of a CHARGE account. -/
theorem test_witness_refused_topups :
    (at' (home books 0 (.acctTopup 40213 2147483648))).part.AtRest ∧ (at' (home {} 0 (.acctTopup 40213 1))).part.AtRest ∧
      findAccount {} 40213 = none ∧ (at' (home books 0 (.acctTopup 40213 1))).part.AtRest := by
  decide +kernel

/-- Five accounts that a close for period 42 carries, one that is closed for it already, and a vacated slot. -/
def ledgerOfSeven : Table AccountSlot :=
  [(0, .used account), (1, .vacated), (2, .used { account with number := 2 }), (3, .used { account with number := 3, closedPeriod := 42 }),
    (4, .used { account with number := 4, credit := .prepaid (-5), overdrawn := true }), (5, .used { account with number := 5 }),
    (511, .used { account with number := 6 })]

/-- Meets the hypotheses of PeriodClosesWalkTheTable: each clause on the frame, with no account, and with more than four to
carry. -/
theorem test_witness_closes :
    let s := fun (accounts : Table AccountSlot) (period : Period) (m : Message) =>
      at' (home { accounts := accounts, period := period } 0 m)
    (s ledgerOfSeven { current := 41 } (.periodClose 41)).part.AtRest ∧
      (s ledgerOfSeven { current := 41, walking := true } (.announce 42)).part.AtRest ∧
      (s [] { current := 41 } (.announce 42)).part.AtRest ∧
      (s ledgerOfSeven { current := 41 } (.periodClose 42)).part.AtRest ∧
      (s ledgerOfSeven { current := 41 } (.periodClose 42)).part.Canonical ∧
      (s ledgerOfSeven { current := 41 } (.periodClose 42)).part.accounts.queued = 0 ∧
      (s ledgerOfSeven { current := 41 } (.periodClose 42)).part.accounts.pendingClose = none ∧
      (ledgerOfSeven.filter (walkCarries 0 42)).length = 5 := by
  decide +kernel

/-- Meets the hypotheses of PeriodClosesWalkTheTable: the write-done of the walk's first slot write, with one left to carry,
and of its last write. -/
theorem test_witness_walk :
    let carried : AccountSlot := .used { account with closedPeriod := 42, lastSpent := 1200, spent := 0 }
    let s := fun (accounts : Table AccountSlot) (pointer queued : Nat) =>
      at' { idle with
        accounts := { pointer := pointer, queued := queued }
        store :=
          { stored := { accounts := accounts, period := { current := 42, walking := true } }
            queue := [{ write := .account 0 carried, notes := [.walk] }] } }
    (s ledgerOfSeven 6 4).part.AtRest ∧ (s ledgerOfSeven 6 4).part.ledger.period.walking = true ∧
      Rising (s ledgerOfSeven 6 4).part.ledger.accounts ∧
      ((s ledgerOfSeven 6 4).part.ledger.accounts.filter (walkCarries 6 42)).length = 1 ∧ (s [] 512 1).part.AtRest ∧
      (s [] 512 1).part.ledger.accounts.filter (walkCarries 512 42) = [] := by
  decide +kernel

/-- Meets the hypotheses of SettleIsDiscardedDuplicateOrApplied: the newest and the oldest number that counts. -/
theorem test_witness_settles :
    let s := at' (home { books with marks := [(7, 65530)] } 0 (.settle 0 40213 4 100000 6))
    s.part.AtRest ∧ s.part.settlement.stage = .free ∧ s.part.settlement.requests = [] ∧
      countGet s.part.ledger.marks 7 = 65530 ∧ (1 ≤ (4 + 65535 - 65530) % 65535 ∧ (4 + 65535 - 65530) % 65535 ≤ 32767) ∧
      ¬(1 ≤ (65530 + 65535 - 65530) % 65535) ∧ (findAccount s.part.ledger 40213).isSome = true ∧ s.part.store.queue = [] ∧
      ownHold s.part.ledger 7 1205 4 = none := by
  decide +kernel

/-- Meets the hypotheses of SettleIsDiscardedDuplicateOrApplied: a settlement of an ACTIVE hold, with its account and without, and a
float settlement of no account. -/
theorem test_witness_hold_settles :
    let p := fun (accounts : Table AccountSlot) (holdId : Nat) =>
      home { accounts := accounts, holds := [(63, hold 1205 7 611 500 5000 .active)] } 500 (.settle holdId 40213 611 100 6)
    (at' (p books.accounts 1205)).part.AtRest ∧
      ownHold (p books.accounts 1205).ledger 7 1205 611 = some (63, hold 1205 7 611 500 5000 .active) ∧
      tableGet (p books.accounts 1205).ledger.holds 63 = some (hold 1205 7 611 500 5000 .active) ∧
      Rising (p books.accounts 1205).accounts.held ∧ (findAccount (p books.accounts 1205).ledger 40213).isSome = true ∧
      (at' (p [] 1205)).part.AtRest ∧ findAccount (p [] 1205).ledger 40213 = none ∧ 17 < (p [] 1205).freeSlots ∧
      (at' (p [] 1205)).part.Canonical ∧ (at' (p [] 0)).part.AtRest ∧ countGet (p [] 0).ledger.marks 7 = 0 := by
  decide +kernel

/-- A float settlement being applied. -/
def applying : Settlement :=
  { source := 7, holdId := 0, account := 40213, job := 4, charge := 801, impressions := 6, requester := .remote }

/-- A home station in a stage of the apply procedure, with one post queued. -/
def inStage (st : ApplyStage) (post : Post) : State :=
  at' { idle with
    config := { good with values := { values with station := 12 } }
    store := { stored := books, queue := [post] }
    settlement := { stage := st, current := some applying, sequence := 9 } }

/-- Meets the hypotheses of ApplyFollowsItsWriteDones, stage by stage. -/
theorem test_witness_applies :
    (inStage .recording { write := .apply none, notes := [.applyRecorded] }).part.AtRest ∧
      findAccount (inStage .recording { write := .apply none, notes := [.applyRecorded] }).part.store.stored 40213 =
        some (191, account) ∧
      (inStage .debiting { write := .account 191 (.used account), notes := [.debited] }).part.AtRest ∧
      (inStage .closing { write := .apply none, notes := [.applyClosed .applied] }).part.AtRest ∧
      (inStage .closing { write := .apply none, notes := [.applyClosed .applied] }).part.settlement.current = some applying ∧
      available account 0 < applying.charge := by
  decide +kernel

/-- A home station at the write-done of its apply record, with a change of the account's slot behind it. -/
def recordingBeforePut : Part :=
  let p := (inStage .recording { write := .apply none, notes := [.applyRecorded] }).part
  { p with
    store :=
      { p.store with
        queue := p.store.queue ++ [{ write := .account 191 (.used { account with cls := 2 }), notes := [.answer 12 40213 .ok] }] } }

/-- Meets the hypotheses of ApplyFollowsItsWriteDones on the debit that finds a waiting post of the account's slot. -/
theorem test_witness_debit_coalesces :
    (at' recordingBeforePut).part.AtRest ∧
      findAccount recordingBeforePut.ledger 40213 = some (191, { account with cls := 2 }) := by
  decide +kernel

/-- R161, R162: a post made at a write-done joins the next post of its record, which is programmed after the write-done. -/
theorem test_post_at_a_write_done_coalesces :
    let q := (after .writeComplete recordingBeforePut).part
    q.store.queue.map Post.notes = [[.answer 12 40213 .ok, .debited]] ∧
      q.store.newest.accounts = [(191, .used { account with cls := 2, spent := 2001, impressions := 6, lastApply := 9, overdrawn := true })] ∧
      q.store.starting = false := by
  decide +kernel

/-- The settlement of a hold of job 318 of station 7, at a station with that hold in slot 63 and that job settling. -/
def applyingHold (requester : Requester) (post : Post) : State :=
  at' { withJob { job .settling with funding := some .accountLocal, home := some 7, charge := some 50 } with
    store := { stored := { books with holds := [(63, hold 905 7 318 500 5000 .settling)] }, queue := [post] }
    settlement :=
      { stage := .closing, sequence := 9
        current :=
          some { source := 7, holdId := 905, account := 40213, job := 318, charge := 50, impressions := 6, requester := requester } } }

/-- Meets the hypotheses of ApplyFollowsItsWriteDones for the settlement of a hold: the hold found and gone, and the end of the own
job's. -/
theorem test_witness_applies_hold :
    (applyingHold .remote { write := .account 191 (.used account), notes := [.debited] }).part.AtRest ∧
      findHold (applyingHold .remote { write := .account 191 (.used account), notes := [.debited] }).part.ledger 905 =
        some (63, hold 905 7 318 500 5000 .settling) ∧
      (inStage .debiting { write := .account 191 (.used account), notes := [.debited] }).part.AtRest ∧
      findHold (inStage .debiting { write := .account 191 (.used account), notes := [.debited] }).part.ledger 905 = none ∧
      (applyingHold .job { write := .apply none, notes := [.applyClosed .applied] }).part.AtRest ∧
      (applyingHold .job { write := .apply none, notes := [.applyClosed .applied] }).part.job.state = .settling ∧
      0 < (applyingHold .job { write := .apply none, notes := [.applyClosed .applied] }).part.journal.reserved := by
  decide +kernel

/-- Meets the hypotheses of ApplyFollowsItsWriteDones: the end of a job funded by a hold of its own station. -/
theorem test_witness_local_end :
    let s := at' { withJob { job .running with funding := some .accountLocal, home := some 7 } with
      store := { stored := { books with holds := [(63, hold 905 7 318 500 5000 .active)] } }, accounts := { held := [(40213, 500)] } }
    s.part.AtRest ∧ s.part.config.outcome ≠ .bad ∧ s.part.panel.response = none ∧ s.part.path.sheets = [] ∧
      s.part.job.funding = some .accountLocal ∧ s.part.job.state = .running ∧ s.part.settlement.stage = .free ∧
      s.part.settlement.requests = [] ∧ s.part.line.inbound = [] ∧ s.part.store.queue = [] ∧ s.part.job.holdId = some 905 ∧
      ownHold s.part.ledger s.part.config.values.station 905 s.part.job.number = some (63, hold 905 7 318 500 5000 .active) ∧
      tableGet s.part.ledger.holds 63 = some (hold 905 7 318 500 5000 .active) ∧
      (findAccount s.part.ledger 40213).isSome = true ∧ Rising s.part.accounts.held := by
  decide +kernel

/-- A deferred entry, and a station that is sending it. -/
def entry : DeferredEntry :=
  { number := 3, home := 12, holdId := 905, account := 40213, job := 318, charge := 50, impressions := 6, attempts := 65535 }
def sending (f : Flight) (inbound : List InFrame) : State :=
  at' { idle with
    store := { stored := { deferred := [(15, entry)] } }, settlement := { flights := [f] }, line := { inbound := inbound } }

/-- Meets the hypotheses of DeferredEntriesAreSentUntilAcknowledged, timer by timer, with an acknowledgement that matches and one
that does not. -/
theorem test_witness_deferred :
    let f : Flight := { home := 12, number := 3, slow := false, sends := 2, due := 20000 }
    let g : Flight := { f with slow := true, sends := 3 }
    let ack := fun (job : Nat) => ({ source := 12, dest := 7, message := .settleAck 905 job 1 } : InFrame)
    (sending f []).part.AtRest ∧ (sending f []).part.flightFor 12 = some f ∧ 12 ≠ (sending f []).part.config.values.station ∧
      findEntry (sending f []).part.ledger f.number = some (15, entry) ∧ (sending f []).part.Canonical ∧
      (sending f []).part.store.queue = [] ∧ (sending { f with sends := 3 } []).part.AtRest ∧ (sending g []).part.AtRest ∧
      (sending f [ack 317]).part.AtRest ∧ (sending f [ack 317]).part.line.inbound = [] ++ ack 317 :: [] ∧
      (sending f [ack 318]).part.AtRest ∧
      (∀ x ∈ (sending f [ack 318]).part.ledger.deferred, x.2.home = 12 → x = (15, entry)) ∧
      (sending { f with home := 11 } [ack 318]).part.AtRest ∧ (sending { f with home := 11 } [ack 318]).part.flightFor 12 = none := by
  refine ⟨?_, ?_, ?_, ?_, ?_, ?_, ?_, ?_, ?_, ?_, ?_, ?_, ?_, ?_⟩ <;> decide +kernel

/-- A station with its line in a state. -/
def lined (l : Line) : Part := { idle with line := l }

/-- A line that is sending a frame for the 16th time. -/
def lastTry : Line :=
  { score := 87, sending := some 0, outbound := [{ ticket := 0, dest := 12, message := .holdKeep 1 2, attempts := 15 }] }

/-- Meets the hypotheses of RestsStartSendsOrAreCounted, by line state. -/
theorem test_witness_rests :
    (at' (lined { score := 96 })).part.AtRest ∧ (at' (lined { state := .withdrawn, rests := 62 })).part.AtRest ∧
      (at' (lined { state := .withdrawn, rests := 63 })).part.AtRest ∧ (at' (lined { state := .silent })).part.AtRest := by
  decide +kernel

/-- Meets the hypotheses of SendsAreAnsweredOrCounted. -/
theorem test_witness_sends :
    (at' (lined lastTry)).part.AtRest ∧
      (lined lastTry).line.outbound.any (fun f => decide (f.ticket = 0) && decide (15 ≤ f.attempts)) = true ∧
      (lined lastTry).job.state ≠ .authorize ∧ (at' (lined { lastTry with score := 96 })).part.AtRest ∧
      (at' (lined { lastTry with score := 183, outbound := [] })).part.AtRest := by
  decide +kernel

/-- Meets the hypotheses of SendsAreAnsweredOrCounted on the withdrawal: a send and a bad transmission that take the score to
192. -/
theorem test_witness_withdrawals :
    let s :=
      at' (lined
        { state := .guarded
          score := 184
          sending := some 0
          outbound := [{ ticket := 0, dest := 12, message := .holdKeep 1 2, attempts := 14 }] })
    s.part.AtRest ∧ s.part.line.state = .guarded ∧ s.part.job.state ≠ .authorize ∧ s.part.job.topupOutstanding = false ∧
      s.part.settlement.cancelled = none ∧ (at' (lined { state := .guarded, score := 191 })).part.AtRest ∧ judge [] = .bad := by
  decide +kernel

/-- A station whose outbound queue holds the frames of an ask, of a top-up or of none, and of a cancelled ask. -/
def owing (j : Job) (l : Line) : Part :=
  { withJob j with
    settlement := { reserved := 2, cancelled := some { job := 317, home := 9, account := 1, due := none, frame := some 2 } }
    line :=
      { l with
        outbound :=
          [{ ticket := 0, dest := 12, message := .holdKeep 1 2, attempts := 15 }, { ticket := 2, dest := 9, message := .holdAsk 1 317 500 },
            { ticket := 1, dest := 12, message := .holdAsk 40213 318 500 }]
        nextTicket := 3 } }

/-- Meets the hypotheses of SendsAreAnsweredOrCounted on the withdrawal, and of TransmissionsAreJudgedAndTaken on a clash, with frames whose
owners are told: an ask before its third attempt, a top-up, and neither. -/
theorem test_witness_owners_told :
    let jobs :=
      [{ asking with askAttempts := 2, askFrame := some 1 }, { job .running with topupOutstanding := true, topupAttempts := 2, topupFrame := some 1 },
        {}]
    ∀ j ∈ jobs, ∀ l ∈ [({ state := .guarded, score := 184, sending := some 0 } : Line), { state := .guarded, score := 191 },
        { state := .guarded, score := 192 }, { sending := some 0 }, {}],
      (at' (owing j l)).part.AtRest ∧ (at' (owing j l)).part.AttemptsLeft := by
  decide +kernel

/-- R151, R24, R26: a withdrawal tells the asking job, whose third attempt is refused and left to its timer, and ends the cancelled ask. -/
theorem test_withdrawal_tells_the_owners :
    let p := owing { asking with askAttempts := 2, askFrame := some 1 } { state := .guarded, score := 184, sending := some 0 }
    let q := (after (.sendResult false) p).part
    q.line.state = .withdrawn ∧ q.line.outbound = [] ∧ q.job.askAttempts = 3 ∧ q.job.askDue = some 20400 ∧ q.job.state = .authorize ∧
      q.settlement.cancelled = none ∧ q.settlement.reserved = 1 := by
  decide +kernel

/-- Meets the hypotheses of TransmissionsAreJudgedAndTaken on the answers that are acted on at once, in ACTIVE and in GUARDED; and on a
mismatch that ends a send, at its 15th and its 16th attempt. -/
theorem test_witness_answers_and_mismatches :
    (∀ l ∈ [({ score := 96 } : Line), { state := .guarded, score := 97 }, { state := .guarded, score := 192 }],
        (at' { withJob asking with line := l }).part.AtRest ∧ (at' { withJob asking with line := l }).part.flightFor 12 = none) ∧
      (∀ m ∈ [Message.holdGive 905 318 500 1 60, .holdDeny 318 4, .holdGone 905 318, .acctAnswer 40213 1 0 0, .tally 1 2 3 4 5],
        judge (frameBytes 12 7 m) = .good 12 7 (some m) ∧ (answerCommand 12 m).isSome = true) ∧
      (∀ attempts ∈ [14, 15], ∀ l ∈ [({ score := 86 } : Line), { state := .guarded, score := 96 }, { state := .guarded, score := 182 }],
        (at' (lined { l with
          sending := some 0, outbound := [{ ticket := 0, dest := 12, message := .holdKeep 1 2, attempts := attempts }] })).part.AtRest) ∧
      judge [] = .bad := by
  decide +kernel

/-- R144, R147, R149: a mismatch in a bad transmission counts as a bad frame and as a send without an answer. -/
theorem test_mismatch_counts_the_send :
    let p := lined { score := 5, sending := some 0, outbound := [{ ticket := 0, dest := 12, message := .holdKeep 1 2, attempts := 3 }] }
    let q := (after (.frameReceived []) p).part
    q.line.score = 14 ∧ q.line.outbound.map OutFrame.attempts = [4] ∧ q.outputs.line = [] := by
  decide +kernel

/-- Meets the hypotheses of TransmissionsAreJudgedAndTaken: every kind of transmission. -/
theorem test_witness_transmissions :
    let s := fun (inbound : Nat) =>
      at' { idle with line := { score := 94, inbound := List.replicate inbound { source := 12, dest := 7, message := .announce 0 } } }
    (s 7).part.AtRest ∧ (s 8).part.AtRest ∧ (s 7).part.flightFor 12 = none ∧ judge [0x00] = .bad ∧
      judge (frameBytes 12 7 (.holdAsk 1 2 3)) = .good 12 7 (some (.holdAsk 1 2 3)) ∧
      judge (frameBytes 12 8 (.holdAsk 1 2 3)) = .good 12 8 (some (.holdAsk 1 2 3)) ∧
      judge (frameBytes 7 0 (.announce 3)) = .good 7 0 (some (.announce 3)) ∧ (s 7).part.line.outbound = [] := by
  decide +kernel

/-! ### States that meet the sums, the store's waits, and the later clauses -/

/-- A home station whose account has one ACTIVE hold, beside a RUNNING job with two sheets in the path and an entry in the list. -/
def summed : Part :=
  { withSheets (job .running) [sheet .toFuse 0 21000, sheet .fed 1 21000] with
    accounts := { held := [(40213, 500)] }
    store :=
      { stored :=
          { books with
            holds := [(63, hold 1205 7 611 500 5000 .active)]
            deferred :=
              [(15, { number := 3, home := 12, holdId := 905, account := 1, job := 4, charge := 50, impressions := 6, attempts := 0 })] }
        pending := [.meter 3 7] } }

/-- Meets the hypotheses of HeldAmountsAreTheActiveHolds, JobStaysWithinItsHoldAndPlan and DeferredSlotsStayWithinTheirPlaces, from one
state, and from an IDLE one with an unowned sheet. -/
theorem test_witness_sums :
    (at' summed).part.Canonical ∧ (at' summed).part.InPlaces ∧ (at' summed).part.phase = .serving ∧ (at' summed).part.HeldSums ∧
      (at' summed).part.JobSums ∧ (at' summed).part.DeferredSums ∧ (at' summed).part.job.state ≠ .idle ∧
      (∃ t, step { at' summed with pending := [.sensorOff 1] } = .next t) ∧ (after (.sensorOff 1) summed).part.phase = .serving ∧
      (let u := at' { idle with path := { sheets := [{ sheet .fed 0 21000 with owner := none, index := none, reserve := 0 }] } }
       u.part.InPlaces ∧ u.part.JobSums ∧ u.part.job.state = .idle ∧
         ∀ x ∈ u.part.path.sheets, x.owner ≠ some (nextJobNumber u.part.ledger.jobNumber)) := by
  refine ⟨by decide +kernel, by decide +kernel, by decide +kernel, ⟨by decide +kernel, by decide +kernel, fun n => ?_⟩, ?_, ?_,
    by decide +kernel, ⟨_, rfl⟩, by decide +kernel, by decide +kernel, trivial, by decide +kernel, by decide +kernel⟩
  · show countGet [(40213, 500)] n = activeHolds (at' summed).part.ledger n
    by_cases h : 40213 = n
    · subst h; decide +kernel
    · have hs : (at' summed).part.ledger.holds = [(63, hold 1205 7 611 500 5000 .active)] := by decide +kernel
      simp [activeHolds, hs, countGet, tableGet, hold, h]
  · show Part.JobWithin _
    decide +kernel
  · show Part.PendingRuns _ ∧ _
    decide +kernel

/-- A post of a meter. -/
def meterPost (i : Nat) : Post := { write := .meter i 1, notes := [] }

/-- Meets the hypotheses of PostsCoalesceWaitOrArePending on one operation: a post of its record waiting, none waiting, a waiting value of the
checkpoint, a full queue, and a pending value of the record. -/
theorem test_witness_posts :
    let q : Store := { queue := meterPost 0 :: ([meterPost 1] ++ meterPost 2 :: [meterPost 3]) }
    let f : Store := { queue := (List.range 8).map meterPost, pending := [.meter 8 1] ++ .meter 9 1 :: [.counter .jobNumber 4] }
    (meterPost 2).write.name = (Write.meter 2 9).name ∧ (∀ x ∈ [meterPost 1], x.write.name ≠ (Write.meter 2 9).name) ∧
      (∀ x ∈ q.queue.tail, x.write.name ≠ (Write.meter 0 9).name) ∧ q.pending = [] ∧ q.queue.length ≤ 8 ∧
      8 ≤ f.queue.length ∧ (∀ x ∈ f.queue.tail, x.write.name ≠ (Write.meter 0 9).name) ∧
      (∀ v ∈ f.pending, v.name ≠ (Write.meter 0 9).name) ∧ (∀ x ∈ f.queue.tail, x.write.name ≠ (Write.meter 9 2).name) ∧
      (Write.meter 9 1).name = (Write.meter 9 2).name ∧ ∀ v ∈ [Write.meter 8 1], v.name ≠ (Write.meter 9 2).name := by
  decide +kernel

/-- Meets the hypotheses of PostsCoalesceWaitOrArePending while the write-dones are sent: the oldest post is of the record, or none is. -/
theorem test_witness_posts_at_a_write_done :
    let q : Store := { queue := [meterPost 0, meterPost 1], starting := true }
    q.queue = [] ++ ([] ++ meterPost 0 :: [meterPost 1]) ∧ q.starting = true ∧ (meterPost 0).write.name = (Write.meter 0 9).name ∧
      ∀ x ∈ if q.starting then q.queue else q.queue.tail, x.write.name ≠ (Write.meter 2 9).name := by
  decide +kernel

/-- Two owners that wait, and a station where they do so on a full queue. -/
def waitsForAccount : Work :=
  { owner := .account, tasks := [.putAccount 191 (.used account) [.answer 12 40213 .ok]], begun := true, since := some 19000 }
def waitsForMark : Work := { owner := .settlement, tasks := [.putMark 7 4 []], begun := true, since := some 19500 }
def crammed (pending : List Write) (work : List Work) : Part :=
  { idle with store := { queue := (List.range 8).map meterPost, pending := pending, work := work } }

/-- Meets the hypotheses of PostsCoalesceWaitOrArePending on a freed place, with a pending value and in both orders of the waits; and a
HOLD_KEEP that meets a full queue. -/
theorem test_witness_waits :
    let p := crammed [.meter 9 1, .counter .jobNumber 4] [waitsForAccount, waitsForMark]
    let k : Part := { granted account 5000 (.holdKeep 1205 611) with
      store := { (granted account 5000 (.holdKeep 1205 611)).store with queue := (List.range 8).map meterPost } }
    (at' { p with store := { p.store with pending := [], work := [] } }).part.AtRest ∧
      p.store.queue = meterPost 0 :: ((List.range 8).map meterPost).tail ∧ ((List.range 8).map meterPost).tail.length = 7 ∧
      (∀ z ∈ ((List.range 8).map meterPost).tail, z.write.name ≠ .account 191 ∧ z.write.name ≠ .mark 7) ∧
      (Write.meter 9 1).isRunning = true ∧ (crammed [] [waitsForMark, waitsForAccount]).store.pending = [] ∧
      (at' k).part.AtRest ∧ (at' k).part.store.queue.length = 8 ∧
      ownHold (at' k).part.ledger 7 1205 611 = some (63, hold 1205 7 611 500 5000 .active) := by
  decide +kernel

/-- Meets the hypotheses of ResetPinDrainsThenStartsUp at the drain's last post, with the pin asserted and released, for both drains; and of
ResponsesAreReadAndResetWaits with no post left. -/
theorem test_witness_end_of_drain :
    let p := fun (load pin : Bool) => ({ posted (.meter 25 1) [] with phase := .draining load, resetPin := pin } : Part)
    (∀ load ∈ [true, false], ∀ pin ∈ [true, false],
        (p load pin).phase = .draining load ∧ (p load pin).store.queue = [{ write := .meter 25 1, notes := [] }] ∧
          (p load pin).store.pending = [] ∧ (p load pin).store.work = [] ∧ (p load pin).resetPin = pin ∧
          (p load pin).AlertDecided) ∧
      (let s := at' { idle with panel := { resetWaits := true } }
       s.part.AtRest ∧ s.part.panel.resetWaits = true ∧ s.part.store.queue = [] ∧ s.part.resetPin = false) := by
  decide +kernel

/-- Meets the hypotheses of PermittedFeedTakesItsReserve when the feed takes the last headroom: of a remote, a local, a VALUE job and one at
100,000; with a top-up outstanding; and of a sixth sheet. -/
theorem test_witness_last_headroom :
    let s := fun (j : Job) (n : Nat) =>
      let p := withSheets j (List.replicate n (sheet .fed 0 21000))
      at' { p with job := { p.job with limit := some (8 * n + 8), acc := { reserved := 8000 * n } } }
    let short := fun (t : State) =>
      let j := t.part.job
      let reserve := min (fullReserve values 0 .mono false) (1000 * j.amount - j.acc.gross - j.acc.reserved)
      j.assigned + 1 < j.positions ∧ 1000 * j.amount < j.acc.gross + (j.acc.reserved + reserve) + j.planReserve
    let own := { s { job .running with funding := some .accountLocal, home := some 7 } 1 with
      part := { (s { job .running with funding := some .accountLocal, home := some 7 } 1).part with
        store := { stored := { books with holds := [(63, hold 905 7 318 16 5000 .active)] } }, accounts := { held := [(40213, 16)] } } }
    (∀ t ∈ [s (job .running) 1, s { job .running with funding := some .value } 1, own,
          s { job .running with topupOutstanding := true } 1, s (job .running) 5],
        t.part.AtRest ∧ t.part.permit = true ∧ t.part.path.doorOpen = false ∧ short t) ∧
      (s (job .running) 5).part.path.sheets.length + 1 = 6 ∧ (s (job .running) 1).part.job.amount < 100000 ∧
      ownHold own.part.ledger own.part.config.values.station 905 318 = some (63, hold 905 7 318 16 5000 .active) ∧
      tableGet own.part.ledger.holds 63 = some (hold 905 7 318 16 5000 .active) ∧ own.part.isBlocked 40213 = false ∧
      values.minGrant ≤ min (min (min values.holdStep (100000 - 16)) (own.part.availableOf 40213)) (100000 - 16) ∧
      16 ≤ own.part.held 40213 ∧ Rising own.part.accounts.held ∧
      (let t := at' { withJob { job .running with limit := some 100000, acc := { gross := 99992000 } } with path := {} }
       t.part.AtRest ∧ t.part.permit = true ∧ 100000 ≤ t.part.job.amount ∧ short t) := by
  decide +kernel

/-- Meets the hypotheses of JamSpoilsTheJobsSheets for a RUNNING and a DRAINING job whose idle time has passed, and a PAUSED one on an empty
path. -/
theorem test_witness_late_jams :
    let s := fun (st : JobState) => at' { withSheets { job st with lastActivity := 0 } [sheet .atExit 0 90000] with now := 90000 }
    (∀ st ∈ [JobState.running, .draining], (s st).part.AtRest ∧ (s st).part.path.jammed = false ∧ (s st).part.Canonical ∧
        (s st).part.path.sheets ≠ [] ∧
        ((s st).part.path.sheets[0]?).any (fun x => decide (x.deadline ≤ (s st).part.now)) = true) ∧
      (let p := at' { withJob { job .paused with lastActivity := 0 } with now := 90000 }
       p.part.AtRest ∧ p.part.path.sheets = [] ∧ (∀ x ∈ p.part.path.sheets, x.stage ≠ Sensor.exit.stage)) := by
  decide +kernel

/-- Meets the hypotheses of CardOutReachesTheSession with the card held: a JAMMED job, a DRAINING one, and each that settles at once. -/
theorem test_witness_card_gone :
    let v := fun (st : JobState) => { job st with funding := some .value, acc := { gross := 8000, delivered := 1 } }
    let s := fun (p : Part) => at' { p with card := { session := .held purse 318 } }
    (s { withJob (v .jammed) with path := { jammed := true } }).part.AtRest ∧
      (s (withSheets (v .draining) [sheet .fed 0 21000])).part.AtRest ∧
      ∀ st ∈ [JobState.ready, .running, .paused],
        let t := s (withJob (v st))
        t.part.AtRest ∧ t.part.card.returns = 0 ∧ t.part.card.session = .held purse 318 ∧ t.part.path.sheets = [] ∧
          t.part.job.funding = some .value ∧ t.part.store.queue = [] ∧ 0 < t.part.journal.reserved := by
  decide +kernel

/-- Meets the hypotheses of HoldAnswersFundOrEndTheJob for a funded job: a top-up answered in each state, with the run-out wait still to
start, and a FLOAT job that adopts and one that does not. -/
theorem test_witness_topups :
    let s := fun (st : JobState) =>
      let p := withSheets { job st with topupOutstanding := true, endReason := some .funds } [sheet .fed 0 21000]
      at' (if st = .jammed then { p with path := { jammed := true } } else p)
    let spent := at' (withJob { job .running with topupOutstanding := true, exhausted := some .funds })
    let float := fun (gross : Nat) =>
      at' (withJob { job .ready with funding := some .float, holdId := none, limit := some 800, acc := { gross := gross } })
    (∀ st ∈ [JobState.ready, .running, .jammed, .paused, .draining], (s st).part.AtRest ∧ (s st).part.job.home = some 12 ∧
        (s st).part.job.number = 318 ∧ (s st).part.job.holdId = some 905 ∧ (s st).part.store.queue = []) ∧
      ({ (s .running).part.job with limit := some 600 } : Job).headroom = true ∧ spent.part.AtRest ∧
      spent.part.job.exhausted.isSome = true ∧ spent.part.path.sheets = [] ∧ (float 500000).part.AtRest ∧
      500000 + 0 ≤ 1000 * min 500 100000 ∧ (float 500001).part.AtRest ∧ ¬(500001 + 0 ≤ 1000 * min 500 100000) := by
  decide +kernel

/-- An ask that was cancelled, at a remote home and at this station. -/
def cancelledAsk (home : Nat) (due : Option Nat) : CancelledAsk :=
  { job := 318, home := home, account := 40213, due := due, frame := none }

/-- Meets the hypotheses of HoldAnswersFundOrEndTheJob for a cancelled ask, its home remote and this station; and of ApplyFollowsItsWriteDones
at the end of its settlement. -/
theorem test_witness_cancelled_asks :
    let s := at' { idle with settlement := { reserved := 1, cancelled := some (cancelledAsk 12 (some 20400)) } }
    let own := at' { idle with
      settlement := { reserved := 1, cancelled := some (cancelledAsk 7 none) }, accounts := { held := [(40213, 500)] }
      store :=
        { stored := books
          queue := [{ write := .hold 63 (some (hold 1205 7 318 500 20 .active)), notes := [.grant 7 63 1205 318] }] } }
    let stored := program books (.hold 63 (some (hold 1205 7 318 500 20 .active)))
    let closed := fun (p : Part) =>
      at' { p with settlement := { p.settlement with reserved := 1, cancelled := some (cancelledAsk 7 none) } }
    s.part.AtRest ∧ s.part.job.state = .idle ∧ s.part.deferredSlot = some 0 ∧ s.part.store.queue.length < 8 ∧ own.part.AtRest ∧
      own.part.settlement.stage = .free ∧ own.part.settlement.requests = [] ∧ own.part.line.inbound = [] ∧
      ownHold stored own.part.config.values.station 1205 318 = some (63, hold 1205 7 318 500 20 .active) ∧
      tableGet stored.holds 63 = some (hold 1205 7 318 500 20 .active) ∧ (findAccount stored 40213).isSome = true ∧
      Rising own.part.accounts.held ∧
      (closed (applyingHold (.cancelledAsk 318) { write := .apply none, notes := [.applyClosed .applied] }).part).part.AtRest ∧
      (closed (applyingHold (.cancelledAsk 318) { write := .apply none, notes := [.applyClosed .applied] }).part).part.settlement.requests =
        [] := by
  decide +kernel

/-- A home station with job 611's hold, asked for it again, and with the posts of `queue`. -/
def askedAgain (queue : List Post) : Part :=
  let p := granted account 4990 (.holdAsk 40213 611 500)
  { p with store := { p.store with queue := queue } }

/-- Meets the hypotheses of HoldAsksAreGrantedOrDenied for a repeat, with a write of its record queued and with none. -/
theorem test_witness_repeats :
    let r := hold 1205 7 611 500 4990 .active
    ∀ queue ∈ [[meterPost 0], [{ write := .hold 63 (some r), notes := [] }, meterPost 0]],
      (at' (askedAgain queue)).part.AtRest ∧ repeatOf (askedAgain queue).ledger 7 40213 611 = some (63, r) ∧
        tableGet (askedAgain queue).ledger.holds 63 = some r ∧ (askedAgain queue).store.queue.length < 8 ∧
        r.amount ≤ (askedAgain queue).held 40213 ∧ Rising (askedAgain queue).accounts.held := by
  decide +kernel

/-- R89: a repeat with no write of its record queued is answered at once; with one queued, at its own write-done. -/
theorem test_repeat_is_answered_at_once :
    let sent := fun (s : State) => s.part.line.outbound.map OutFrame.message
    sent (after .holdAsk (askedAgain [])) = [.holdGive 1205 611 500 1 300] ∧
      sent (after .holdAsk (askedAgain [{ write := .hold 63 (some (hold 1205 7 611 500 4990 .active)), notes := [] }])) = [] := by
  decide +kernel

/-- R132, R164: while the removal of an acknowledged entry waits for a place, a local settlement waits too, and marks no hold. -/
theorem test_local_settlement_waits_behind_a_removal :
    let p := withJob { job .running with funding := some .accountLocal, home := some 7 }
    let t := after .endJob { p with
      store :=
        { stored :=
            { books with
              holds := [(63, hold 905 7 318 500 20 .active)]
              deferred := [(15, { number := 3, home := 12, holdId := 4, account := 1, job := 4, charge := 5, impressions := 6, attempts := 1 })] }
          queue := (List.range 8).map meterPost
          work := [{ owner := .settlement, tasks := [.removeEntry 3 .applied], begun := true, since := some 19000 }] } }
    t.part.settlement.requests.length = 1 ∧ tableGet t.part.ledger.holds 63 = some (hold 905 7 318 500 20 .active) ∧
      (after .writeComplete t.part).part.store.work.map Work.block = [.hold] ∧
      (after .writeComplete t.part).part.settlement.requests = [] := by
  decide +kernel

/-- R172: a JOB record held up by the settlement unit's own waiting post keeps no LAPSE_DROPPED from a journal that does not wait: it is
taken in, and the journal waits for its place from the handing. -/
theorem test_lapse_passes_a_held_job_record :
    let r := hold 1205 7 611 500 5000 .lapsed
    let lapse := JournalBody.lapseDropped 611 7 1205 40213 500 .sweep
    let c : Checkpoint :=
      { job := 318, funding := .accountRemote, payer := 40213, home := some 12, holdId := some 905, limit := 500, cls := 1
        gross := 8000, delivered := 1, mono := 1, colour := 0, position := 1, unbilled := 0, unpermitted := 0, spoiled := 0, jams := 0 }
    let p := { idle with
      store :=
        { stored := { books with holds := [(63, r)] }
          queue := (List.range 8).map meterPost
          work :=
            [{ owner := .settlement, tasks := [.putMark 7 4 []], begun := true, since := some 19000 },
              { owner := .settlement, tasks := [.journal (.job (c.journalEntry 50 .unpaid))] },
              { owner := .hold, tasks := [.journal lapse, .dropHold 63], begun := true }] } }
    (after .doorClosed p).part.store.work.map (fun w => (w.tasks.length, w.since.isSome)) = [(1, true), (2, true), (1, false)] ∧
      (after .doorClosed p).part.store.work[1]?.bind (fun w => w.tasks.head?) = some (.journalCount lapse) := by
  decide +kernel

/-- Meets the hypotheses of HoldsAreEnlargedKeptAndSwept for a LAPSED record, its grace time past and one second short, and a SETTLING one. -/
theorem test_witness_grace :
    let s := fun (touched : Nat) (st : HoldState) =>
      let p := visiting 0 100000000
      at' { p with now := 100000000, store := { stored := { books with holds := [(63, hold 1205 7 611 500 touched st)] } } }
    (s 13600 .lapsed).part.AtRest ∧ 3600 * values.grace ≤ 100000000 / 1000 - 13600 ∧
      100000000 / 1000 - 13601 < 3600 * values.grace ∧ (s 13601 .lapsed).part.AtRest ∧ (s 0 .settling).part.AtRest ∧
      (s 13600 .lapsed).part.store.queue = [] ∧ 17 < (s 13600 .lapsed).part.freeSlots ∧
      Rising (s 13600 .lapsed).part.accounts.held ∧
      tableGet (s 13600 .lapsed).part.ledger.holds 63 = some (hold 1205 7 611 500 13600 .lapsed) := by
  decide +kernel

/-- Meets the hypotheses of TopupsAndQueriesAreAnswered at the write-done of an account that is created and of one that is closed. -/
theorem test_witness_office_answers :
    (at' (posted (.account 191 (.used account)) [.answer 12 40213 .created])).part.AtRest ∧
      (at' (posted (.account 191 .vacated) [.answer 12 40213 .ok])).part.AtRest := by
  decide +kernel

/-- Meets the hypotheses of DeferredEntriesAreSentUntilAcknowledged at the write-done of an entry, the open job's and another. -/
theorem test_witness_entry_stored :
    let s := fun (forJob : Bool) => at' { withJob { job .settling with charge := some 50 } with
      store := { queue := [{ write := .deferred 15 (some entry), notes := [.entryStored 3 forJob] }] } }
    (∀ forJob ∈ [true, false], (s forJob).part.AtRest ∧ (s forJob).part.Canonical ∧ (s forJob).part.flightFor 12 = none) ∧
      12 ≠ (s true).part.config.values.station ∧ (s true).part.job.state = .settling ∧ 0 < (s true).part.journal.reserved ∧
      ∀ x ∈ (program (s true).part.store.stored (.deferred 15 (some entry))).deferred,
        x.1 ≠ 15 → x.2.home ≠ entry.home ∧ x.2.number ≠ entry.number := by
  refine ⟨?_, ?_, ?_, ?_, ?_⟩ <;> decide +kernel

/-- Meets the hypotheses of SendsAreAnsweredOrCounted in GUARDED, at the scores where the state stays and where it changes; and for a frame
dropped at its 16th send that an ask, a top-up and a cancelled ask enqueued. -/
theorem test_witness_guarded_sends :
    let s := fun (score : Nat) => at' (lined { lastTry with state := .guarded, score := score })
    let dropped := fun (p : Part) => at' { p with line := lastTry }
    (∀ score ∈ [96, 97, 183, 192], (s score).part.AtRest ∧ (s score).part.line.state = .guarded) ∧
      (dropped (withJob { asking with askFrame := some 0 })).part.AtRest ∧ asking.askAttempts < 3 ∧
      (dropped (withJob { job .ready with topupOutstanding := true, topupFrame := some 0, topupAttempts := 2 })).part.AtRest ∧
      (dropped { idle with
        settlement := { reserved := 1, cancelled := some { cancelledAsk 12 (some 20400) with frame := some 0 } } }).part.AtRest ∧
      12 ≠ idle.config.values.station ∧ (lined lastTry).line.score < 88 ∧
      (lastTry.outbound.filter (fun f => decide (f.ticket ≠ 0))).length < 8 := by
  decide +kernel

/-- Meets the hypotheses of TransmissionsAreJudgedAndTaken in GUARDED, SILENT and WITHDRAWN, and of a heard report for an entry in each of its
phases. -/
theorem test_witness_other_receptions :
    let unknown := frameBytes 12 7 (.announce 3)
    let other : List Byte :=
      let head := bytesOf 2 (4096 + 7 * 128 + 12 * 4) ++ bytesOf 1 1 ++ bytesOf 1 9
      head ++ bytesOf 2 (crc head).toNat
    let f : Flight := { home := 12, number := 3, slow := true, sends := 3, due := 20000 }
    (∀ score ∈ [97, 190], (at' (lined { state := .guarded, score := score })).part.AtRest) ∧
      judge unknown = .good 12 7 (some (.announce 3)) ∧ (at' (lined { state := .silent })).part.AtRest ∧
      judge (frameBytes 12 0 (.periodClose 3)) = .good 12 0 (some (.periodClose 3)) ∧
      (Message.periodClose 3).announcesPeriod = true ∧ (at' (lined { state := .withdrawn, rests := 62 })).part.AtRest ∧
      (at' (lined { state := .withdrawn, rests := 63 })).part.AtRest ∧ judge other = .good 12 7 none ∧
      (sending f []).part.AtRest ∧ (sending { f with slow := false } []).part.AtRest ∧ (sending f []).part.flightFor 12 = some f ∧
      findEntry (sending f []).part.ledger 3 = some (15, entry) ∧ (sending f []).part.store.queue = [] ∧
      (sending f []).part.line.state = .active ∧ (sending f []).part.line.sending = none ∧ (sending f []).part.line.score < 95 := by
  refine ⟨?_, ?_, ?_, ?_, ?_, ?_, ?_, ?_, ?_, ?_, ?_, ?_, ?_, ?_, ?_, ?_⟩ <;> decide +kernel

/-- An asking job, an entry in its slow phase for the same home, and that home's HOLD_GIVE. -/
def askingAndOwing : Part :=
  { withJob asking with
    store := { stored := { deferred := [(15, entry)] } }
    settlement := { reserved := 1, flights := [{ home := 12, number := 3, slow := true, sends := 3, due := 50000 }] } }
def grantBytes : List Byte := frameBytes 12 7 (.holdGive 905 318 500 1 60)

/-- Meets the hypotheses of TransmissionsAreJudgedAndTaken on a HOLD_GIVE that comes with a heard report. -/
theorem test_witness_grant_with_heard_report :
    let s := at' askingAndOwing
    let f : Flight := { home := 12, number := 3, slow := true, sends := 3, due := 50000 }
    s.part.AtRest ∧ s.part.line.state = .active ∧ s.part.line.sending = none ∧ s.part.line.score < 95 ∧
      judge grantBytes = .good 12 7 (some (.holdGive 905 s.part.job.number 500 1 60)) ∧ 7 = s.part.config.values.station ∧
      12 ≠ s.part.config.values.station ∧ s.part.line.inbound.length < 8 ∧ s.part.flightFor 12 = some f ∧
      findEntry s.part.ledger 3 = some (15, entry) ∧ s.part.store.queue = [] ∧ s.part.job.state = .authorize ∧
      s.part.job.home = some 12 ∧ s.part.job.funding = some .accountRemote := by
  decide +kernel

/-- R145, R155: the SETTLE of a heard report and its attempts post come before what the accepted HOLD_GIVE brings about. -/
theorem test_heard_report_before_acceptance :
    let q := (after (.frameReceived grantBytes) askingAndOwing).part
    q.store.queue.map (fun x => x.write.name) = [.deferred 15, .checkpoint] ∧ q.line.outbound.length = 1 ∧ q.job.state = .ready ∧
      q.line.answered = true := by
  decide +kernel

/-- R158: a soft reset ends the driving of the answer slot, and a transmission in its drain goes unanswered. -/
theorem test_drain_answers_nothing :
    let p : Part := { posted (.meter 25 1) [] with line := { answered := true } }
    (after .resetPinAssert p).part.line.answered = false ∧
      (after (.frameReceived grantBytes) { p with phase := .draining false }).part.line = {} := by
  decide +kernel

end Sys2Proof.Tests
end

section
/-! Proofs about the charge unit: the charge C and the final charge F (R14, R15, R16). -/

namespace Sys2Proof.Machine

open Sys2Proof

/-! ### The charge C -/

/-- A charge stays within `c` cents exactly up to the half cent above `c`, which is rounded down (R15). -/
theorem roundCents_le_iff (n c : Nat) : roundCents n ≤ c ↔ n ≤ 1000 * c + 500 := by
  unfold roundCents
  omega

theorem le_roundCents_iff (n c : Nat) : c ≤ roundCents n ↔ 1000 * c ≤ n + 499 := by
  rw [roundCents, Nat.le_div_iff_mul_le (by decide), Nat.mul_comm]

theorem roundCents_eq_iff (n c : Nat) :
    roundCents n = c ↔ (c = 0 ∧ n ≤ 500) ∨ (0 < c ∧ 1000 * c ≤ n + 499 ∧ n ≤ 1000 * c + 500) := by
  rw [Nat.eq_iff_le_and_ge, roundCents_le_iff, le_roundCents_iff]
  rcases Nat.eq_zero_or_pos c with rfl | hpos
  · simp
  · simp [hpos, hpos.ne', and_comm]

theorem roundCents_le_of_le {n limit : Nat} (h : n ≤ 1000 * limit) : roundCents n ≤ limit :=
  (roundCents_le_iff n limit).2 (h.trans (Nat.le_add_right _ _))

theorem discounted_le (v : Values) (gross cls : Nat) : discounted v gross cls ≤ gross :=
  Nat.sub_le _ _

/-! ### The final charge F -/

@[simp] theorem finalCharge_zero_delivered (v : Values) (gross cls limit : Nat) : finalCharge v gross 0 cls limit = 0 :=
  if_pos rfl

theorem finalCharge_of_delivered (v : Values) (gross cls limit : Nat) {delivered : Nat} (h : delivered ≠ 0) :
    finalCharge v gross delivered cls limit = min (max (roundCents (discounted v gross cls)) v.minCharge) limit :=
  if_neg h

theorem finalCharge_le (v : Values) (gross delivered cls limit : Nat) : finalCharge v gross delivered cls limit ≤ limit := by
  by_cases h : delivered = 0
  · simp [h]
  · rw [finalCharge_of_delivered v gross cls limit h]
    exact min_le_right _ _

/-- The hold never cuts off the charge of a gross it covers: the discount only lowers the gross (R14, R16). -/
theorem roundCents_le_finalCharge (v : Values) {gross delivered limit : Nat} (cls : Nat) (hd : delivered ≠ 0)
    (hg : gross ≤ 1000 * limit) :
    roundCents (discounted v gross cls) ≤ finalCharge v gross delivered cls limit := by
  rw [finalCharge_of_delivered v gross cls limit hd]
  exact le_min (le_max_left _ _) (roundCents_le_of_le ((discounted_le v gross cls).trans hg))

theorem minCharge_le_finalCharge (v : Values) {delivered limit : Nat} (gross cls : Nat) (hd : delivered ≠ 0)
    (hm : v.minCharge ≤ limit) : v.minCharge ≤ finalCharge v gross delivered cls limit := by
  rw [finalCharge_of_delivered v gross cls limit hd]
  exact le_min (le_max_right _ _) hm

/-- Settles O21: the rounding is characterised by its bounds on both sides, and each bound on F by the `min` and the `max` of R16. -/
theorem chargesAreRoundedAndCapped : Obligations.ChargesAreRoundedAndCapped := by
  refine ⟨⟨roundCents_eq_iff, fun _ _ => roundCents_le_of_le⟩, fun v gross delivered cls limit => ⟨?none, ?cap, ?some⟩⟩
  case none =>
    rintro rfl
    exact finalCharge_zero_delivered v gross cls limit
  case cap => exact finalCharge_le v gross delivered cls limit
  case some =>
    intro hd
    exact ⟨finalCharge_of_delivered v gross cls limit hd, roundCents_le_finalCharge v cls hd,
      minCharge_le_finalCharge v gross cls hd⟩

end Sys2Proof.Machine
end

section
/-! Proofs about the panel requests of the job controller: RESUME (R40), with the rules that follow it in RUNNING (R30, R31, R35). -/

namespace Sys2Proof.Machine

open Sys2Proof

/-! ### A request that tests 1 to 3 of R182 let through -/

theorem Part.AtRest.turnedAway {p : Part} (h : p.AtRest) (ho : p.config.outcome ≠ .bad) (allowed : Bool) :
    p.turnedAway allowed = none := by
  obtain ⟨hs, -⟩ := h
  simp [Part.turnedAway, Part.serving, Part.outOfService, hs, ho]

/-- At rest, in service and with the response store empty, a request is answered by its own decision. -/
theorem Part.AtRest.request {p : Part} (h : p.AtRest) (ho : p.config.outcome ≠ .bad) (hr : p.panel.response = none)
    (code : Nat) (allowed : Bool) (decision : Part → Answer) :
    p.request code allowed decision = (decision p).part.answering code (decision p).result (decision p).body := by
  obtain ⟨hs, -⟩ := id h
  have hon : p.phase ≠ .off := by simp [hs]
  unfold Part.request Part.requestWith
  rw [if_neg hon, hr, h.turnedAway ho allowed]
  rfl

/-- The newest values and the reservations fix the journal's free slots. -/
theorem Part.freeSlots_congr {p q : Part}
    (h : q.store.stored = p.store.stored ∧ q.store.queue = p.store.queue ∧ q.store.pending = p.store.pending ∧
      q.journal = p.journal) : q.freeSlots = p.freeSlots := by
  obtain ⟨hstored, hqueue, hpending, hjournal⟩ := h
  simp [Part.freeSlots, Part.ledger, Store.newest, hstored, hqueue, hpending, hjournal]

/-! ### The rules that follow an event (R30, R31, R35) -/

/-- What the run-out rule decides: the due time stands while its condition holds, and is gone otherwise (R35). -/
theorem Part.reactRunOut_eq (p : Part) :
    p.reactRunOut =
      { p with
        job :=
          { p.job with
            runOutDue :=
              if p.runOutHolds then some (p.job.runOutDue.getD (p.now + p.config.values.w1)) else none } } := by
  unfold Part.reactRunOut
  split
  · split
    · next hdue => simp [hdue]
    · next due hdue =>
      have hkept : some (p.job.runOutDue.getD (p.now + p.config.values.w1)) = p.job.runOutDue := by simp [hdue]
      rw [hkept]
  · rfl

/-- The rule of R31 acts only on a job that is out of funds with no top-up outstanding and no funds exhausted. -/
theorem Part.reactFunds_same {p : Part}
    (h : p.outOfFunds = true → p.job.topupOutstanding = true ∨ p.job.exhausted.isSome = true) : p.reactFunds = p := by
  unfold Part.reactFunds
  rw [if_neg]
  simp only [Bool.and_eq_true, Bool.not_eq_true', Option.isNone_iff_eq_none]
  rintro ⟨⟨hout, htopup⟩, hexhausted⟩
  simpa [htopup, hexhausted] using h hout

/-- What a part keeps while its job is found out of funds or asks for more, and while the run-out wait starts or ends: the terms of the
job that R30 reads, the activity time, and the response. -/
def Part.sameTerms (p q : Part) : Prop :=
  q.job.state = p.job.state ∧ q.job.lastActivity = p.job.lastActivity ∧ q.job.assigned = p.job.assigned ∧
    q.job.positions = p.job.positions ∧ q.job.headroom = p.job.headroom ∧ q.panel.response = p.panel.response

theorem Part.sameTerms_refl (p : Part) : p.sameTerms p := ⟨rfl, rfl, rfl, rfl, rfl, rfl⟩

theorem Part.sameTerms.trans {p q r : Part} (h : p.sameTerms q) (k : q.sameTerms r) : p.sameTerms r := by
  unfold Part.sameTerms at *
  obtain ⟨hstate, hactivity, hassigned, hpositions, hroom, hresponse⟩ := h
  rwa [hstate, hactivity, hassigned, hpositions, hroom, hresponse] at k

theorem Part.topupAttempt_sameTerms (p : Part) : p.sameTerms p.topupAttempt := by
  unfold Part.topupAttempt Part.enqueue
  split <;> exact ⟨rfl, rfl, rfl, rfl, rfl, rfl⟩

theorem Part.topupLocal_sameTerms (p : Part) : p.sameTerms p.topupLocal := ⟨rfl, rfl, rfl, rfl, rfl, rfl⟩

theorem Part.exhaust_sameTerms (p : Part) (cause : FundsCause) : p.sameTerms (p.exhaust cause) :=
  ⟨rfl, rfl, rfl, rfl, rfl, rfl⟩

theorem Part.reactFunds_sameTerms (p : Part) : p.sameTerms p.reactFunds := by
  unfold Part.reactFunds
  split_ifs
  · exact p.topupAttempt_sameTerms
  · exact p.topupLocal_sameTerms
  · exact p.exhaust_sameTerms .funds
  · exact p.sameTerms_refl

/-- Only a local home is asked for more by work of its hold table (R31, R102). -/
theorem Part.reactFunds_work {p : Part} (h : p.job.funding ≠ some .accountLocal) :
    p.reactFunds.store.work = p.store.work := by
  unfold Part.reactFunds
  split_ifs with hout hfunded hremote
  · simp
  · simp [Job.accountFunded, h, hremote] at hfunded
  · simp
  · rfl

theorem Part.reactRunOut_sameTerms (p : Part) : p.sameTerms p.reactRunOut := by
  rw [Part.reactRunOut_eq]
  exact ⟨rfl, rfl, rfl, rfl, rfl, rfl⟩

theorem Part.sameTerms.permitHolds {p q : Part} (h : p.sameTerms q) (hphase : q.phase = p.phase)
    (hconfig : q.config = p.config) (hpath : q.path = p.path) : q.permitHolds = p.permitHolds := by
  obtain ⟨hstate, -, hassigned, hpositions, hroom, -⟩ := h
  simp [Part.permitHolds, Part.serving, Part.outOfService, hphase, hconfig, hpath, hstate, hassigned, hpositions, hroom]

/-- The rules that follow an event in RUNNING: funds, then the run-out wait, and PERMIT by R30, which neither moves. -/
theorem Part.react_running {p : Part} (hs : p.phase = .serving) (hr : p.job.state = .running) :
    p.react = { p.reactFunds.reactRunOut with permit := p.permitHolds } := by
  have hd : p.reactDrain = p := by simp [Part.reactDrain, hr]
  have hp : p.reactFunds.reactRunOut.permitHolds = p.permitHolds :=
    (p.reactFunds_sameTerms.trans p.reactFunds.reactRunOut_sameTerms).permitHolds (by simp) (by simp) (by simp)
  unfold Part.react
  rw [if_pos (by simp [Part.serving, hs]), hd]
  simp only [hp]

/-- A command in service that leaves the path alone, and after which the rules that follow an event hand out no work, is its effect and
those rules. -/
theorem event_react {s : State} {f : Part → Part} {q : Part} (hf : f s.part = q) (hs : q.phase = .serving)
    (hpath : q.path = s.part.path) (hwork : q.react.store.work = []) (hpending : q.store.pending = [])
    (hfree : q.freeSlots = s.part.freeSlots) : event s f = .next { s with part := q.react.alert } := by
  have hfree' : q.react.freeSlots = s.part.freeSlots := (Part.freeSlots_congr (by simp)).trans hfree
  unfold event
  rw [Part.command_noWork hf hs (Part.reactIdle_path (by rw [hpath])) rfl hwork (by simpa using hpending),
    Part.journalLow_same hfree']

/-! ### RESUME (R40) -/

/-- The part whose paused job has been resumed, and RESUME answered OK, before the rules that follow the event. -/
def Part.resumed (p : Part) : Part :=
  ({ p with
      job := { p.job with state := .running, lastActivity := p.now }
      panel := p.panel.raise .jobState } : Part).answering 3 .ok []

@[simp] theorem Part.resumed_frame (p : Part) :
    p.resumed.phase = p.phase ∧ p.resumed.now = p.now ∧ p.resumed.config = p.config ∧ p.resumed.path = p.path ∧
      p.resumed.store = p.store ∧ p.resumed.journal = p.journal :=
  ⟨rfl, rfl, rfl, rfl, rfl, rfl⟩

@[simp] theorem Part.resumed_job_state (p : Part) : p.resumed.job.state = .running := rfl

@[simp] theorem Part.resumed_job_terms (p : Part) :
    p.resumed.job.assigned = p.job.assigned ∧ p.resumed.job.position = p.job.position ∧
      p.resumed.job.positions = p.job.positions ∧ p.resumed.job.headroom = p.job.headroom ∧
      p.resumed.job.topupOutstanding = p.job.topupOutstanding ∧ p.resumed.job.exhausted = p.job.exhausted ∧
      p.resumed.job.runOutDue = p.job.runOutDue :=
  ⟨rfl, rfl, rfl, rfl, rfl, rfl, rfl⟩

theorem Part.resumeRequest_paused {p : Part} (hp : p.job.state = .paused) (hj : p.path.jammed = false) :
    p.resumeRequest = (p.touchActivity.setJobState .running).ok [] :=
  if_pos (by simp [hp, hj])

theorem Part.resumeRequest_refused {p : Part} (h : p.job.state ≠ .paused ∨ p.path.jammed = true) :
    p.resumeRequest = p.refuse .busy := by
  refine if_neg ?_
  rintro ⟨hp, hj⟩
  rcases h with hne | hjam
  · exact hne hp
  · simp [hjam] at hj

/-- A RESUME taken: the record enters RUNNING with the activity time now (R40). -/
theorem Part.AtRest.request_resume {p : Part} (h : p.AtRest) (ho : p.config.outcome ≠ .bad) (hr : p.panel.response = none)
    (hp : p.job.state = .paused) (hj : p.path.jammed = false) : p.request 3 false Part.resumeRequest = p.resumed := by
  rw [h.request ho hr, Part.resumeRequest_paused hp hj]
  simp [Part.ok, Part.setJobState, Part.touchActivity, Part.raise, Part.resumed, hp]

/-- PERMIT of a job just resumed on a clear path (R30). -/
theorem Part.resumed_permitHolds {p : Part} (hs : p.phase = .serving) (ho : p.config.outcome ≠ .bad)
    (hj : p.path.jammed = false) :
    p.resumed.permitHolds =
      (decide (p.path.sheets.length < 6) && decide (p.job.assigned < p.job.positions) && p.job.headroom) := by
  simp [Part.permitHolds, Part.serving, Part.outOfService, Config.pathPlaces, hs, ho, hj]

/-- Whether a job just resumed starts the run-out wait (R35). -/
theorem Part.resumed_runOutHolds (p : Part) :
    p.resumed.runOutHolds = true ↔
      p.path.sheets = [] ∧
        (p.job.position = p.job.positions ∨ (p.job.exhausted = some .funds ∧ p.job.topupOutstanding = false)) := by
  simp [Part.runOutHolds]

/-- A resumed job asks for nothing more when its next sheet is funded, or its top-up is outstanding or refused (R31). -/
theorem Part.resumed_reactFunds {p : Part}
    (h : p.job.headroom = true ∨ p.job.topupOutstanding = true ∨ p.job.exhausted.isSome = true) :
    p.resumed.reactFunds = p.resumed := by
  refine Part.reactFunds_same fun hout => ?_
  rcases h with hroom | htopup | hexhausted
  · simp [Part.outOfFunds, hroom] at hout
  · exact .inl htopup
  · exact .inr hexhausted

/-- The rules that follow a RESUME taken on a clear path (R30, R31, R35). -/
theorem Part.react_resumed {p : Part} (hs : p.phase = .serving) (ho : p.config.outcome ≠ .bad)
    (hj : p.path.jammed = false) :
    p.resumed.react =
      { p.resumed.reactFunds.reactRunOut with
        permit := decide (p.path.sheets.length < 6) && decide (p.job.assigned < p.job.positions) && p.job.headroom } := by
  rw [Part.react_running (p := p.resumed) hs rfl, Part.resumed_permitHolds hs ho hj]

/-- No run-out wait stands in PAUSED (R35). -/
theorem Part.AtRest.runOutDue_paused {p : Part} (h : p.AtRest) (hp : p.job.state = .paused) : p.job.runOutDue = none := by
  obtain ⟨-, -, -, -, -, hrun, -⟩ := h
  simpa [Part.runOutHolds, hp] using hrun

/-- A RESUME that is taken, and hands no work to the hold table, is the resumed job with the rules that follow an event. -/
theorem exec_resume_paused {s : State} (h : s.part.AtRest) (ho : s.part.config.outcome ≠ .bad)
    (hr : s.part.panel.response = none) (hp : s.part.job.state = .paused) (hj : s.part.path.jammed = false)
    (hw : s.part.resumed.reactFunds.store.work = []) :
    exec .resume s = .next { s with part := s.part.resumed.react.alert } := by
  obtain ⟨hs, -, hpending, -⟩ := id h
  have hrules : s.part.resumed.react.store.work = [] := by simpa [Part.react_resumed hs ho hj] using hw
  exact event_react (h.request_resume ho hr hp hj) hs rfl hrules hpending (Part.freeSlots_congr (by simp))

/-- A RESUME refused is answered BUSY and changes nothing (R40). -/
theorem exec_resume_refused {s : State} (h : s.part.AtRest) (ho : s.part.config.outcome ≠ .bad)
    (hr : s.part.panel.response = none) (hb : s.part.job.state ≠ .paused ∨ s.part.path.jammed = true) :
    exec .resume s = .next { s with part := (s.part.answering 3 .busy []).alert } := by
  have heffect : s.part.request 3 false Part.resumeRequest = s.part.answering 3 .busy [] := by
    rw [h.request ho hr, Part.resumeRequest_refused hb]
    rfl
  exact event_rest h heffect (by simp) (Part.freeSlots_congr (by simp))

/-- Settles O29: a RESUME that is taken is followed by the rules of RUNNING. With the next sheet funded, or its funding asked for or
refused, these are the run-out wait and PERMIT alone; and asking for more moves nothing that R30 reads. -/
theorem resumeRunsAPausedJob : Obligations.ResumeRunsAPausedJob := by
  intro s h ho hr
  obtain ⟨hs, hwork, -⟩ := id h
  refine ⟨fun hp hj hfunds => ?funded, fun hp hj hlocal => ?taken, fun hb => exec_resume_refused h ho hr hb⟩
  case funded =>
    have hsame := Part.resumed_reactFunds hfunds
    rw [exec_resume_paused h ho hr hp hj (by rw [hsame]; exact hwork), Part.react_resumed hs ho hj, hsame,
      Part.reactRunOut_eq]
    simp only [Part.resumed_runOutHolds, Part.resumed_job_terms, h.runOutDue_paused hp]
    rfl
  case taken =>
    have hnone : s.part.resumed.reactFunds.store.work = [] :=
      (Part.reactFunds_work (p := s.part.resumed) hlocal).trans hwork
    have hkept : s.part.resumed.sameTerms s.part.resumed.reactFunds.reactRunOut :=
      (Part.reactFunds_sameTerms _).trans (Part.reactRunOut_sameTerms _)
    obtain ⟨hstate, hactivity, -, -, -, hresponse⟩ := hkept
    refine ⟨_, exec_resume_paused h ho hr hp hj hnone, ?_⟩
    rw [Part.react_resumed hs ho hj]
    exact ⟨hstate, hactivity, rfl, hresponse⟩

end Sys2Proof.Machine
end

section
/-! Proofs about the whole of a command: what each command does to the part, written once, and what no command but the named ones
changes (R160, R161, R166, R186, R188). -/

namespace Sys2Proof.Machine

open Sys2Proof

/-! ### The effect of a command -/

/-- What a command itself does to the part, before what follows every event (the arms of `exec`, in their order). -/
def Instr.effect (c : Instr) (p : Part) : Part :=
  match c with
  | .powerOn => p.powerOn
  | .powerLoss programmed => if p.phase = .off then p else p.losePower programmed
  | .resetPinAssert => p.assertReset
  | .resetPinRelease => { p with resetPin := false }
  | .configLoadDone image => p.loadDone image
  | .writeComplete => p.writeComplete
  | .panelRead => p.panelRead
  | .panelRequestUnknown code => p.request code true fun q => q.refuse .unknown
  | .status => p.statusRequest
  | .start media colour sides originals copies collated =>
    p.requestWith 2 false Part.touchOpen fun q => q.startRequest media colour sides originals copies collated
  | .resume => p.request 3 false Part.resumeRequest
  | .endJob => p.request 4 false fun q => q.endRequest .panelEnd
  | .cancel => p.request 5 false Part.cancelRequest
  | .jobRead => p.request 6 true (readsOk fun q => q.job.snapshot)
  | .quote media colour sides sheets cls => p.request 7 false fun q => q.quoteRequest media colour sides sheets cls
  | .journalRead first => p.request 8 true (readsOk fun q => q.journalBody first)
  | .journalRelease upTo => p.request 9 false fun q => q.releaseRequest upTo
  | .meterRead index => p.request 10 true fun q => q.meterRequest index
  | .jamLogRead => p.request 11 true (readsOk Part.jamLogBody)
  | .accountRead account => p.request 12 true fun q => q.accountRequest account
  | .holdRead index => p.request 13 true fun q => q.holdRequest index
  | .deferredRead index => p.request 14 true fun q => q.deferredRequest index
  | .heardRead => p.request 15 true (readsOk Part.heardBody)
  | .alertRead => p.request 16 true (readsOk fun q => q.panel.alertBody)
  | .alertAck flags => p.request 17 true fun q => q.ackRequest flags
  | .alertEnable flags master => p.request 18 true fun q => q.enableRequest flags master
  | .resetStation => p.request 19 false Part.resetRequest
  | .sheetFed media colour sides => inService (Part.feedMessage media colour sides) p
  | .sensorOn sensor => inService (Part.sensorMessage sensor Part.sensorOn) p
  | .sensorOff sensor => inService (Part.sensorMessage sensor Part.sensorOff) p
  | .doorOpen => inService Part.openDoor p
  | .doorClosed => inService Part.closeDoor p
  | .engineFault code => inService (fun q => q.engineStop (if code ≤ 255 then some code else none)) p
  | .engineMessageGarbled => inService (fun q => q.engineStop none) p
  | .sheetDeadlineExpiry place => inService (fun q => q.deadline place) p
  | .cardIn record => inService (Part.cardIn record) p
  | .cardOut => inService Part.cardOut p
  | .writeDone serial count => inService (Part.cardWritten serial count) p
  | .writeFail serial => inService (Part.cardNotWritten serial) p
  | .cardMessageDiscarded => p
  | .writeDeadlineExpiry => inService Part.writeDeadline p
  | .askTimerExpiry => inService Part.askTimer p
  | .cancelledAskExpiry => inService Part.cancelledTimer p
  | .topupTimerExpiry => inService Part.topupTimer p
  | .keepAliveDue => inService Part.keepTimer p
  | .runOutDue => inService Part.runOutTimer p
  | .idleTimeout => inService (fun q => if q.idleReached then q.idleEnd else q) p
  | .holdGive source holdId job amount cls lifetime =>
    inService (fun q => q.takeGive source holdId job amount cls lifetime) p
  | .holdDeny source job reason => inService (fun q => q.takeDeny source job reason) p
  | .holdGone source holdId job => inService (fun q => q.takeGone source holdId job) p
  | .holdAsk => inService (fun q => q.takeWhenReady .hold Message.isHoldRequest Part.actAsk) p
  | .holdMore => inService (fun q => q.takeWhenReady .hold Message.isHoldRequest Part.actMore) p
  | .holdKeep => inService (fun q => q.takeWhenReady .hold Message.isHoldRequest Part.actKeep) p
  | .sweepVisit => inService Part.sweep p
  | .acctPut => inService (fun q => q.takeWhenReady .account Message.isAccountFrame Part.actPut) p
  | .acctTopup => inService (fun q => q.takeWhenReady .account Message.isAccountFrame Part.actTopup) p
  | .acctQuery => inService (fun q => q.takeWhenReady .account Message.isAccountFrame Part.actQuery) p
  | .acctAnswer _ _ _ _ _ => p
  | .periodClose => inService (fun q => q.takeWhenReady .account Message.isAccountFrame Part.actClose) p
  | .announce => inService (fun q => q.takeWhenReady .account Message.isAccountFrame Part.actAnnounce) p
  | .settle => inService Part.settle p
  | .settleQuickTimerExpiry home => inService (Part.whenSending fun q => q.quickExpiry home) p
  | .settleSlowTimerExpiry home => inService (Part.whenSending fun q => q.slowExpiry home) p
  | .settleAck => inService (Part.whenSending fun q => q.takeFrame Message.isAck Part.actAck) p
  | .tally _ _ _ _ _ _ => p
  | .lineQuietRest => inService Part.quietRest p
  | .contentionLost => inService Part.contentionLost p
  | .sendResult answered => inService (Part.sendResult answered) p
  | .frameReceived bytes => if p.serving then p.frameReceived bytes else p.frameUnanswered

/-- The commands that only read, and those that are discarded: nothing follows their effect. -/
def Instr.isBare : Instr → Bool
  | .panelRequestUnknown _ | .status | .jobRead | .quote _ _ _ _ _ | .journalRead _ | .meterRead _ | .jamLogRead => true
  | .accountRead _ | .holdRead _ | .deferredRead _ | .heardRead | .alertRead => true
  | .cardMessageDiscarded | .acctAnswer _ _ _ _ _ | .tally _ _ _ _ _ _ => true
  | _ => false

/-- The part after a command: its effect, and for an event what follows it. -/
def Instr.result (c : Instr) (p : Part) : Part := if Instr.isBare c then Instr.effect c p else p.command (Instr.effect c)

/-- Every command completes, and changes the part alone. -/
theorem exec_eq (c : Instr) (s : State) : exec c s = .next { s with part := Instr.result c s.part } := by
  cases c <;> rfl

theorem exec_part {c : Instr} {s t : State} (h : exec c s = .next t) : t.part = Instr.result c s.part := by
  rw [exec_eq] at h
  cases h
  rfl

theorem Instr.result_bare {c : Instr} (h : Instr.isBare c = true) (p : Part) : Instr.result c p = Instr.effect c p := if_pos h

theorem Instr.result_event {c : Instr} (h : Instr.isBare c = false) (p : Part) :
    Instr.result c p = p.command (Instr.effect c) := if_neg (by simp [h])

/-- A step is one millisecond or one command. -/
theorem step_cases {s t : State} (h : step s = .next t) :
    t.part = s.part.tick ∨ ∃ c rest, s.pending = c :: rest ∧ t.part = Instr.result c s.part := by
  unfold step at h
  cases hp : s.pending with
  | nil =>
    rw [hp] at h
    cases h
    exact .inl rfl
  | cons c rest =>
    rw [hp] at h
    exact .inr ⟨c, rest, rfl, exec_part (s := { s with pending := rest }) h⟩

/-- What every command keeps, every step keeps, when the passing of time keeps it. -/
theorem step_keeps {I : Part → Prop} (htick : ∀ p, I p → I p.tick) (hcommand : ∀ c p, I p → I (Instr.result c p)) {s t : State}
    (hs : I s.part) (h : step s = .next t) : I t.part := by
  rcases step_cases h with ht | ⟨c, rest, -, ht⟩
  · exact ht ▸ htick _ hs
  · exact ht ▸ hcommand c _ hs

/-! ### The shapes that effects share -/

/-- An effect in service keeps what it keeps. -/
theorem inService_keeps {I : Part → Prop} {f : Part → Part} {p : Part} (hp : I p) (hf : p.phase = .serving → I (f p)) :
    I (inService f p) := by
  unfold inService
  split
  · next h => exact hf (by simpa [Part.serving] using h)
  · exact hp

/-- A request keeps what its refusal, its decision and the response store keep. -/
theorem Part.requestWith_keeps {I : Part → Prop} {p : Part} {code : Nat} {allowed : Bool} {refused : Part → Part}
    {decision : Part → Answer} (hrespond : ∀ (q : Part) (c : Nat) (r : PanelResult) (b : List Byte), I q → I (q.respond c r b))
    (hp : I p) (hrefused : I (refused p)) (hdecision : I (decision p).part) :
    I (p.requestWith code allowed refused decision) := by
  unfold Part.requestWith
  split
  · exact hp
  · split
    · exact hrespond _ _ _ _ hp
    · split
      · exact hrespond _ _ _ _ hrefused
      · exact hrespond _ _ _ _ hdecision

theorem Part.request_keeps {I : Part → Prop} {p : Part} {code : Nat} {allowed : Bool} {decision : Part → Answer}
    (hrespond : ∀ (q : Part) (c : Nat) (r : PanelResult) (b : List Byte), I q → I (q.respond c r b))
    (hp : I p) (hdecision : I (decision p).part) : I (p.request code allowed decision) :=
  Part.requestWith_keeps hrespond hp hp hdecision

/-- A frame taken by its block: the frame leaves the queue, and the block acts. -/
theorem Part.takeFrame_keeps {I : Part → Prop} {p : Part} {mine : Message → Bool} {act : Part → InFrame → Option Part}
    (hp : I p)
    (hact : ∀ f q, f ∈ p.line.inbound → mine f.message = true →
      act (p.withLine { p.line with inbound := p.line.inbound.eraseP (fun g => mine g.message) }) f = some q → I q) :
    I (p.takeFrame mine act) := by
  unfold Part.takeFrame
  split
  · exact hp
  · next f hf =>
    cases h : act (p.withLine { p.line with inbound := p.line.inbound.eraseP (fun g => mine g.message) }) f with
    | none => exact hp
    | some q => exact hact f q (List.mem_of_find?_eq_some hf) (List.find?_some (p := fun g : InFrame => mine g.message) hf) h

theorem Part.takeWhenReady_keeps {I : Part → Prop} {p : Part} {owner : Owner} {mine : Message → Bool}
    {act : Part → InFrame → Option Part} (hp : I p)
    (hact : ∀ f q, f ∈ p.line.inbound → mine f.message = true →
      act (p.withLine { p.line with inbound := p.line.inbound.eraseP (fun g => mine g.message) }) f = some q → I q) :
    I (p.takeWhenReady owner mine act) := by
  unfold Part.takeWhenReady
  split
  · exact hp
  · exact Part.takeFrame_keeps hp hact

theorem Part.whenSending_keeps {I : Part → Prop} {p : Part} {act : Part → Part} (hp : I p) (hact : I (act p)) :
    I (p.whenSending act) := by
  unfold Part.whenSending
  split
  · exact hp
  · exact hact

/-! ### The machine (00_scope.md section 4.2) -/

/-- Settles O1. -/
theorem stepTakesTheFrontCommand : Obligations.StepTakesTheFrontCommand := fun _ _ _ => rfl

/-- Settles O2. -/
theorem everyCommandHasANextState : Obligations.EveryCommandHasANextState := fun c s => ⟨_, exec_eq c s, rfl⟩

/-- Settles O3. -/
theorem emptyQueuePassesAMillisecond : Obligations.EmptyQueuePassesAMillisecond := fun _ => rfl

/-- Settles O4. -/
theorem resetLeavesTheResetValues : Obligations.ResetLeavesTheResetValues := by
  unfold Obligations.ResetLeavesTheResetValues
  decide

/-- Settles O46. -/
theorem discardedMessagesChangeNothing : Obligations.DiscardedMessagesChangeNothing :=
  fun _ => ⟨rfl, fun _ _ _ _ _ => rfl, fun _ _ _ _ _ _ => rfl⟩

/-- Settles O5: a part with empty lists and no job meets each condition by computation, and its sums are over nothing. -/
theorem resetMeetsTheInvariants : Obligations.ResetMeetsTheInvariants := by
  refine ⟨Ledger.wf_empty, by decide, by decide, by decide, ⟨by decide, by decide, fun _ => rfl⟩, trivial, ?_⟩
  exact ⟨by decide, by decide, by decide, by decide⟩

end Sys2Proof.Machine
end

section
/-! Proofs about what commands leave alone: the stored records and the configuration (R160, R166, R188), and the two outputs that follow
from them at every command: the canonical memory (section 9.1) and ALERT (R186). -/

namespace Sys2Proof.Machine

open Sys2Proof

/-! ### What the requests keep -/

/-- The reset pin, the configuration, the stored memory and the path stay. -/
def Part.keepsPath (p q : Part) : Prop :=
  q.resetPin = p.resetPin ∧ q.config = p.config ∧ q.store.stored = p.store.stored ∧ q.path = p.path

theorem Part.keepsPath.kept {p q : Part} (h : p.keepsPath q) : p.sameKept q := ⟨h.1, h.2.1, h.2.2.1⟩

theorem Part.keepsPath.trans {p q r : Part} (h : p.keepsPath q) (k : q.keepsPath r) : p.keepsPath r := by
  obtain ⟨hpin, hconfig, hstored, hpath⟩ := h
  obtain ⟨kpin, kconfig, kstored, kpath⟩ := k
  exact ⟨kpin.trans hpin, kconfig.trans hconfig, kstored.trans hstored, kpath.trans hpath⟩

theorem Part.sameBase.keepsPath {p q : Part} (h : p.sameBase q) : p.keepsPath q := by
  obtain ⟨hpin, -, hconfig, hpath, hstored, -, -⟩ := h
  exact ⟨hpin, hconfig, hstored, hpath⟩

theorem Part.sameKept_refl (p : Part) : p.sameKept p := ⟨rfl, rfl, rfl⟩

theorem Part.keepsPath_refl (p : Part) : p.keepsPath p := ⟨rfl, rfl, rfl, rfl⟩

theorem Part.keepsPath_respond {p q : Part} (c : Nat) (r : PanelResult) (b : List Byte) (h : p.keepsPath q) :
    p.keepsPath (q.respond c r b) := by
  simpa [Part.keepsPath] using h

theorem Part.request_keepsPath {p : Part} {code : Nat} {allowed : Bool} {decision : Part → Answer}
    (h : p.keepsPath (decision p).part) : p.keepsPath (p.request code allowed decision) :=
  Part.request_keeps (fun _ c r b hq => Part.keepsPath_respond c r b hq) p.keepsPath_refl h

theorem Part.startRequest_keepsPath (p : Part) (media colour sides originals copies collated : Nat) :
    p.keepsPath (p.startRequest media colour sides originals copies collated).part := by
  unfold Part.startRequest
  split
  · simp [Part.refuse, Part.keepsPath]
  · split <;> simp [Part.refuse, Part.ok, Part.keepsPath]

theorem Part.resumeRequest_keepsPath (p : Part) : p.keepsPath p.resumeRequest.part := by
  unfold Part.resumeRequest
  split <;> simp [Part.refuse, Part.ok, Part.keepsPath]

theorem Part.endRequest_keepsPath (p : Part) (r : EndReason) : p.keepsPath (p.endRequest r).part := by
  unfold Part.endRequest
  split <;> simp [Part.refuse, Part.ok, Part.keepsPath]

theorem Part.cancelRequest_keepsPath (p : Part) : p.keepsPath p.cancelRequest.part := by
  unfold Part.cancelRequest
  split
  · simp [Part.ok, Part.keepsPath]
  · exact p.endRequest_keepsPath _

theorem Part.releaseRequest_keepsPath (p : Part) (upTo : Nat) : p.keepsPath (p.releaseRequest upTo).part := by
  unfold Part.releaseRequest
  dsimp only
  split
  · exact p.keepsPath_refl
  · split
    · exact p.keepsPath_refl
    · next q hq => exact (Part.tryPost_sameBase hq).keepsPath

theorem Part.ackRequest_part (p : Part) (flags : Byte) :
    (p.ackRequest flags).part = { p with panel := p.panel.acknowledge flags } := rfl

theorem Part.enableRequest_keepsPath (p : Part) (flags : Byte) (master : Nat) :
    p.keepsPath (p.enableRequest flags master).part := by
  unfold Part.enableRequest
  split <;> exact p.keepsPath_refl

/-- A request for a reading changes nothing itself. -/
def Answer.readsOnly (decision : Part → Answer) : Prop := ∀ p, (decision p).part = p

theorem readsOk_readsOnly (body : Part → List Byte) : Answer.readsOnly (readsOk body) := fun _ => rfl

theorem Part.quoteRequest_part (p : Part) (media colour sides sheets cls : Nat) :
    (p.quoteRequest media colour sides sheets cls).part = p := by
  unfold Part.quoteRequest
  split
  · split <;> rfl
  · rfl

theorem Part.meterRequest_part (p : Part) (index : Nat) : (p.meterRequest index).part = p := by
  unfold Part.meterRequest
  split <;> rfl

theorem Part.accountRequest_part (p : Part) (account : Nat) : (p.accountRequest account).part = p := by
  unfold Part.accountRequest
  split
  · rfl
  · split <;> rfl

theorem Part.holdRequest_part (p : Part) (index : Nat) : (p.holdRequest index).part = p := by
  unfold Part.holdRequest
  split <;> rfl

theorem Part.deferredRequest_part (p : Part) (index : Nat) : (p.deferredRequest index).part = p := by
  unfold Part.deferredRequest
  split <;> rfl

/-- The commands that nothing follows change the response store alone. -/
theorem Instr.effect_bare {c : Instr} (h : Instr.isBare c = true) (p : Part) :
    Instr.effect c p = p ∨ ∃ code result body, Instr.effect c p = p.respond code result body := by
  have reads {code : Nat} {allowed : Bool} {decision : Part → Answer} (hd : Answer.readsOnly decision) :
      p.request code allowed decision = p ∨ ∃ n result body, p.request code allowed decision = p.respond n result body := by
    unfold Part.request Part.requestWith
    split
    · exact .inl rfl
    · split
      · exact .inr ⟨_, _, _, rfl⟩
      · split
        · exact .inr ⟨_, _, _, rfl⟩
        · exact .inr ⟨_, _, _, by rw [hd p]⟩
  cases c <;> first
    | exact (Bool.false_ne_true h).elim
    | exact .inl rfl
    | exact reads (readsOk_readsOnly _)
    | skip
  case panelRequestUnknown code => exact reads fun _ => rfl
  case quote media colour sides sheets cls => exact reads fun q => q.quoteRequest_part media colour sides sheets cls
  case meterRead index => exact reads fun q => q.meterRequest_part index
  case accountRead account => exact reads fun q => q.accountRequest_part account
  case holdRead index => exact reads fun q => q.holdRequest_part index
  case deferredRead index => exact reads fun q => q.deferredRequest_part index
  case status =>
    show p.statusRequest = p ∨ ∃ n result body, p.statusRequest = p.respond n result body
    unfold Part.statusRequest
    split
    · exact .inl rfl
    · split <;> exact .inr ⟨_, _, _, rfl⟩

/-! ### What the other effects keep -/

theorem Part.engineStop_sameKept (p : Part) (code : Option Nat) : p.sameKept (p.engineStop code) := by
  simp [Part.sameKept]

theorem Part.feedMessage_sameKept (media colour sides : Nat) (p : Part) : p.sameKept (p.feedMessage media colour sides) := by
  unfold Part.feedMessage
  split
  · split <;> simp [Part.sameKept]
  · simp [Part.sameKept]

theorem Part.sensorMessage_sameKept {act : Part → Sensor → Part} (hact : ∀ p x, Part.sameKept p (act p x)) (sensor : Nat)
    (p : Part) : p.sameKept (p.sensorMessage sensor act) := by
  unfold Part.sensorMessage
  split
  · exact hact p _
  · exact p.engineStop_sameKept none

theorem Part.cardIn_keepsPath (record : List Byte) (p : Part) : p.keepsPath (p.cardIn record) := by
  unfold Part.cardIn
  split
  · simp [Part.keepsPath]
  · split <;> simp [Part.keepsPath]

theorem Part.cardWritten_keepsPath (serial count : Nat) (p : Part) : p.keepsPath (p.cardWritten serial count) := by
  unfold Part.cardWritten
  split
  · split <;> simp [Part.keepsPath]
  all_goals exact p.keepsPath_refl

theorem Part.cardNotWritten_keepsPath (serial : Nat) (p : Part) : p.keepsPath (p.cardNotWritten serial) := by
  unfold Part.cardNotWritten
  split
  · split <;> simp [Part.keepsPath]
  all_goals exact p.keepsPath_refl

theorem Part.idleEnd_keepsPath (p : Part) : p.keepsPath p.idleEnd := by simp [Part.keepsPath]

/-- A block's act on the frame it takes keeps the records and the configuration. -/
theorem Part.takeFrame_keepsPath {p : Part} {mine : Message → Bool} {act : Part → InFrame → Option Part}
    (hact : ∀ (q : Part) f r, act q f = some r → q.keepsPath r) : p.keepsPath (p.takeFrame mine act) :=
  Part.takeFrame_keeps p.keepsPath_refl fun _ _ _ _ h => (by simp [Part.keepsPath] : p.keepsPath (p.withLine _)).trans (hact _ _ _ h)

theorem Part.takeWhenReady_keepsPath {p : Part} {owner : Owner} {mine : Message → Bool} {act : Part → InFrame → Option Part}
    (hact : ∀ (q : Part) f r, act q f = some r → q.keepsPath r) : p.keepsPath (p.takeWhenReady owner mine act) := by
  unfold Part.takeWhenReady
  split
  · exact p.keepsPath_refl
  · exact Part.takeFrame_keepsPath hact

theorem Part.actAsk_keepsPath {p q : Part} {f : InFrame} (h : p.actAsk f = some q) : p.keepsPath q := by
  unfold Part.actAsk at h
  split at h
  · cases h; simp [Part.keepsPath]
  · cases h

theorem Part.actMore_keepsPath {p q : Part} {f : InFrame} (h : p.actMore f = some q) : p.keepsPath q := by
  unfold Part.actMore at h
  split at h
  · cases h; simp [Part.keepsPath]
  · cases h

theorem Part.actKeep_keepsPath {p q : Part} {f : InFrame} (h : p.actKeep f = some q) : p.keepsPath q := by
  unfold Part.actKeep at h
  split at h
  · cases h; simp [Part.keepsPath]
  · cases h

theorem Part.accountWork_keepsPath {p : Part} {r : Part × List Task} (h : p.keepsPath r.1) :
    p.keepsPath (Part.accountWork r) := by
  unfold Part.accountWork
  split
  · exact h
  · simpa [Part.keepsPath] using h

theorem Part.actPut_keepsPath {p q : Part} {f : InFrame} (h : p.actPut f = some q) : p.keepsPath q := by
  unfold Part.actPut at h
  split at h
  · cases h
    split
    · exact p.keepsPath_refl
    · exact Part.accountWork_keepsPath (by simp [Part.keepsPath])
  · cases h

theorem Part.actTopup_keepsPath {p q : Part} {f : InFrame} (h : p.actTopup f = some q) : p.keepsPath q := by
  unfold Part.actTopup at h
  split at h
  · cases h
    split
    · exact p.keepsPath_refl
    · exact Part.accountWork_keepsPath (by simp [Part.keepsPath])
  · cases h

theorem Part.actQuery_keepsPath {p q : Part} {f : InFrame} (h : p.actQuery f = some q) : p.keepsPath q := by
  unfold Part.actQuery at h
  split at h
  · cases h
    split
    · exact p.keepsPath_refl
    · simp [Part.keepsPath]
  · cases h

theorem Part.actClose_keepsPath {p q : Part} {f : InFrame} (h : p.actClose f = some q) : p.keepsPath q := by
  unfold Part.actClose at h
  split at h
  · cases h; simp [Part.keepsPath]
  · cases h

theorem Part.actAnnounce_keepsPath {p q : Part} {f : InFrame} (h : p.actAnnounce f = some q) : p.keepsPath q := by
  unfold Part.actAnnounce at h
  split at h
  · cases h; simp [Part.keepsPath]
  · cases h

theorem Part.actSettle_keepsPath {p q : Part} {f : InFrame} (h : p.actSettle f = some q) : p.keepsPath q := by
  unfold Part.actSettle at h
  split at h
  · split at h
    · cases h
      split <;> simp [Part.keepsPath]
    · split at h
      · cases h
      · cases h; simp [Part.keepsPath]
  · cases h

theorem Part.actAck_keepsPath {p q : Part} {f : InFrame} (h : p.actAck f = some q) : p.keepsPath q := by
  unfold Part.actAck at h
  split at h
  · cases h; simp [Part.keepsPath]
  · cases h

theorem Part.settle_keepsPath (p : Part) : p.keepsPath p.settle := by
  unfold Part.settle
  split
  · exact Part.takeWhenReady_keepsPath fun _ _ _ => Part.actSettle_keepsPath
  · exact p.keepsPath_refl

/-- What follows a send or a transmission in service keeps what they keep. -/
theorem Part.follow_keepsPath {p q : Part} (before : Part) (h : p.keepsPath q) (hs : q.phase = .serving) :
    p.keepsPath (q.follow before) :=
  h.trans (Part.follow_sameBase (by simp [hs])).keepsPath

theorem Part.sendResult_keepsPath {p : Part} (hs : p.phase = .serving) (answered : Bool) : p.keepsPath (p.sendResult answered) := by
  unfold Part.sendResult
  split
  · exact p.keepsPath_refl
  · next ticket _ =>
    have hsent : p.keepsPath ((p.driveFrame ticket).sendOutcome ticket answered) := by simp [Part.keepsPath]
    refine (Part.follow_keepsPath p hsent (by simpa using hs)).trans ?_
    simp [Part.keepsPath]

theorem Part.frameReceived_keepsPath {p : Part} (hs : p.phase = .serving) (bytes : List Byte) :
    p.keepsPath (p.frameReceived bytes) := by
  have htaken : p.keepsPath (p.receive bytes) := by simp [Part.keepsPath]
  refine (Part.follow_keepsPath p htaken (by simpa using hs)).trans ?_
  simp [Part.frameReceived, Part.keepsPath]

/-- The commands of the supply, the reset pin, the config line and the ledger store. -/
def Instr.isSupply : Instr → Bool
  | .powerOn | .powerLoss _ | .resetPinAssert | .resetPinRelease | .configLoadDone _ | .writeComplete => true
  | _ => false

/-- The commands of the engine port: those that reach the path monitor. -/
def Instr.isEngine : Instr → Bool
  | .sheetFed _ _ _ | .sensorOn _ | .sensorOff _ | .doorOpen | .doorClosed | .engineFault _ | .engineMessageGarbled => true
  | .sheetDeadlineExpiry _ => true
  | _ => false

/-- No other command changes a stored record, the configuration, the reset pin or the path itself. -/
theorem Instr.effect_keepsPath {c : Instr} (h : Instr.isSupply c = false) (he : Instr.isEngine c = false) (p : Part) :
    p.keepsPath (Instr.effect c p) := by
  cases hb : Instr.isBare c with
  | true =>
    rcases Instr.effect_bare hb p with hp | ⟨code, result, body, hp⟩
    · rw [hp]; exact p.keepsPath_refl
    · rw [hp]; exact Part.keepsPath_respond code result body p.keepsPath_refl
  | false =>
    have serves {f : Part → Part} (hf : p.phase = .serving → p.keepsPath (f p)) : p.keepsPath (inService f p) :=
      inService_keeps p.keepsPath_refl hf
    have sending {f : Part → Part} (hf : p.keepsPath (f p)) : p.keepsPath (inService (Part.whenSending f) p) :=
      serves fun _ => (Part.whenSending_keeps p.keepsPath_refl hf)
    cases c <;> first
      | exact (Bool.false_ne_true h.symm).elim
      | exact (Bool.false_ne_true hb.symm).elim
      | exact (Bool.false_ne_true he.symm).elim
      | skip
    case panelRead =>
      show p.keepsPath p.panelRead
      unfold Part.panelRead
      split
      · exact p.keepsPath_refl
      · dsimp only
        split <;> exact p.keepsPath_refl
    case start media colour sides originals copies collated =>
      exact Part.requestWith_keeps (fun _ c r b hq => Part.keepsPath_respond c r b hq) p.keepsPath_refl (by simp [Part.keepsPath])
        (p.startRequest_keepsPath media colour sides originals copies collated)
    case resume => exact Part.request_keepsPath p.resumeRequest_keepsPath
    case endJob => exact Part.request_keepsPath (p.endRequest_keepsPath _)
    case cancel => exact Part.request_keepsPath p.cancelRequest_keepsPath
    case journalRelease upTo => exact Part.request_keepsPath (p.releaseRequest_keepsPath upTo)
    case alertAck flags => exact Part.request_keepsPath p.keepsPath_refl
    case alertEnable flags master => exact Part.request_keepsPath (p.enableRequest_keepsPath flags master)
    case resetStation => exact Part.request_keepsPath p.keepsPath_refl
    case cardIn record => exact serves fun _ => p.cardIn_keepsPath record
    case writeDone serial count => exact serves fun _ => p.cardWritten_keepsPath serial count
    case writeFail serial => exact serves fun _ => p.cardNotWritten_keepsPath serial
    case idleTimeout =>
      refine serves fun _ => ?_
      split
      · exact p.idleEnd_keepsPath
      · exact p.keepsPath_refl
    case holdGone source holdId job =>
      have htaken : p.keepsPath (p.takeGone source holdId job) := by simp [Part.keepsPath]
      exact serves fun _ => htaken
    case holdAsk => exact serves fun _ => Part.takeWhenReady_keepsPath fun _ _ _ => Part.actAsk_keepsPath
    case holdMore => exact serves fun _ => Part.takeWhenReady_keepsPath fun _ _ _ => Part.actMore_keepsPath
    case holdKeep => exact serves fun _ => Part.takeWhenReady_keepsPath fun _ _ _ => Part.actKeep_keepsPath
    case acctPut => exact serves fun _ => Part.takeWhenReady_keepsPath fun _ _ _ => Part.actPut_keepsPath
    case acctTopup => exact serves fun _ => Part.takeWhenReady_keepsPath fun _ _ _ => Part.actTopup_keepsPath
    case acctQuery => exact serves fun _ => Part.takeWhenReady_keepsPath fun _ _ _ => Part.actQuery_keepsPath
    case periodClose => exact serves fun _ => Part.takeWhenReady_keepsPath fun _ _ _ => Part.actClose_keepsPath
    case announce => exact serves fun _ => Part.takeWhenReady_keepsPath fun _ _ _ => Part.actAnnounce_keepsPath
    case settle => exact serves fun _ => p.settle_keepsPath
    case settleAck => exact sending (Part.takeFrame_keepsPath fun _ _ _ => Part.actAck_keepsPath)
    case settleQuickTimerExpiry home => exact sending (by simp [Part.keepsPath])
    case settleSlowTimerExpiry home => exact sending (by simp [Part.keepsPath])
    case sendResult answered => exact serves fun hs => Part.sendResult_keepsPath hs answered
    case frameReceived bytes =>
      show p.keepsPath (if p.serving then p.frameReceived bytes else p.frameUnanswered)
      split
      · next hs => exact Part.frameReceived_keepsPath (by simpa [Part.serving] using hs) bytes
      · exact p.keepsPath_refl
    all_goals exact serves fun _ => by simp [Part.keepsPath]

/-- No command but those of the supply changes a stored record, the configuration or the reset pin itself. -/
theorem Instr.effect_sameKept {c : Instr} (h : Instr.isSupply c = false) (p : Part) : p.sameKept (Instr.effect c p) := by
  cases he : Instr.isEngine c with
  | false => exact (Instr.effect_keepsPath h he p).kept
  | true =>
    have serves {f : Part → Part} (hf : p.sameKept (f p)) : p.sameKept (inService f p) :=
      inService_keeps p.sameKept_refl fun _ => hf
    cases c <;> first
      | exact (Bool.false_ne_true he).elim
      | skip
    case sheetFed media colour sides => exact serves (Part.feedMessage_sameKept media colour sides p)
    case sensorOn sensor => exact serves (Part.sensorMessage_sameKept (fun q x => by simp [Part.sameKept]) sensor p)
    case sensorOff sensor => exact serves (Part.sensorMessage_sameKept (fun q x => by simp [Part.sameKept]) sensor p)
    all_goals exact serves (by simp [Part.sameKept])

/-! ### The commands of the supply, the reset pin, the config line and the store -/

theorem Part.powerOn_frame (p : Part) : p.powerOn.config = p.config ∧ p.powerOn.store.stored = p.store.stored := by
  unfold Part.powerOn
  split
  · simp
  · split <;> simp

theorem Part.assertReset_frame (p : Part) :
    p.assertReset.config = p.config ∧ p.assertReset.store.stored = p.store.stored := by
  unfold Part.assertReset
  cases p.phase <;> simp [Part.beginSoftReset]

theorem Part.loadDone_stored (p : Part) (image : List Word16) : (p.loadDone image).store.stored = p.store.stored := by
  unfold Part.loadDone
  split <;> simp

theorem Part.losePower_frame (p : Part) (programmed : Bool) :
    (p.losePower programmed).config = p.config ∧
      (p.losePower programmed).store.stored = interrupted p.store programmed := ⟨rfl, rfl⟩

theorem Part.writeComplete_config (p : Part) : p.writeComplete.config = p.config := by
  cases hq : p.store.queue with
  | nil => simp [Part.writeComplete, hq]
  | cons post rest =>
    simp only [Part.writeComplete, hq]
    have kept (q : Part) (notes : List Note) :
        (((notes.foldl (fun r note => note.act r) (q.pump pumpFuel)).follow p).setStarting false).config = q.config := by
      have h := ((q.pump_sameBase pumpFuel).trans (Part.notes_sameBase notes _)).kept.trans (Part.follow_sameKept _ p)
      exact h.2.1
    split
    · exact kept _ _
    · exact kept _ _
    all_goals rfl

theorem Instr.effect_stored {c : Instr} (hw : c ≠ .writeComplete) (hl : ∀ b, c ≠ .powerLoss b) (p : Part) :
    (Instr.effect c p).store.stored = p.store.stored := by
  cases hs : Instr.isSupply c with
  | false => exact (Instr.effect_sameKept hs p).2.2
  | true =>
    cases c <;> first
      | exact (Bool.false_ne_true hs).elim
      | skip
    case powerOn => exact p.powerOn_frame.2
    case powerLoss b => exact absurd rfl (hl b)
    case resetPinAssert => exact p.assertReset_frame.2
    case resetPinRelease => rfl
    case configLoadDone image => exact p.loadDone_stored image
    case writeComplete => exact absurd rfl hw

theorem Instr.effect_config {c : Instr} (h : ∀ image, c ≠ .configLoadDone image) (p : Part) :
    (Instr.effect c p).config = p.config := by
  cases hs : Instr.isSupply c with
  | false => exact (Instr.effect_sameKept hs p).2.1
  | true =>
    cases c <;> first
      | exact (Bool.false_ne_true hs).elim
      | skip
    case powerOn => exact p.powerOn_frame.1
    case powerLoss b =>
      show (if p.phase = .off then p else p.losePower b).config = p.config
      split <;> rfl
    case resetPinAssert => exact p.assertReset_frame.1
    case resetPinRelease => rfl
    case configLoadDone image => exact absurd rfl (h image)
    case writeComplete => exact p.writeComplete_config

/-- What follows the effect of a command keeps the reset pin, the configuration and the stored memory. -/
theorem Instr.result_sameKept (c : Instr) (p : Part) : (Instr.effect c p).sameKept (Instr.result c p) := by
  unfold Instr.result
  split
  · exact Part.sameKept_refl _
  · exact p.command_sameKept _

/-- Settles O13: nothing that follows a command touches the store's memory or the configuration, so each command's own effect
decides. -/
theorem storedRecordsAndConfigurationAreKept : Obligations.StoredRecordsAndConfigurationAreKept := by
  refine ⟨fun c s t h hw hl => ?stored, fun c s t h hload => ?config⟩
  case stored =>
    rw [exec_part h]
    exact (Instr.result_sameKept c s.part).2.2.trans (Instr.effect_stored hw hl s.part)
  case config =>
    rw [exec_part h]
    exact (Instr.result_sameKept c s.part).2.1.trans (Instr.effect_config hload s.part)

/-! ### The canonical memory (section 9.1) -/

theorem interrupted_wf {s : Store} (h : s.stored.wf) (programmed : Bool) : (interrupted s programmed).wf := by
  unfold interrupted
  split
  · exact h
  · split
    · exact h.program _
    · exact h

theorem Instr.effect_canonical {c : Instr} {p : Part} (h : p.Canonical) : (Instr.effect c p).Canonical := by
  by_cases hw : c = .writeComplete
  · subst hw
    show p.writeComplete.store.stored.wf
    cases hq : p.store.queue with
    | nil =>
      have hp : p.writeComplete = p := by simp [Part.writeComplete, hq]
      rwa [hp]
    | cons post rest =>
      rw [Part.writeComplete_stored hq]
      exact Ledger.wf.program h post.write
  · by_cases hl : ∃ b, c = .powerLoss b
    · obtain ⟨b, rfl⟩ := hl
      show (if p.phase = .off then p else p.losePower b).Canonical
      split
      · exact h
      · exact interrupted_wf h b
    · have hs := Instr.effect_stored hw (fun b hb => hl ⟨b, hb⟩) p
      unfold Part.Canonical
      rwa [hs]

theorem Instr.result_canonical (c : Instr) (p : Part) (h : p.Canonical) : (Instr.result c p).Canonical := by
  have hk := (Instr.result_sameKept c p).2.2
  unfold Part.Canonical
  rw [hk]
  exact Instr.effect_canonical h

theorem Part.tick_frame (p : Part) : ∃ now, p.tick = { p with now := now } := by
  unfold Part.tick
  split
  · exact ⟨p.now, rfl⟩
  · exact ⟨_, rfl⟩

/-- Settles O6: only a completed write and a loss of supply change the memory, and each programs at most one record. -/
theorem storedMemoryStaysCanonical : Obligations.StoredMemoryStaysCanonical := by
  intro s t hs h
  refine step_keeps (I := Part.Canonical) (fun p hp => ?_) Instr.result_canonical hs h
  obtain ⟨now, hnow⟩ := p.tick_frame
  rw [hnow]
  exact hp

/-! ### The ALERT output (R186) -/

/-- ALERT is driven exactly while the master enable is on and some flag that is set is enabled. -/
theorem Panel.drives_iff (panel : Panel) :
    panel.drives = true ↔
      panel.master = true ∧ ∃ i, i < 8 ∧ panel.flags.getLsbD i = true ∧ panel.enables.getLsbD i = true := by
  have hbits : (panel.flags &&& panel.enables != 0) = true ↔
      ∃ i, i < 8 ∧ panel.flags.getLsbD i = true ∧ panel.enables.getLsbD i = true := by
    rw [bne_iff_ne]
    constructor
    · intro hne
      by_contra hnone
      refine hne (BitVec.eq_of_getLsbD_eq fun i hi => ?_)
      have := fun hf he => hnone ⟨i, hi, hf, he⟩
      cases hf : panel.flags.getLsbD i <;> cases he : panel.enables.getLsbD i <;> simp_all
    · rintro ⟨i, -, hf, he⟩ hzero
      have := congrArg (fun b : Byte => b.getLsbD i) hzero
      simp [hf, he] at this
  unfold Panel.drives
  rw [Bool.and_eq_true, hbits]

theorem Instr.result_alertDecided (c : Instr) (p : Part) (h : p.AlertDecided) : (Instr.result c p).AlertDecided := by
  cases hb : Instr.isBare c with
  | false =>
    rw [Instr.result_event hb]
    rfl
  | true =>
    rw [Instr.result_bare hb]
    rcases Instr.effect_bare hb p with he | ⟨code, result, body, he⟩ <;> rw [he] <;> exact h

/-- Settles O9: every event ends with the decision of ALERT, and the commands that nothing follows leave the flags, the enables and
the output. -/
theorem alertFollowsTheFlags : Obligations.AlertFollowsTheFlags := by
  intro s t hs h
  have ht : t.part.AlertDecided := by
    refine step_keeps (I := Part.AlertDecided) (fun p hp => ?_) Instr.result_alertDecided hs h
    obtain ⟨now, hnow⟩ := p.tick_frame
    rw [hnow]
    exact hp
  rw [ht]
  exact t.part.panel.drives_iff

end Sys2Proof.Machine
end

section
/-! Proofs about the store's lists and reads: how long the write queue grows (R161, R164, R165), and what the newest hold records are
after each kind of post (R163). -/

namespace Sys2Proof.Machine

open Sys2Proof

/-! ### Places of the write queue -/

theorem Store.programming_append_waiting (s : Store) : s.programming ++ s.waiting = s.queue := by
  unfold Store.programming Store.waiting
  split
  · rfl
  · cases s.queue <;> simp

@[simp] theorem replaceWaiting_length (posts : List Post) (w : Write) (notes : List Note) :
    (replaceWaiting posts w notes).length = posts.length := by
  induction posts with
  | nil => rfl
  | cons post rest ih =>
    unfold replaceWaiting
    split <;> simp [ih]

/-- A post lengthens the queue by one, or replaces a waiting post. -/
theorem Store.post_length (s : Store) (w : Write) (notes : List Note) :
    (s.post w notes).queue.length = s.queue.length + (if s.merges w then 0 else 1) := by
  unfold Store.post
  split
  · have h := congrArg List.length s.programming_append_waiting
    simpa using h
  · simp

theorem Store.post_places {s : Store} {w : Write} (h : s.queue.length ≤ Config.queuePlaces) (hp : s.hasPlace w = true)
    (notes : List Note) : (s.post w notes).queue.length ≤ Config.queuePlaces := by
  rw [Store.post_length]
  split
  · exact h
  · next hm =>
    have : s.queue.length < Config.queuePlaces := by simpa [Store.hasPlace, hm] using hp
    exact this

theorem joinPending_places {queue : List Post} (h : queue.length ≤ Config.queuePlaces) (pending : List Write) :
    (joinPending pending queue).1.length ≤ Config.queuePlaces := by
  induction pending generalizing queue with
  | nil => exact h
  | cons w rest ih =>
    unfold joinPending
    split
    · next hl => exact ih (by simpa using hl)
    · exact h

theorem Store.fill_places {s : Store} (h : s.queue.length ≤ Config.queuePlaces) :
    s.fill.queue.length ≤ Config.queuePlaces := joinPending_places h _

theorem Store.postRunning_places {s : Store} (h : s.queue.length ≤ Config.queuePlaces) (w : Write) :
    (s.postRunning w).queue.length ≤ Config.queuePlaces := by
  unfold Store.postRunning
  split
  · next hp => exact Store.post_places h hp []
  · exact h

theorem Store.clearCheckpoint_places {s : Store} (h : s.queue.length ≤ Config.queuePlaces) :
    s.clearCheckpoint.queue.length ≤ Config.queuePlaces := by
  refine Store.fill_places ?_
  have hq := Store.postRunning_places h (.checkpoint none)
  rw [← Store.programming_append_waiting] at hq
  refine le_trans ?_ hq
  simpa using List.length_filter_le _ _

@[simp] theorem Store.post_starting (s : Store) (w : Write) (notes : List Note) :
    (s.post w notes).starting = s.starting := by
  unfold Store.post
  split <;> rfl

@[simp] theorem Store.postRunning_starting (s : Store) (w : Write) : (s.postRunning w).starting = s.starting := by
  unfold Store.postRunning
  split <;> simp

@[simp] theorem Store.fill_starting (s : Store) : s.fill.starting = s.starting := rfl

@[simp] theorem Store.clearCheckpoint_starting (s : Store) : s.clearCheckpoint.starting = s.starting := by
  simp [Store.clearCheckpoint]

/-! ### Pending values (R165) -/

theorem mem_keepPending {pending : List Write} {w v : Write} (h : v ∈ keepPending pending w) : v = w ∨ v ∈ pending := by
  induction pending with
  | nil => simpa [keepPending] using h
  | cons x rest ih =>
    unfold keepPending at h
    split at h
    · rcases List.mem_cons.mp h with h | h <;> simp [h]
    · rcases List.mem_cons.mp h with h | h
      · simp [h]
      · rcases ih h with h | h <;> simp [h]

theorem joinPending_suffix (pending : List Write) (queue : List Post) : (joinPending pending queue).2 <:+ pending := by
  induction pending generalizing queue with
  | nil => exact List.suffix_rfl
  | cons w rest ih =>
    unfold joinPending
    split
    · exact (ih _).trans (List.suffix_cons w rest)
    · exact List.suffix_rfl

/-- Only running records have pending values (R165), of the store alone. -/
def Store.PendingRuns (s : Store) : Prop := ∀ w ∈ s.pending, w.isRunning = true

theorem Store.PendingRuns.fill {s : Store} (h : s.PendingRuns) : s.fill.PendingRuns :=
  fun w hw => h w ((joinPending_suffix s.pending s.queue).mem hw)

theorem Store.PendingRuns.post {s : Store} (h : s.PendingRuns) (w : Write) (notes : List Note) :
    (s.post w notes).PendingRuns := by
  unfold Store.PendingRuns
  rwa [(s.post_frame w notes).2.1]

theorem Store.PendingRuns.postRunning {s : Store} (h : s.PendingRuns) {w : Write} (hw : w.isRunning = true) :
    (s.postRunning w).PendingRuns := by
  unfold Store.postRunning
  split
  · exact h.post w []
  · intro v hv
    rcases mem_keepPending hv with rfl | hv
    · exact hw
    · exact h v hv

theorem Store.PendingRuns.clearCheckpoint {s : Store} (h : s.PendingRuns) : s.clearCheckpoint.PendingRuns := by
  unfold Store.clearCheckpoint
  refine Store.PendingRuns.fill ?_
  exact h.postRunning (w := .checkpoint none) rfl

/-! ### The newest hold records -/

/-- A write of a hold record. -/
def Write.isHold : Write → Bool
  | .hold _ _ => true
  | _ => false

/-- What a write makes of the hold records. -/
def applyHold (t : Table HoldRecord) (w : Write) : Table HoldRecord :=
  match w with
  | .hold slot value => tableSet t slot value
  | _ => t

theorem applyHold_of_not_hold {w : Write} (h : w.isHold = false) (t : Table HoldRecord) : applyHold t w = t := by
  cases w <;> first | rfl | cases h

@[simp] theorem program_holds (l : Ledger) (w : Write) : (program l w).holds = applyHold l.holds w := by
  cases w with
  | counter c n => cases c <;> rfl
  | _ => rfl

theorem foldl_program_holds (ws : List Write) (l : Ledger) :
    (ws.foldl program l).holds = ws.foldl applyHold l.holds := by
  induction ws generalizing l with
  | nil => rfl
  | cons w ws ih => simp [ih]

theorem foldl_applyHold_of_not_hold {ws : List Write} (h : ∀ w ∈ ws, w.isHold = false) (t : Table HoldRecord) :
    ws.foldl applyHold t = t := by
  induction ws generalizing t with
  | nil => rfl
  | cons w ws ih =>
    rw [List.foldl_cons, applyHold_of_not_hold (h w (by simp))]
    exact ih (fun v hv => h v (by simp [hv])) t

theorem Write.not_hold_of_isRunning {w : Write} (h : w.isRunning = true) : w.isHold = false := by
  cases w <;> first | rfl | cases h

/-- The hold records, stored then queued (R163). -/
def Store.queuedHolds (s : Store) : Table HoldRecord := (s.queue.map Post.write).foldl applyHold s.stored.holds

/-- With pending values of running records alone, the newest hold records are the stored ones under the queued writes. -/
theorem Store.PendingRuns.newest_holds {s : Store} (h : s.PendingRuns) : s.newest.holds = s.queuedHolds := by
  unfold Store.newest Store.queuedHolds
  rw [foldl_program_holds, foldl_program_holds]
  exact foldl_applyHold_of_not_hold (fun w hw => Write.not_hold_of_isRunning (h w hw)) _

theorem Write.isHold_of_name_eq {v w : Write} (h : v.name = w.name) : v.isHold = w.isHold := by
  cases v <;> cases w <;> first | rfl | simp [Write.name] at h

theorem foldl_applyHold_replaceWaiting {w : Write} (hw : w.isHold = false) (notes : List Note) (posts : List Post)
    (t : Table HoldRecord) :
    ((replaceWaiting posts w notes).map Post.write).foldl applyHold t = (posts.map Post.write).foldl applyHold t := by
  induction posts generalizing t with
  | nil => rfl
  | cons post rest ih =>
    unfold replaceWaiting
    split
    · next hn =>
      have hp : post.write.isHold = false := (Write.isHold_of_name_eq hn).trans hw
      simp [applyHold_of_not_hold hw, applyHold_of_not_hold hp]
    · simp [ih]

/-- A post of another region leaves the hold records. -/
theorem Store.post_queuedHolds {s : Store} {w : Write} (hw : w.isHold = false) (notes : List Note) :
    (s.post w notes).queuedHolds = s.queuedHolds := by
  unfold Store.post Store.queuedHolds
  split
  · conv_rhs => rw [← s.programming_append_waiting]
    simp [foldl_applyHold_replaceWaiting hw]
  · simp [applyHold_of_not_hold hw]

/-- A post of a hold record joins the tail (R162). -/
theorem Store.post_hold_queue (s : Store) (slot : Nat) (value : Option HoldRecord) (notes : List Note) :
    (s.post (.hold slot value) notes).queue = s.queue ++ [{ write := .hold slot value, notes := notes }] := by
  simp [Store.post, Store.merges, coalesces]

theorem Store.post_hold_queuedHolds (s : Store) (slot : Nat) (value : Option HoldRecord) (notes : List Note) :
    (s.post (.hold slot value) notes).queuedHolds = tableSet s.queuedHolds slot value := by
  unfold Store.queuedHolds
  rw [s.post_hold_queue, (s.post_frame _ _).1]
  simp [applyHold]

theorem Store.fill_queuedHolds {s : Store} (h : s.PendingRuns) : s.fill.queuedHolds = s.queuedHolds := by
  have joined (pending : List Write) (queue : List Post) (hp : ∀ w ∈ pending, w.isHold = false) (t : Table HoldRecord) :
      ((joinPending pending queue).1.map Post.write).foldl applyHold t = (queue.map Post.write).foldl applyHold t := by
    induction pending generalizing queue with
    | nil => rfl
    | cons w rest ih =>
      unfold joinPending
      split
      · rw [ih _ fun v hv => hp v (by simp [hv])]
        simp [applyHold_of_not_hold (hp w (by simp))]
      · rfl
  exact joined _ _ (fun w hw => Write.not_hold_of_isRunning (h w hw)) _

theorem Store.postRunning_queuedHolds {s : Store} {w : Write} (hw : w.isRunning = true) :
    (s.postRunning w).queuedHolds = s.queuedHolds := by
  unfold Store.postRunning
  split
  · exact Store.post_queuedHolds (Write.not_hold_of_isRunning hw) []
  · rfl

theorem setsCheckpoint_not_hold {post : Post} (h : setsCheckpoint post = true) : post.write.isHold = false := by
  unfold setsCheckpoint at h
  split at h
  · next hw => rw [hw]; rfl
  · cases h

theorem foldl_applyHold_filter (posts : List Post) (t : Table HoldRecord) :
    ((posts.filter fun post => !setsCheckpoint post).map Post.write).foldl applyHold t =
      (posts.map Post.write).foldl applyHold t := by
  induction posts generalizing t with
  | nil => rfl
  | cons post rest ih =>
    cases hs : setsCheckpoint post with
    | true => simp [hs, ih, applyHold_of_not_hold (setsCheckpoint_not_hold hs)]
    | false => simp [hs, ih]

theorem Store.clearCheckpoint_queuedHolds {s : Store} (h : s.PendingRuns) :
    s.clearCheckpoint.queuedHolds = s.queuedHolds := by
  have hr : (Write.checkpoint none).isRunning = true := rfl
  unfold Store.clearCheckpoint
  rw [Store.fill_queuedHolds]
  · rw [← Store.postRunning_queuedHolds (s := s) hr]
    unfold Store.queuedHolds
    conv_rhs => rw [← Store.programming_append_waiting]
    simp [foldl_applyHold_filter]
  · exact h.postRunning hr

/-- The completed post's record is read as before (R161, R163). -/
theorem Store.newest_programmed {s : Store} {post : Post} {rest : List Post} (h : s.queue = post :: rest) :
    ({ s with stored := program s.stored post.write, queue := rest } : Store).newest = s.newest := by
  simp [Store.newest, h]

/-! ### The sum of an account's ACTIVE records (R86) -/

/-- What a record adds to an account's held amount. -/
def holdShare (account : Nat) (r : HoldRecord) : Nat := if r.account = account then activeAmount r else 0

/-- The sum of an account's ACTIVE records in a table. -/
def shares (t : Table HoldRecord) (account : Nat) : Nat := (t.map (fun e => holdShare account e.2)).sum

theorem activeHolds_eq (l : Ledger) (account : Nat) : activeHolds l account = shares l.holds account := by
  unfold activeHolds shares
  induction l.holds with
  | nil => rfl
  | cons e t ih =>
    by_cases h : e.2.account = account <;> simp [h, ih, holdShare]

/-- What an optional record adds. -/
def optionShare (account : Nat) (r : Option HoldRecord) : Nat := r.elim 0 (holdShare account)

theorem shares_erase (t : Table HoldRecord) (slot account : Nat) :
    shares (tableErase t slot) account + optionShare account (tableGet t slot) = shares t account := by
  induction t with
  | nil => rfl
  | cons e t ih =>
    obtain ⟨i, w⟩ := e
    by_cases h : slot = i
    · subst h
      simp [tableErase, tableGet, optionShare, shares]
      omega
    · have h' : ¬i = slot := fun hi => h hi.symm
      simp only [tableErase, tableGet, h, h', if_false]
      simp only [shares, List.map_cons, List.sum_cons] at ih ⊢
      omega

theorem shares_put {t : Table HoldRecord} (ht : Rising t) (slot account : Nat) (r : HoldRecord) :
    shares (tablePut t slot r) account + optionShare account (tableGet t slot) = shares t account + holdShare account r := by
  induction t with
  | nil => simp [tablePut, tableGet, optionShare, shares]
  | cons e t ih =>
    obtain ⟨i, w⟩ := e
    obtain ⟨hlt, ht'⟩ := List.pairwise_cons.mp ht
    unfold tablePut
    split
    · next hs =>
      have hnone : tableGet ((i, w) :: t) slot = none := by
        refine tableGet_of_lt fun e he => ?_
        rcases List.mem_cons.mp he with rfl | he
        · exact hs
        · exact Nat.lt_trans hs (hlt e he)
      rw [hnone]
      simp [shares, optionShare]
      omega
    · split
      · next hs =>
        subst hs
        simp [tableGet, optionShare, shares]
        omega
      · next hs =>
        have hne : ¬i = slot := fun h => hs h.symm
        have := ih ht'
        simp only [shares, List.map_cons, List.sum_cons, tableGet, hne, if_false] at this ⊢
        omega

/-- Changing one hold record changes its account's sum by what leaves and what comes. -/
theorem shares_set {t : Table HoldRecord} (ht : Rising t) (slot account : Nat) (value : Option HoldRecord) :
    shares (tableSet t slot value) account + optionShare account (tableGet t slot) =
      shares t account + optionShare account value := by
  cases value with
  | none => exact shares_erase t slot account
  | some r => exact shares_put ht slot account r

theorem optionShare_le_shares (t : Table HoldRecord) (slot account : Nat) :
    optionShare account (tableGet t slot) ≤ shares t account := by
  have := shares_erase t slot account
  omega

/-! ### Counts by number -/

theorem countGet_countSet {t : Table Nat} (ht : Rising t) (k n j : Nat) :
    countGet (countSet t k n) j = if k = j then n else countGet t j := by
  unfold countGet countSet
  split
  · next hn =>
    subst hn
    rw [tableGet_erase ht]
    split <;> rfl
  · rw [tableGet_put]
    split <;> rfl

theorem Rising.countSet {t : Table Nat} (ht : Rising t) (k n : Nat) : Rising (countSet t k n) := by
  unfold Machine.countSet
  split
  · exact ht.erase k
  · exact ht.put k n

/-! ### Deferred slots in use (R124) -/

/-- A deferred slot in use, of the store alone. -/
def Store.inUse (s : Store) (slot : Nat) : Bool :=
  (tableGet s.stored.deferred slot).isSome || s.queue.any (fun post => decide (post.write.name = .deferred slot))

theorem tableGet_isSome_of_mem {α : Type} {t : Table α} {e : Nat × α} (h : e ∈ t) : (tableGet t e.1).isSome = true := by
  induction t with
  | nil => cases h
  | cons x t ih =>
    obtain ⟨i, v⟩ := x
    unfold tableGet
    split
    · rfl
    · next hne =>
      rcases List.mem_cons.mp h with rfl | h
      · exact absurd rfl hne
      · exact ih h

/-- What a write lists in the deferred list was listed before, or is at the slot that it names. -/
theorem mem_deferred_program {l : Ledger} {w : Write} {e : Nat × DeferredEntry} (h : e ∈ (program l w).deferred) :
    e ∈ l.deferred ∨ w.name = .deferred e.1 := by
  cases w with
  | deferred slot value =>
    cases value with
    | none => exact .inl (mem_of_mem_tableErase h)
    | some r =>
      rcases mem_tablePut h with h | h
      · exact .inr (by rw [h]; rfl)
      · exact .inl h
  | counter c n => cases c <;> exact .inl h
  | _ => exact .inl h

theorem mem_deferred_foldl {ws : List Write} {l : Ledger} {e : Nat × DeferredEntry} (h : e ∈ (ws.foldl program l).deferred) :
    e ∈ l.deferred ∨ ∃ w ∈ ws, w.name = .deferred e.1 := by
  induction ws generalizing l with
  | nil => exact .inl h
  | cons w ws ih =>
    rcases ih h with h | ⟨v, hv, hn⟩
    · rcases mem_deferred_program h with h | h
      · exact .inl h
      · exact .inr ⟨w, by simp, h⟩
    · exact .inr ⟨v, by simp [hv], hn⟩

theorem Write.name_ne_deferred_of_isRunning {w : Write} (h : w.isRunning = true) (slot : Nat) : w.name ≠ .deferred slot := by
  cases w with
  | counter c n => cases c <;> simp [Write.name]
  | _ => first | simp [Write.name]; done | cases h

/-- An entry of the newest deferred list stands in a slot in use. -/
theorem Store.PendingRuns.inUse_of_mem {s : Store} (h : s.PendingRuns) {e : Nat × DeferredEntry} (he : e ∈ s.newest.deferred) :
    s.inUse e.1 = true := by
  unfold Store.inUse
  rcases mem_deferred_foldl he with he | ⟨w, hw, hn⟩
  · rcases mem_deferred_foldl he with he | ⟨w, hw, hn⟩
    · simp [tableGet_isSome_of_mem he]
    · obtain ⟨post, hpost, rfl⟩ := List.mem_map.mp hw
      have : s.queue.any (fun post => decide (post.write.name = .deferred e.1)) = true :=
        List.any_eq_true.mpr ⟨post, hpost, by simpa using hn⟩
      simp [this]
  · exact absurd hn (Write.name_ne_deferred_of_isRunning (h w hw) _)

/-- A post of a record is queued. -/
def Store.names (s : Store) (n : RecordName) : Bool := s.queue.any (fun post => decide (post.write.name = n))

theorem replaceWaiting_names (posts : List Post) (w : Write) (notes : List Note) :
    (replaceWaiting posts w notes).map (fun post => post.write.name) = posts.map (fun post => post.write.name) := by
  induction posts with
  | nil => rfl
  | cons post rest ih =>
    unfold replaceWaiting
    split
    · next hn => simp [hn]
    · simp [ih]

theorem any_names (posts : List Post) (n : RecordName) :
    posts.any (fun post => decide (post.write.name = n)) = (posts.map (fun post => post.write.name)).any (fun m => decide (m = n)) := by
  simp [List.any_map, Function.comp_def]

theorem Store.post_names (s : Store) (w : Write) (notes : List Note) (n : RecordName) :
    (s.post w notes).names n = (s.names n || decide (w.name = n)) := by
  unfold Store.names Store.post
  split
  · next hm =>
    have hsplit := s.programming_append_waiting
    have hmem : (s.waiting.any fun post => decide (post.write.name = w.name)) = true := by
      simp only [Store.merges, Bool.and_eq_true] at hm
      exact hm.2
    obtain ⟨post, hpost, hname⟩ := List.any_eq_true.mp hmem
    have hsame : (s.programming ++ replaceWaiting s.waiting w notes).any (fun post => decide (post.write.name = n)) =
        s.queue.any (fun post => decide (post.write.name = n)) := by
      conv_rhs => rw [← hsplit]
      rw [any_names, any_names, List.map_append, List.map_append, replaceWaiting_names]
    show (s.programming ++ replaceWaiting s.waiting w notes).any _ = _
    rw [hsame]
    by_cases hn : w.name = n
    · have : s.queue.any (fun post => decide (post.write.name = n)) = true := by
        refine List.any_eq_true.mpr ⟨post, ?_, ?_⟩
        · rw [← hsplit]
          exact List.mem_append_right _ hpost
        · rw [← hn]
          exact hname
      simp [hn, this]
    · simp [hn]
  · simp

theorem joinPending_names {pending : List Write} {n : RecordName} (h : ∀ w ∈ pending, w.name ≠ n) (queue : List Post) :
    (joinPending pending queue).1.any (fun post => decide (post.write.name = n)) =
      queue.any (fun post => decide (post.write.name = n)) := by
  induction pending generalizing queue with
  | nil => rfl
  | cons w rest ih =>
    unfold joinPending
    split
    · rw [ih fun v hv => h v (by simp [hv])]
      simp [h w (by simp)]
    · rfl

theorem Store.PendingRuns.fill_inUse {s : Store} (h : s.PendingRuns) (slot : Nat) : s.fill.inUse slot = s.inUse slot := by
  unfold Store.inUse
  congr 1
  exact joinPending_names (fun w hw => Write.name_ne_deferred_of_isRunning (h w hw) slot) _

theorem Store.inUse_eq (s : Store) (slot : Nat) :
    s.inUse slot = ((tableGet s.stored.deferred slot).isSome || s.names (.deferred slot)) := rfl

theorem Store.post_inUse (s : Store) (w : Write) (notes : List Note) (slot : Nat) :
    (s.post w notes).inUse slot = (s.inUse slot || decide (w.name = .deferred slot)) := by
  rw [Store.inUse_eq, Store.inUse_eq, s.post_names, (s.post_frame w notes).1, Bool.or_assoc]

theorem Store.postRunning_inUse {s : Store} {w : Write} (hw : w.isRunning = true) (slot : Nat) :
    (s.postRunning w).inUse slot = s.inUse slot := by
  unfold Store.postRunning
  split
  · simp [Store.post_inUse, Write.name_ne_deferred_of_isRunning hw]
  · rfl

theorem Store.PendingRuns.clearCheckpoint_inUse {s : Store} (h : s.PendingRuns) (slot : Nat) :
    s.clearCheckpoint.inUse slot = s.inUse slot := by
  have hr : (Write.checkpoint none).isRunning = true := rfl
  have hfilter (posts : List Post) :
      (posts.filter fun post => !setsCheckpoint post).any (fun post => decide (post.write.name = .deferred slot)) =
        posts.any (fun post => decide (post.write.name = .deferred slot)) := by
    induction posts with
    | nil => rfl
    | cons post rest ih =>
      cases hs : setsCheckpoint post with
      | false => simp [hs, ih]
      | true =>
        have hname : post.write.name ≠ .deferred slot := by
          unfold setsCheckpoint at hs
          split at hs
          · next hw => rw [hw]; simp [Write.name]
          · cases hs
        simp [hs, ih, hname]
  have hqueue (t : Store) (queue : List Post) (ht : t.PendingRuns) : ({ t with queue := queue } : Store).PendingRuns := ht
  unfold Store.clearCheckpoint
  dsimp only
  rw [Store.PendingRuns.fill_inUse (hqueue _ _ (h.postRunning hr))]
  refine Eq.trans ?_ (Store.postRunning_inUse hr slot)
  rw [Store.inUse_eq, Store.inUse_eq]
  congr 1
  unfold Store.names
  conv_rhs => rw [← (s.postRunning (.checkpoint none)).programming_append_waiting]
  simp only [List.any_append, hfilter]

end Sys2Proof.Machine
end

section
/-! What the blocks' operations can do to the part. One relation has a constructor for each operation of the store, the outbound queue and
the reader that they share; two more say what becomes of the deferred slots and of the open job's sums. The invariants over lists and
sums are derived from these. -/

-- One theorem after another: many small theorems elaborated at once need more threads than the check allows.
set_option Elab.async false

namespace Sys2Proof.Machine

open Sys2Proof

/-- PERMIT is released without supply and during start-up (R30). -/
abbrev Part.Released (p : Part) : Prop := p.phase = .off ∨ p.phase = .loading ∨ p.phase = .recovering → p.permit = false

/-- Nothing changes in the store but its waiting work, in the held amounts, or in the lists of the line; the count of returns stays within
its limit (R72); the phase changes by entry into service alone (R192), and PERMIT is not asserted before that. -/
def Part.quietly (p q : Part) : Prop :=
  q.store.stored = p.store.stored ∧ q.store.queue = p.store.queue ∧ q.store.pending = p.store.pending ∧
    q.store.starting = p.store.starting ∧ q.accounts.held = p.accounts.held ∧ q.line.outbound = p.line.outbound ∧
    q.line.inbound = p.line.inbound ∧ q.line.score = p.line.score ∧ (p.card.returns ≤ 7 → q.card.returns ≤ 7) ∧
    (q.phase = p.phase ∨ q.phase = .serving) ∧ (p.Released → q.Released)

/-- What the operations of the blocks do to the part: a part goes to another by any run of these. -/
inductive Part.Goes : Part → Part → Prop
  | quiet {p q : Part} (h : p.quietly q) : Goes p q
  /-- a frame is handed to the line controller (R146) -/
  | send (p : Part) (dest : Nat) (m : Message) : Goes p (p.sendFrame dest m)
  /-- a running record is posted (R165) -/
  | running (p : Part) {w : Write} (h : w.isRunning = true) : Goes p (p.postRunning w)
  /-- a post is made for an owner that may wait (R164) -/
  | post {p q : Part} {w : Write} {notes : List Note} (h : p.tryPost w notes = some q) (hw : w.isHold = false) : Goes p q
  /-- a hold record changes (R86) -/
  | hold {p q : Part} {slot : Nat} {value : Option HoldRecord} {notes : List Note}
      (h : p.changeHold slot value notes = some q) : Goes p q
  /-- the hold table comes into service (R103) -/
  | sums (p : Part) : Goes p p.holdsInService
  /-- the checkpoint is cleared (R162) -/
  | clear (p : Part) : Goes p { p with store := p.store.clearCheckpoint }
  /-- free places go to pending values (R164) -/
  | fill (p : Part) : Goes p p.fill
  /-- frames leave the queues of the line, and the score moves within its limit (R146, R148, R149) -/
  | line (p : Part) (l : Line) (ho : l.outbound.length ≤ p.line.outbound.length)
      (hi : l.inbound.length ≤ p.line.inbound.length ∧ ∀ f ∈ l.inbound, f ∈ p.line.inbound)
      (hs : p.line.score ≤ 255 → l.score ≤ 255) : Goes p (p.withLine l)
  /-- a frame joins the inbound queue (R145) -/
  | hear (p : Part) (source dest : Nat) (m : Message) (h : p.line.inbound.length < Config.queuePlaces)
      (hw : m.inWidth = true) : Goes p (p.queueFrame source dest m)
  | trans {p q r : Part} (h : Goes p q) (k : Goes q r) : Goes p r

namespace Part

@[refl] theorem Goes.refl (p : Part) : p.Goes p := .quiet ⟨rfl, rfl, rfl, rfl, rfl, rfl, rfl, rfl, id, .inl rfl, id⟩

/-- A run of two, its last part first. -/
theorem Goes.after {p q r : Part} (k : q.Goes r) (h : p.Goes q) : p.Goes r := .trans h k

/-- A change outside the store's records, the held amounts and the lists of the line. -/
theorem goes_of_quiet {p q : Part} (hs : q.store = { p.store with work := q.store.work })
    (hh : q.accounts.held = p.accounts.held) (hl : q.line = p.line) (hc : q.card.returns = p.card.returns)
    (ho : (q.phase = p.phase ∨ q.phase = .serving) ∧ (p.Released → q.Released) := by exact ⟨.inl rfl, id⟩) : p.Goes q :=
  .quiet ⟨by rw [hs], by rw [hs], by rw [hs], by rw [hs], hh, by rw [hl], by rw [hl], by rw [hl], by rw [hc]; exact id, ho⟩

/-- PERMIT released keeps it released. -/
theorem released_of_permit {p q : Part} (hp : q.phase = p.phase) (hq : q.permit = false) :
    (q.phase = p.phase ∨ q.phase = .serving) ∧ (p.Released → q.Released) := ⟨.inl hp, fun _ _ => hq⟩

/-- In service PERMIT is free to be decided. -/
theorem released_of_serving {p q : Part} (hq : q.phase = .serving) :
    (q.phase = p.phase ∨ q.phase = .serving) ∧ (p.Released → q.Released) :=
  ⟨.inr hq, fun _ h => by simp [hq] at h⟩

theorem Goes.pendingRuns {p q : Part} (h : p.Goes q) : p.store.PendingRuns → q.store.PendingRuns := by
  induction h with
  | quiet h =>
    obtain ⟨-, -, hpending, -⟩ := h
    unfold Store.PendingRuns
    rw [hpending]
    exact id
  | send p dest m => simp [Store.PendingRuns]
  | running p hw => exact fun hp => hp.postRunning hw
  | post h _ =>
    obtain ⟨-, rfl⟩ := tryPost_eq_some.mp h
    exact fun hp => hp.post _ _
  | hold h =>
    obtain ⟨q, hq, rfl⟩ := Option.map_eq_some_iff.mp h
    obtain ⟨-, rfl⟩ := tryPost_eq_some.mp hq
    simp [Store.PendingRuns]
  | clear p => exact Store.PendingRuns.clearCheckpoint
  | fill p => exact Store.PendingRuns.fill
  | trans _ _ ih ik => exact ik ∘ ih
  | _ => exact id

end Part

/-! ### Deferred slots and the open job (R13, R29, R124) -/

/-- A write of neither a hold record nor a deferred entry. -/
def Write.isOther : Write → Bool
  | .hold _ _ | .deferred _ _ => false
  | _ => true

/-- A step that no operation in service hands out but with a reservation of its own (R125, R190). -/
def Task.isRoutine : Task → Bool
  | .putEntry _ _ _ _ _ _ _ _ _ | .recoverCheckpoint | .enterService => false
  | _ => true

/-- The last step of start-up (R192). -/
def Task.entersService : Task → Bool
  | .enterService => true
  | _ => false

/-- A step that keeps the room of the deferred list, and is not the last of start-up. -/
def Task.isPlain (t : Task) : Bool := t.keepsRoom && !t.entersService

theorem Task.isPlain_of_isRoutine {t : Task} (h : t.isRoutine = true) : t.isPlain = true ∧ t.putsEntry = false := by
  cases t <;> first | exact ⟨rfl, rfl⟩ | cases h

/-- The deferred entries that work is still to write (R125). -/
def entriesIn (work : List Work) : Nat := (work.map (fun w => w.tasks.countP Task.putsEntry)).sum

@[simp] theorem entriesIn_nil : entriesIn [] = 0 := rfl

theorem entriesIn_entry (owner : Owner) (home holdId account job charge impressions : Nat) (forJob reserved : Bool)
    (float : Option Nat) :
    entriesIn [{ owner := owner, tasks := [.putEntry home holdId account job charge impressions forJob reserved float] }] = 1 :=
  rfl

theorem entriesIn_request (owner : Owner) : entriesIn [{ owner := owner, tasks := [.nextRequest] }] = 0 := rfl

@[simp] theorem entriesIn_append (a b : List Work) : entriesIn (a ++ b) = entriesIn a + entriesIn b := by simp [entriesIn]

/-- The reserved slots of the open job and of the cancelled ask (R26, R123). -/
def Part.baseClaims (p : Part) : Nat := p.job.claimsSlot.toNat + p.settlement.cancelled.isSome.toNat

theorem Part.slotClaims_eq (p : Part) : p.slotClaims = p.baseClaims + entriesIn p.store.work := rfl

/-- The work that an operation adds is plain, and a slot is given back or handed to an entry only by who claimed it: what the job and the
cancelled ask claim, with the entries still to be written, stays within the reservations whatever else claims some. -/
def Part.adds (p q : Part) : Prop :=
  ∃ new, q.store.work = p.store.work ++ new ∧ (∀ w ∈ new, ∀ t ∈ w.tasks, t.isPlain = true) ∧
    ∀ x, p.baseClaims + x ≤ p.settlement.reserved →
      q.baseClaims + (entriesIn new + x) ≤ q.settlement.reserved ∧ q.settlement.reserved ≤ p.settlement.reserved

/-- What an operation of a block, or an event of the engine, does: no deferred slot comes into use. -/
structure Part.Moves (p q : Part) : Prop where
  goes : p.Goes q
  used : p.store.PendingRuns → ∀ slot, q.store.inUse slot = p.store.inUse slot
  adds : p.adds q

/-- What an operation of a block does: the path stays, and so do the sums of the open job. -/
structure Part.Steady (p q : Part) : Prop extends p.Moves q where
  path : q.path = p.path
  sums : p.JobSums → q.JobSums

/-- What the sums of a job and its claim to a slot rest on. -/
def Job.core (j : Job) : JobState × Option Funding × Accumulators × Option Nat × Nat × Nat × Option Plan × Nat :=
  (j.state, j.funding, j.acc, j.limit, j.position, j.assigned, j.plan, j.number)

namespace Part

theorem Moves.after {p q r : Part} (k : q.Moves r) (h : p.Moves q) : p.Moves r where
  goes := h.goes.trans k.goes
  used := fun hp slot => (k.used (h.goes.pendingRuns hp) slot).trans (h.used hp slot)
  adds := by
    obtain ⟨a, ha, pa, ra⟩ := h.adds
    obtain ⟨b, hb, pb, rb⟩ := k.adds
    refine ⟨a ++ b, by rw [hb, ha, List.append_assoc], fun w hw => ?_, fun x hx => ?_⟩
    · rcases List.mem_append.mp hw with hw | hw
      · exact pa w hw
      · exact pb w hw
    · obtain ⟨hq, hle⟩ := ra x hx
      obtain ⟨hr, hle'⟩ := rb (entriesIn a + x) hq
      refine ⟨?_, hle'.trans hle⟩
      rw [entriesIn_append]
      omega

theorem Moves.trans {p q r : Part} (h : p.Moves q) (k : q.Moves r) : p.Moves r := k.after h

/-- The slots are all as they were, and so are the claims to them. -/
theorem adds_of_same {p q : Part} (hw : q.store.work = p.store.work) (hc : q.baseClaims = p.baseClaims)
    (hr : q.settlement.reserved = p.settlement.reserved) : p.adds q :=
  ⟨[], by simp [hw], by simp, fun x hx => by rw [hc, hr]; simpa using hx⟩

theorem claimsSlot_congr {j k : Job} (h : j.core = k.core) : j.claimsSlot = k.claimsSlot := by
  simp only [Job.core, Prod.mk.injEq] at h
  obtain ⟨hstate, hfunding, -⟩ := h
  simp [Job.claimsSlot, Job.accountFunded, hstate, hfunding]

theorem baseClaims_congr {p q : Part} (hj : q.job.core = p.job.core)
    (hc : q.settlement.cancelled.isSome = p.settlement.cancelled.isSome) : q.baseClaims = p.baseClaims := by
  unfold baseClaims
  rw [claimsSlot_congr hj, hc]

theorem owned_congr {p q : Part} (hn : q.job.number = p.job.number) (hp : q.path = p.path) : q.owned = p.owned := by
  have : q.owns = p.owns := by
    funext sheet
    simp [owns, hn]
  simp [owned, this, hp]

/-- The sums rest on the job's core and on the path. -/
theorem jobSums_congr {p q : Part} (hj : q.job.core = p.job.core) (hp : q.path = p.path) : q.JobSums ↔ p.JobSums := by
  simp only [Job.core, Prod.mk.injEq] at hj
  obtain ⟨hstate, -, hacc, hlimit, hposition, hassigned, hplan, hnumber⟩ := hj
  unfold JobSums JobWithin Job.amount Job.positions
  rw [owned_congr hnumber hp, hstate, hacc, hlimit, hposition, hassigned, hplan, hp]

/-- The slots, the core of the job, and the work stay. -/
theorem Moves.of_same {p q : Part} (h : p.Goes q)
    (hs : q.store.stored = p.store.stored ∧ q.store.queue = p.store.queue ∧ q.store.work = p.store.work := by
      exact ⟨rfl, rfl, rfl⟩)
    (hj : q.job.claimsSlot = p.job.claimsSlot := by rfl)
    (hr : q.settlement.reserved = p.settlement.reserved ∧
      q.settlement.cancelled.isSome = p.settlement.cancelled.isSome := by exact ⟨rfl, rfl⟩) : p.Moves q where
  goes := h
  used := fun _ slot => by
    obtain ⟨hstored, hqueue, -⟩ := hs
    rw [Store.inUse, Store.inUse, hstored, hqueue]
  adds := adds_of_same hs.2.2 (by unfold baseClaims; rw [hj, hr.2]) hr.1

theorem Steady.of_same {p q : Part} (h : p.Goes q)
    (hs : q.store.stored = p.store.stored ∧ q.store.queue = p.store.queue ∧ q.store.work = p.store.work := by
      exact ⟨rfl, rfl, rfl⟩)
    (hj : q.job.core = p.job.core := by rfl) (hp : q.path = p.path := by rfl)
    (hr : q.settlement.reserved = p.settlement.reserved ∧
      q.settlement.cancelled.isSome = p.settlement.cancelled.isSome := by exact ⟨rfl, rfl⟩) : p.Steady q where
  toMoves := Moves.of_same h hs (claimsSlot_congr hj) hr
  path := hp
  sums := (jobSums_congr hj hp).mpr

@[refl] theorem Moves.refl (p : Part) : p.Moves p := .of_same (.refl p)

@[refl] theorem Steady.refl (p : Part) : p.Steady p := .of_same (.refl p)

/-- A run of two, its last part first. -/
theorem Steady.after {p q r : Part} (k : q.Steady r) (h : p.Steady q) : p.Steady r where
  toMoves := h.toMoves.trans k.toMoves
  path := k.path.trans h.path
  sums := k.sums ∘ h.sums

theorem Steady.trans {p q r : Part} (h : p.Steady q) (k : q.Steady r) : p.Steady r := k.after h

/-- A change outside the store, the held amounts, the line, the path, the job's core and the deferred slots. -/
theorem steady_of_quiet {p q : Part} (hs : q.store = p.store)
    (hh : q.accounts.held = p.accounts.held) (hl : q.line = p.line) (hc : q.card.returns = p.card.returns)
    (ho : (q.phase = p.phase ∨ q.phase = .serving) ∧ (p.Released → q.Released) := by exact ⟨.inl rfl, id⟩)
    (hj : q.job.core = p.job.core := by rfl) (hp : q.path = p.path := by rfl)
    (hr : q.settlement.reserved = p.settlement.reserved ∧
      q.settlement.cancelled.isSome = p.settlement.cancelled.isSome := by exact ⟨rfl, rfl⟩) : p.Steady q :=
  .of_same (goes_of_quiet (by rw [hs]) hh hl hc ho) (by rw [hs]; exact ⟨rfl, rfl, rfl⟩) hj hp hr

/-! ### The operations that the blocks share -/

theorem Steady.send (p : Part) (dest : Nat) (m : Message) : p.Steady (p.sendFrame dest m) :=
  .of_same (.send p dest m) (by simp) (by simp) (by simp) (by simp)

theorem Moves.running (p : Part) {w : Write} (hw : w.isRunning = true) : p.Moves (p.postRunning w) where
  goes := .running p hw
  used := fun _ => Store.postRunning_inUse hw
  adds := adds_of_same (by simp) (baseClaims_congr (by simp) (by simp)) (by simp)

theorem Steady.running (p : Part) {w : Write} (hw : w.isRunning = true) : p.Steady (p.postRunning w) where
  toMoves := .running p hw
  path := by simp
  sums := (jobSums_congr (by simp) (by simp)).mpr

theorem Steady.clear (p : Part) : p.Steady { p with store := p.store.clearCheckpoint } where
  goes := .clear p
  used := Store.PendingRuns.clearCheckpoint_inUse
  adds := adds_of_same (by simp) rfl rfl
  path := rfl
  sums := id

theorem Steady.fill (p : Part) : p.Steady p.fill where
  goes := .fill p
  used := Store.PendingRuns.fill_inUse
  adds := adds_of_same rfl rfl rfl
  path := rfl
  sums := id

/-- A post of a record outside the deferred list, or of an entry of the list. -/
theorem Steady.post {p q : Part} {w : Write} {notes : List Note} (h : p.tryPost w notes = some q) (hw : w.isHold = false)
    (hn : ∀ slot, w.name = .deferred slot → p.store.PendingRuns → p.store.inUse slot = true) : p.Steady q := by
  have hgoes := Goes.post h hw
  obtain ⟨-, rfl⟩ := tryPost_eq_some.mp h
  refine ⟨⟨hgoes, fun hp slot => ?_, adds_of_same (by simp) rfl rfl⟩, rfl, id⟩
  rw [Store.post_inUse]
  by_cases hname : w.name = .deferred slot
  · simp [hn slot hname hp]
  · simp [hname]

theorem Steady.other {p q : Part} {w : Write} {notes : List Note} (h : p.tryPost w notes = some q) (hw : w.isOther = true) :
    p.Steady q := by
  refine Steady.post h ?_ fun slot hn => ?_
  · cases w <;> first | rfl | cases hw
  · cases w with
    | counter c n => cases hn
    | _ => first | cases hw; done | cases hn

/-- A post in the slot of an entry of the list. -/
theorem Steady.entry {p q : Part} {w : Write} {notes : List Note} {number : Nat} {e : Nat × DeferredEntry}
    (h : p.tryPost w notes = some q) (he : findEntry p.ledger number = some e) (hw : w.name = .deferred e.1) : p.Steady q := by
  refine Steady.post h (by cases w <;> first | rfl | cases hw) fun slot hn hp => ?_
  rw [hw] at hn
  cases hn
  exact hp.inUse_of_mem (List.mem_of_find?_eq_some he)

theorem Steady.hold {p q : Part} {slot : Nat} {value : Option HoldRecord} {notes : List Note}
    (h : p.changeHold slot value notes = some q) : p.Steady q := by
  have hgoes := Goes.hold h
  obtain ⟨r, hr, rfl⟩ := Option.map_eq_some_iff.mp h
  obtain ⟨-, rfl⟩ := tryPost_eq_some.mp hr
  refine ⟨⟨hgoes, fun _ k => ?_, adds_of_same (by simp) (baseClaims_congr (by simp) (by simp)) (by simp)⟩, by simp,
    (jobSums_congr (by simp) (by simp)).mpr⟩
  have hk := Store.post_inUse p.store (.hold slot value) notes k
  rw [Store.inUse]
  simpa [Store.inUse, Write.name] using hk

theorem Steady.line (p : Part) (l : Line) (ho : l.outbound.length ≤ p.line.outbound.length)
    (hi : l.inbound.length ≤ p.line.inbound.length ∧ ∀ f ∈ l.inbound, f ∈ p.line.inbound)
    (hs : p.line.score ≤ 255 → l.score ≤ 255) : p.Steady (p.withLine l) := .of_same (.line p l ho hi hs)

theorem Steady.hear (p : Part) (source dest : Nat) (m : Message) (h : p.line.inbound.length < Config.queuePlaces)
    (hw : m.inWidth = true) : p.Steady (p.queueFrame source dest m) := .of_same (.hear p source dest m h hw)

/-- Work handed to an owner. -/
theorem steady_assign (p : Part) (owner : Owner) (tasks : List Task) (h : tasks.all Task.isRoutine = true := by rfl) :
    p.Steady (p.assign owner tasks) where
  goes := goes_of_quiet rfl rfl rfl rfl
  used := fun _ _ => rfl
  adds := by
    have hroutine : ∀ t ∈ tasks, t.isRoutine = true := List.all_eq_true.mp h
    have hnone : tasks.countP Task.putsEntry = 0 :=
      List.countP_eq_zero.mpr fun t ht => by simp [(Task.isPlain_of_isRoutine (hroutine t ht)).2]
    refine ⟨[{ owner := owner, tasks := tasks }], rfl, ?_, fun x hx => ?_⟩
    · simpa using fun t ht => (Task.isPlain_of_isRoutine (hroutine t ht)).1
    · simpa [entriesIn, hnone, baseClaims] using hx
  path := rfl
  sums := id

/-- A change of the job that leaves its core. -/
theorem steady_job (p : Part) (j : Job) (hj : j.core = p.job.core := by rfl) : p.Steady { p with job := j } :=
  steady_of_quiet rfl rfl rfl rfl ⟨.inl rfl, id⟩ hj

theorem steady_withSettlement (p : Part) (u : SettlementUnit)
    (hr : u.reserved = p.settlement.reserved ∧ u.cancelled.isSome = p.settlement.cancelled.isSome := by exact ⟨rfl, rfl⟩) :
    p.Steady (p.withSettlement u) := steady_of_quiet rfl rfl rfl rfl ⟨.inl rfl, id⟩ rfl rfl hr

theorem steady_raise (p : Part) (a : Alert) : p.Steady (p.raise a) := steady_of_quiet rfl rfl rfl rfl

theorem steady_sendCard (p : Part) (m : CardMessage) : p.Steady (p.sendCard m) := steady_of_quiet rfl rfl rfl rfl

theorem steady_expectReturn (p : Part) : p.Steady p.expectReturn :=
  .of_same (.quiet ⟨rfl, rfl, rfl, rfl, rfl, rfl, rfl, rfl, fun _ => Nat.min_le_left _ _, .inl rfl, id⟩)

theorem steady_releaseJournal (p : Part) : p.Steady p.releaseJournal := steady_of_quiet rfl rfl rfl rfl

theorem steady_touchActivity (p : Part) : p.Steady p.touchActivity := p.steady_job _

theorem moves_raiseMeter (p : Part) (index count : Nat) : p.Moves (p.raiseMeter index count) := .running p rfl

/-- The slot of the cancelled ask is given back (R26). -/
theorem steady_giveBack {p : Part} (h : p.settlement.cancelled.isSome = true) :
    p.Steady p.dropCancelled.releaseDeferred where
  goes := goes_of_quiet rfl rfl rfl rfl
  used := fun _ _ => rfl
  adds := ⟨[], by simp [dropCancelled, releaseDeferred], by simp, fun x hx => by
    simp only [baseClaims, h, dropCancelled, releaseDeferred, entriesIn_nil, Bool.toNat_true, Option.isSome_none,
      Bool.toNat_false] at hx ⊢
    omega⟩
  path := rfl
  sums := id

end Part

end Sys2Proof.Machine
end

section
/-! What the operations of the job controller do to the open job's sums, to the deferred slots and to the part's lists (chapters 2 and 4). -/

-- One theorem after another: many small theorems elaborated at once need more threads than the check allows.
set_option Elab.async false

namespace Sys2Proof.Machine

open Sys2Proof

namespace Part

/-! ### The job controller (chapters 2 and 4) -/

/-- A job that has been funded and has not settled keeps to its hold and its plan (R13, R29). -/
theorem jobSums_iff_within {p : Part} (h : p.job.state.takesTopups = true) : p.JobSums ↔ p.JobWithin := by
  unfold JobSums
  cases hs : p.job.state <;> first
    | rfl
    | simp [hs, JobState.takesTopups] at h

/-- A job within its sums stays so in another state, but in READY with a sheet assigned and in JAMMED (R29, R39). -/
theorem JobWithin.of_state {p : Part} (h : p.JobWithin) {st : JobState}
    (hst : st = .running ∨ st = .paused ∨ st = .draining) :
    ({ p with job := { p.job with state := st } } : Part).JobSums := by
  obtain ⟨hcharge, hreserved, hindexed, hassigned, -, -⟩ := h
  have hwithin : ({ p with job := { p.job with state := st } } : Part).JobWithin := by
    refine ⟨hcharge, hreserved, hindexed, hassigned, fun hr => ?_, fun hj => ?_⟩
    · rcases hst with rfl | rfl | rfl <;> cases hr
    · rcases hst with rfl | rfl | rfl <;> cases hj
  refine (jobSums_iff_within ?_).mpr hwithin
  rcases hst with rfl | rfl | rfl <;> rfl

theorem goes_setJobState (p : Part) (st : JobState) : p.Goes (p.setJobState st) := by
  unfold setJobState
  split
  · rfl
  · exact goes_of_quiet rfl rfl rfl rfl

/-- The job's state changes, and nothing of its core besides (R184). -/
theorem setJobState_job (p : Part) (st : JobState) : (p.setJobState st).job = { p.job with state := st } := by
  unfold setJobState
  split
  · next h => rw [← h]
  · rfl

theorem setJobState_store (p : Part) (st : JobState) : (p.setJobState st).store = p.store := by
  unfold setJobState
  split <;> rfl

/-- The job moves to a state in which it keeps its claim and its sums. -/
theorem steady_setJobState {p : Part} {st : JobState}
    (hclaim : ({ p.job with state := st } : Job).claimsSlot = p.job.claimsSlot)
    (hsums : p.JobSums → ({ p with job := { p.job with state := st } } : Part).JobSums) : p.Steady (p.setJobState st) := by
  have hjob := p.setJobState_job st
  have hpath : (p.setJobState st).path = p.path := by simp
  refine ⟨.of_same (p.goes_setJobState st) (by rw [setJobState_store]; exact ⟨rfl, rfl, rfl⟩) (by rw [hjob, hclaim]) (by simp),
    hpath, fun h => ?_⟩
  exact (jobSums_congr (p := { p with job := { p.job with state := st } }) (by rw [hjob]) hpath).mpr (hsums h)

/-- A funded job claims a slot by its funding (R123). -/
theorem claimsSlot_of_takesTopups {j : Job} (h : j.state.takesTopups = true) :
    j.claimsSlot = (j.accountFunded || j.funding == some .float) := by
  have hne : j.state ≠ .authorize := by
    intro ha
    rw [ha] at h
    cases h
  simp [Job.claimsSlot, h, hne]

/-- A funded job goes on in RUNNING, PAUSED or DRAINING. -/
theorem steady_setJobState_of_funded {p : Part} {st : JobState} (h : p.job.state.takesTopups = true)
    (hst : st = .running ∨ st = .paused ∨ st = .draining) : p.Steady (p.setJobState st) := by
  refine steady_setJobState ?_ fun hs => ((jobSums_iff_within h).mp hs).of_state hst
  rw [claimsSlot_of_takesTopups h, claimsSlot_of_takesTopups (by rcases hst with rfl | rfl | rfl <;> rfl)]
  rfl

theorem moves_postCheckpoint (p : Part) : p.Moves p.postCheckpoint := by
  unfold postCheckpoint
  split
  · rfl
  · exact .running p rfl

theorem steady_postCheckpoint (p : Part) : p.Steady p.postCheckpoint := by
  unfold postCheckpoint
  split
  · rfl
  · exact .running p rfl

theorem steady_armKeep (p : Part) : p.Steady p.armKeep := by
  unfold armKeep
  split
  · exact p.steady_job _
  · rfl

/-- An asking job has no charge and no sheet, and keeps to any hold (R24). -/
theorem steady_readyFromAsk {p : Part} (h : p.job.state = .authorize) : p.Steady (p.setJobState .ready) where
  goes := p.goes_setJobState _
  used := fun _ _ => by rw [setJobState_store]
  adds := by
    refine ⟨[], by rw [setJobState_store]; simp, by simp, fun x hx => ?_⟩
    have hclaim : p.job.claimsSlot = true := by simp [Job.claimsSlot, h]
    have hle : (p.setJobState .ready).job.claimsSlot.toNat ≤ 1 := Bool.toNat_le _
    simp only [baseClaims, hclaim, Bool.toNat_true, setJobState_frame, entriesIn_nil] at hx ⊢
    omega
  path := by simp
  sums := by
    intro hs
    unfold JobSums at hs
    rw [h] at hs
    obtain ⟨hacc, hposition, hassigned, howned⟩ := hs
    have hjob := p.setJobState_job .ready
    have howned' : (p.setJobState .ready).owned = [] := by
      exact (owned_congr (p := p) (by rw [hjob]) (by simp)).trans howned
    rw [jobSums_iff_within (by rw [hjob]; rfl)]
    unfold JobWithin
    rw [howned', hjob]
    simp [hacc, hposition, hassigned]

theorem steady_enterReady {p : Part} (h : p.job.state = .authorize) : p.Steady p.enterReady := by
  have hready : ({ p with job := { p.job with askDue := none, askFrame := none } } : Part).Steady
      (({ p with job := { p.job with askDue := none, askFrame := none } } : Part).setJobState .ready) := steady_readyFromAsk h
  exact ((((p.steady_job _).trans hready).trans (steady_touchActivity _)).trans (steady_armKeep _)).trans
    (steady_postCheckpoint _)

theorem steady_askAttempt (p : Part) : p.Steady p.askAttempt := (Steady.send p _ _).trans (steady_job _ _)

theorem steady_topupAttempt (p : Part) : p.Steady p.topupAttempt := (Steady.send p _ _).trans (steady_job _ _)

/-- The record is cleared: its claim goes, and it has no sums (R20). -/
theorem steady_clearJob (p : Part) : p.Steady p.clearJob where
  goes := goes_of_quiet rfl rfl rfl rfl
  used := fun _ _ => rfl
  adds := ⟨[], by simp [clearJob, raise], by simp, fun x hx => by
    have hclaim : p.clearJob.job.claimsSlot = false := rfl
    have hset : p.clearJob.settlement = p.settlement := rfl
    simp only [baseClaims, hclaim, hset, Bool.toNat_false, entriesIn_nil] at hx ⊢
    omega⟩
  path := rfl
  sums := fun _ => trivial

/-- The slot of an asking job is given back with the record (R23). -/
theorem steady_denyJob {p : Part} (h : p.job.state = .authorize) (r : Reject) : p.Steady (p.denyJob r) where
  goes := goes_of_quiet rfl rfl rfl rfl
  used := fun _ _ => rfl
  adds := ⟨[], by simp [denyJob], by simp, fun x hx => by
    have hclaim : p.job.claimsSlot = true := by simp [Job.claimsSlot, h]
    have hcleared : (p.denyJob r).job.claimsSlot = false := rfl
    have hset : (p.denyJob r).settlement = { p.settlement with reserved := p.settlement.reserved - 1 } := rfl
    simp only [baseClaims, hclaim, hcleared, hset, Bool.toNat_false, Bool.toNat_true, entriesIn_nil] at hx ⊢
    omega⟩
  path := rfl
  sums := fun _ => trivial

/-- What an asking job is given leaves its sums: it has none yet (R24). -/
theorem steady_askingJob {p : Part} (h : p.job.state = .authorize) (j : Job)
    (hj : (j.state, j.acc, j.position, j.assigned, j.number) =
      (p.job.state, p.job.acc, p.job.position, p.job.assigned, p.job.number) := by rfl) :
    p.Steady { p with job := j } := by
  simp only [Prod.mk.injEq] at hj
  obtain ⟨hstate, hacc, hposition, hassigned, hnumber⟩ := hj
  refine ⟨.of_same (goes_of_quiet rfl rfl rfl rfl) ⟨rfl, rfl, rfl⟩ ?_, rfl, ?_⟩
  · simp [Job.claimsSlot, hstate, h]
  · have howned : ({ p with job := j } : Part).owned = p.owned := owned_congr hnumber rfl
    unfold JobSums
    simp only [howned, hstate, h, hacc, hposition, hassigned]
    exact id

theorem steady_floatDecision {p : Part} (h : p.job.state = .authorize) : p.Steady p.floatDecision := by
  unfold floatDecision
  dsimp only
  split
  · refine Steady.after (steady_enterReady h) ?_
    exact (steady_askingJob h
      { p.job with funding := some .float, limit := some p.floatGrant, cls := 0, holdId := none, lifetime := none }).trans
      (steady_withSettlement _ _)
  · exact steady_denyJob h _

theorem steady_askAttemptEnded {p : Part} (h : p.job.state = .authorize) : p.Steady p.askAttemptEnded := by
  unfold askAttemptEnded
  split
  · exact p.steady_askAttempt
  · exact steady_floatDecision h

theorem steady_topupLocal (p : Part) : p.Steady p.topupLocal := (p.steady_job _).trans (steady_assign _ _ _)

theorem steady_exhaust (p : Part) (cause : FundsCause) : p.Steady (p.exhaust cause) := (p.steady_job _).trans (steady_raise _ _)

theorem steady_topupDenied (p : Part) : p.Steady p.topupDenied := (p.steady_job _).trans (steady_exhaust _ _)

theorem steady_topupAttemptEnded (p : Part) : p.Steady p.topupAttemptEnded := by
  unfold topupAttemptEnded
  split
  · exact p.steady_topupAttempt
  · exact p.steady_topupDenied

theorem steady_reactFunds (p : Part) : p.Steady p.reactFunds := by
  unfold reactFunds
  split_ifs
  · exact p.steady_topupAttempt
  · exact p.steady_topupLocal
  · exact p.steady_exhaust _
  · rfl

theorem steady_completeHandOff (p : Part) (status : JournalStatus) : p.Steady (p.completeHandOff status) := p.steady_assign _ _

theorem steady_closeSession (p : Part) (status : JournalStatus) : p.Steady (p.closeSession status) := by
  unfold closeSession
  dsimp only
  have closed (q : Part) : q.Steady { q.completeHandOff status with
      card := { (q.completeHandOff status).card with session := .closed } } :=
    (q.steady_completeHandOff status).trans (steady_of_quiet rfl rfl rfl rfl)
  split
  · exact ((p.steady_sendCard _).trans (steady_expectReturn _)).trans (closed _)
  · exact (p.steady_sendCard _).trans (closed _)

theorem steady_handOffCard (p : Part) (charge : Nat) : p.Steady (p.handOffCard charge) := by
  unfold handOffCard
  split
  · split
    · exact p.steady_closeSession _
    · exact .after (steady_sendCard _ _) (steady_of_quiet rfl rfl rfl rfl)
  · exact p.steady_closeSession _

theorem steady_requestSettlement (p : Part) (s : Settlement) : p.Steady (p.requestSettlement s) :=
  .after (steady_assign _ _ _) (steady_of_quiet rfl rfl rfl rfl)

/-- A part whose open job settles, before its charge is handed off (R43). -/
def stopJob (p : Part) (charge : Nat) : Part :=
  ({ p with
      permit := false
      job := { p.job.clearTopup with keepDue := none, runOutDue := none, charge := some charge } }).setJobState .settling

theorem enterSettling_eq (p : Part) : p.enterSettling = (p.stopJob p.jobCharge).handOff p.jobCharge := rfl

theorem goes_stopJob (p : Part) (charge : Nat) : p.Goes (p.stopJob charge) :=
  .after (goes_setJobState _ _) (goes_of_quiet rfl rfl rfl rfl (released_of_permit rfl rfl))

theorem stopJob_frame (p : Part) (charge : Nat) :
    (p.stopJob charge).store = p.store ∧ (p.stopJob charge).settlement = p.settlement ∧
      (p.stopJob charge).job.state = .settling ∧ (p.stopJob charge).job.funding = p.job.funding ∧
      (p.stopJob charge).path = p.path := by
  unfold stopJob
  rw [setJobState_job, setJobState_store]
  simp [Job.clearTopup]

theorem goes_handOff (p : Part) (charge : Nat) : p.Goes (p.handOff charge) := by
  unfold handOff
  dsimp only
  split
  · exact .after (steady_requestSettlement _ _).goes (goes_of_quiet rfl rfl rfl rfl)
  · exact goes_of_quiet rfl rfl rfl rfl
  · exact goes_of_quiet rfl rfl rfl rfl
  · exact (p.steady_handOffCard _).goes

theorem handOff_used (p : Part) (charge : Nat) : p.store.PendingRuns → ∀ slot, (p.handOff charge).store.inUse slot = p.store.inUse slot := by
  unfold handOff
  dsimp only
  split
  · exact fun _ _ => rfl
  · exact fun _ _ => rfl
  · exact fun _ _ => rfl
  · exact (p.steady_handOffCard _).used

/-- The hand-off of a job that has stopped uses the slot that the job had claimed, and no more (R123, R125). -/
theorem handOff_adds {p q : Part} (charge : Nat) (hq : q.job.state.takesTopups = true) (hs : p.job.state = .settling)
    (hf : p.job.funding = q.job.funding) (hstore : p.store = q.store) (hset : p.settlement = q.settlement) :
    q.adds (p.handOff charge) := by
  have hnone : p.job.claimsSlot = false := by simp [Job.claimsSlot, hs, JobState.takesTopups]
  unfold handOff adds
  dsimp only
  rw [← hstore]
  split
  · next h =>
    have hclaim : q.job.claimsSlot = true := by simp [Job.claimsSlot, Job.accountFunded, hq, ← hf, h]
    refine ⟨_, rfl, by simp [Task.isPlain, Task.keepsRoom, Task.entersService], fun x hx => ?_⟩
    have hkept (u : Part) (s : Settlement) : (u.requestSettlement s).job = u.job ∧
        (u.requestSettlement s).settlement.cancelled = u.settlement.cancelled ∧
        (u.requestSettlement s).settlement.reserved = u.settlement.reserved := ⟨rfl, rfl, rfl⟩
    simp only [baseClaims, hclaim, hkept, releaseDeferred, hnone, hset, Bool.toNat_true, Bool.toNat_false, entriesIn_request]
      at hx ⊢
    omega
  · next h =>
    have hclaim : q.job.claimsSlot = true := by simp [Job.claimsSlot, Job.accountFunded, hq, ← hf, h]
    refine ⟨_, rfl, by simp [Task.isPlain, Task.keepsRoom, Task.entersService], fun x hx => ?_⟩
    simp only [baseClaims, hclaim, hnone, hset, assign, Bool.toNat_true, Bool.toNat_false, entriesIn_entry] at hx ⊢
    omega
  · next h =>
    have hclaim : q.job.claimsSlot = true := by simp [Job.claimsSlot, Job.accountFunded, hq, ← hf, h]
    refine ⟨_, rfl, by simp [Task.isPlain, Task.keepsRoom, Task.entersService], fun x hx => ?_⟩
    simp only [baseClaims, hclaim, hnone, hset, assign, Bool.toNat_true, Bool.toNat_false, entriesIn_entry] at hx ⊢
    omega
  · obtain ⟨new, hwork, hplain, hroom⟩ := (p.steady_handOffCard charge).adds
    refine ⟨new, hwork, hplain, fun x hx => ?_⟩
    rw [← hset] at hx ⊢
    refine hroom x ?_
    simp only [baseClaims, hnone, Bool.toNat_false, hset] at hx ⊢
    omega

theorem handOff_frame' (p : Part) (charge : Nat) : (p.handOff charge).job.state = p.job.state ∧ (p.handOff charge).path = p.path := by
  simp

/-- A funded job settles: its reservation goes with its charge, and it has no more sums (R43). -/
theorem steady_enterSettling {p : Part} (h : p.job.state.takesTopups = true) : p.Steady p.enterSettling := by
  obtain ⟨hstore, hset, hstate, hfunding, hpath⟩ := p.stopJob_frame p.jobCharge
  rw [enterSettling_eq]
  refine ⟨⟨(p.goes_stopJob _).trans (goes_handOff _ _), fun hp slot => ?_, handOff_adds _ h hstate hfunding hstore hset⟩, ?_, ?_⟩
  · rw [handOff_used _ _ (by rwa [hstore]), hstore]
  · simpa using hpath
  · intro _
    unfold JobSums
    have hsettling : ((p.stopJob p.jobCharge).handOff p.jobCharge).job.state = .settling := by simpa using hstate
    rw [hsettling]
    trivial

theorem steady_endJob {p : Part} (h : p.job.state.takesTopups = true) (r : EndReason) : p.Steady (p.endJob r) := by
  have hended : p.Steady { p with job := p.job.endWith r } := p.steady_job _
  unfold endJob
  dsimp only
  split
  · exact hended.trans (steady_enterSettling h)
  · exact (hended.trans (steady_job _ _)).trans (steady_setJobState_of_funded h (.inr (.inr rfl)))

theorem steady_markDrain (p : Part) (r : EndReason) : p.Steady (p.markDrain r) := p.steady_job _

theorem steady_reactRunOut (p : Part) : p.Steady p.reactRunOut := by
  rw [reactRunOut_eq]
  exact p.steady_job _

theorem steady_reactDrain (p : Part) : p.Steady p.reactDrain := by
  unfold reactDrain
  split
  · next h => exact steady_enterSettling (by rw [h.1]; rfl)
  · rfl

theorem steady_react (p : Part) : p.Steady p.react := by
  unfold react
  split
  · next hs =>
    have hserving : p.phase = .serving := by simpa [serving] using hs
    refine ((p.steady_reactDrain.trans (steady_reactFunds _)).trans (steady_reactRunOut _)).trans ?_
    exact steady_of_quiet rfl rfl rfl rfl (released_of_serving (by simpa using hserving))
  · rfl

theorem takesTopups_of_idleReached {p : Part} (h : p.idleReached = true) : p.job.state.takesTopups = true := by
  simp only [idleReached, Bool.and_eq_true, Bool.or_eq_true, decide_eq_true_eq] at h
  obtain ⟨⟨(hs | hs) | hs, -⟩, -⟩ := h <;> rw [hs] <;> rfl

theorem steady_idleEnd {p : Part} (h : p.idleReached = true) : p.Steady p.idleEnd :=
  (p.steady_job (p.job.endWith .idleTimeout)).trans (steady_enterSettling (takesTopups_of_idleReached h))

/-- A hold at least as great as what has been charged and reserved takes the place of a READY job's (R27). -/
theorem steady_adopt {p : Part} {amount : Nat} (hr : p.job.state = .ready) (hf : p.job.funding = some .float)
    (hroom : p.job.acc.gross + p.job.acc.reserved ≤ 1000 * min amount Config.maxHold) (holdId cls lifetime : Nat) :
    p.Steady (p.adopt holdId amount cls lifetime) := by
  have htaken : p.Steady
      { p with job := { p.job.takeHold holdId amount cls lifetime with funding := some .accountRemote } } := by
    refine ⟨.of_same (goes_of_quiet rfl rfl rfl rfl) ⟨rfl, rfl, rfl⟩ ?_, rfl, fun hs => ?_⟩
    · simp [Job.claimsSlot, Job.accountFunded, Job.takeHold, hr, hf, JobState.takesTopups]
    · obtain ⟨-, hreserved, hindexed, hassigned, hready, hjammed⟩ := (jobSums_iff_within (by rw [hr]; rfl)).mp hs
      exact (jobSums_iff_within (by simp [Job.takeHold, hr, JobState.takesTopups])).mpr
        ⟨hroom, hreserved, hindexed, hassigned, hready, hjammed⟩
  unfold adopt
  exact .after (steady_postCheckpoint _) (.after (steady_armKeep _) (htaken.trans (steady_withSettlement _ _)))

/-- A greater hold keeps what a smaller one kept (R32). -/
theorem steady_raisedLimit {p : Part} (j : Job) (hle : p.job.amount ≤ j.amount)
    (hj : (j.state, j.funding, j.acc, j.position, j.assigned, j.plan, j.number) =
      (p.job.state, p.job.funding, p.job.acc, p.job.position, p.job.assigned, p.job.plan, p.job.number) := by rfl) :
    p.Steady { p with job := j } := by
  simp only [Prod.mk.injEq] at hj
  obtain ⟨hstate, hfunding, hacc, hposition, hassigned, hplan, hnumber⟩ := hj
  have howned : ({ p with job := j } : Part).owned = p.owned := owned_congr hnumber rfl
  have hpositions : j.positions = p.job.positions := by simp [Job.positions, hplan]
  have hwithin : p.JobWithin → ({ p with job := j } : Part).JobWithin := by
    rintro ⟨hcharge, hrest⟩
    unfold JobWithin
    rw [howned, hstate, hacc, hposition, hassigned, hpositions]
    exact ⟨hcharge.trans (Nat.mul_le_mul_left _ hle), hrest⟩
  refine ⟨.of_same (goes_of_quiet rfl rfl rfl rfl) ⟨rfl, rfl, rfl⟩ ?_, rfl, fun hs => ?_⟩
  · simp [Job.claimsSlot, Job.accountFunded, hstate, hfunding]
  · unfold JobSums at hs ⊢
    dsimp only
    rw [hstate, howned, hacc, hposition, hassigned]
    split at hs <;> first | exact hs | exact hwithin hs

theorem steady_topupGranted (p : Part) (amount : Nat) : p.Steady (p.topupGranted amount) :=
  .after (steady_postCheckpoint _)
    (steady_raisedLimit { p.job.clearTopup with limit := some (max p.job.amount (min amount Config.maxHold)) } (le_max_left _ _))

theorem steady_jobGive (p : Part) (holdId amount cls lifetime : Nat) : p.Steady (p.jobGive holdId amount cls lifetime) := by
  unfold jobGive
  dsimp only
  split
  · next hf =>
    split
    · next h => exact steady_adopt h.1 hf h.2.2 _ _ _
    · rfl
  · rfl
  · rfl
  · split_ifs with ha
    · exact (steady_askingJob ha (p.job.takeHold holdId amount cls lifetime)).trans (steady_enterReady ha)
    · rfl
    · exact p.steady_topupGranted _
    · rfl

theorem steady_jobDeny (p : Part) (reason : Nat) : p.Steady (p.jobDeny reason) := by
  unfold jobDeny
  split_ifs with ha
  · exact steady_denyJob ha _
  · exact p.steady_topupDenied
  · rfl

theorem steady_jobGone (p : Part) (holdId : Nat) : p.Steady (p.jobGone holdId) := by
  have lost : p.Steady (({ p with job := p.job.clearTopup } : Part).exhaust .holdLost) :=
    (p.steady_job _).trans (steady_exhaust _ _)
  unfold jobGone
  split
  · rfl
  · dsimp only
    split
    · next h => exact lost.trans (steady_endJob (by show p.job.state.takesTopups = true; rw [h]; rfl) _)
    · next h => exact lost.trans (steady_endJob (by show p.job.state.takesTopups = true; rw [h]; rfl) _)
    · next h => exact lost.trans (steady_endJob (by show p.job.state.takesTopups = true; rw [h]; rfl) _)
    · exact lost.trans (steady_markDrain _ _)
    · exact lost.trans (steady_job _ _)
    all_goals rfl

/-- The cancelled ask's slot goes to the entry that its grant brings about (R26). -/
theorem steady_cancelledEntry {p : Part} (h : p.settlement.cancelled.isSome = true)
    (home holdId account job : Nat) :
    p.Steady (p.dropCancelled.assign .settlement [.putEntry home holdId account job 0 0 false true none]) where
  goes := goes_of_quiet rfl rfl rfl rfl
  used := fun _ _ => rfl
  adds := by
    refine ⟨_, rfl, by simp [Task.isPlain, Task.keepsRoom, Task.entersService], fun x hx => ?_⟩
    simp only [baseClaims, h, dropCancelled, assign, entriesIn_entry, Bool.toNat_true, Bool.toNat_false, Option.isSome_none] at hx ⊢
    omega
  path := rfl
  sums := id

theorem steady_cancelledGive (p : Part) (source holdId job : Nat) : p.Steady (p.cancelledGive source holdId job) := by
  unfold cancelledGive
  split
  · rfl
  · next c hc =>
    split
    · exact p.steady_requestSettlement _
    · exact steady_cancelledEntry (by rw [hc]; rfl) _ _ _ _

theorem cancelled_of_answers {p : Part} {source job : Nat} (h : p.answersCancelled source job = true) :
    p.settlement.cancelled.isSome = true := by
  unfold answersCancelled at h
  split at h
  · cases h
  · next c hc => rw [hc]; rfl

theorem steady_takeGive (p : Part) (source holdId job amount cls lifetime : Nat) :
    p.Steady (p.takeGive source holdId job amount cls lifetime) := by
  unfold takeGive
  split_ifs
  · exact p.steady_jobGive _ _ _ _
  · exact p.steady_cancelledGive _ _ _
  · rfl

theorem steady_takeDeny (p : Part) (source job reason : Nat) : p.Steady (p.takeDeny source job reason) := by
  unfold takeDeny
  split_ifs with _ hc
  · exact p.steady_jobDeny _
  · exact steady_giveBack (cancelled_of_answers hc)
  · rfl

theorem steady_takeGone (p : Part) (source holdId job : Nat) : p.Steady (p.takeGone source holdId job) := by
  unfold takeGone
  split
  · exact p.steady_jobGone _
  · rfl

theorem steady_sendFailed (p : Part) (ticket : Nat) : p.Steady (p.sendFailed ticket) := by
  unfold sendFailed
  split_ifs with ha
  · exact steady_askAttemptEnded ha.1
  · exact p.steady_topupAttemptEnded
  · split
    · rfl
    · next c hc =>
      split
      · exact steady_giveBack (by rw [hc]; rfl)
      · rfl

/-- The reservation of an asking job passes to its cancelled ask, in the place of an older one (R26). -/
theorem steady_cancelAsk {p : Part} (h : p.job.state = .authorize) : p.Steady p.cancelAsk := by
  refine ⟨⟨?_, ?_, ?_⟩, ?_, fun _ => ?_⟩
  all_goals
    unfold cancelAsk
    dsimp only
  · split <;> exact goes_of_quiet rfl rfl rfl rfl
  · split <;> exact fun _ _ => rfl
  · have hclaim : p.job.claimsSlot = true := by simp [Job.claimsSlot, h]
    have hcleared (q : Part) : q.clearJob.job.claimsSlot = false := rfl
    refine ⟨[], by split <;> simp, by simp, fun x hx => ?_⟩
    split
    · next hold =>
      simp only [baseClaims, hclaim, hcleared, hold, clearJob_frame, releaseJournal, releaseDeferred, entriesIn_nil,
        Bool.toNat_true, Bool.toNat_false, Option.isSome_some] at hx ⊢
      omega
    · next hold =>
      simp only [baseClaims, hclaim, hcleared, clearJob_frame, releaseJournal, entriesIn_nil, Bool.toNat_true, Bool.toNat_false,
        Option.isSome_some] at hx ⊢
      omega
  · split <;> rfl
  · exact trivial

end Part

end Sys2Proof.Machine
end

section
/-! What the operations of the hold table, the account table, the settlement unit and start-up do (chapters 5 to 7 and 11). -/

-- One theorem after another: many small theorems elaborated at once need more threads than the check allows.
set_option Elab.async false

namespace Sys2Proof.Machine

open Sys2Proof

namespace Part

/-! ### The hold table and the account table (chapters 5 and 6) -/

theorem steady_handJournal (p : Part) (body : JournalBody) : p.Steady (p.handJournal body).1 := by
  unfold handJournal
  split
  · exact steady_of_quiet rfl rfl rfl rfl
  · rfl

theorem steady_answerDeny (p : Part) (source job : Nat) (r : DenyReason) : p.Steady (p.answerDeny source job r) := by
  unfold answerDeny
  split
  · exact p.steady_takeDeny _ _ _
  · exact .send p _ _

theorem steady_answerGone (p : Part) (source holdId job : Nat) : p.Steady (p.answerGone source holdId job) := by
  unfold answerGone
  split
  · exact p.steady_takeGone _ _ _
  · exact .send p _ _

theorem steady_answerGive (p : Part) (source slot holdId job : Nat) : p.Steady (p.answerGive source slot holdId job) := by
  unfold answerGive
  split
  · rfl
  · split_ifs
    · rfl
    · exact p.steady_takeGive _ _ _ _ _ _
    · exact .send p _ _

theorem steady_decideAsk (p : Part) (source account job wanted : Nat) : p.Steady (p.decideAsk source account job wanted).1 := by
  unfold decideAsk
  split
  · exact p.steady_answerDeny _ _ _
  · dsimp only
    split_ifs
    · exact p.steady_answerDeny _ _ _
    · exact p.steady_answerDeny _ _ _
    · rfl
    · split
      · exact p.steady_answerDeny _ _ _
      · rfl

theorem steady_takeAsk (p : Part) (source account job wanted : Nat) : p.Steady (p.takeAsk source account job wanted).1 := by
  unfold takeAsk
  split
  · rfl
  · split
    · dsimp only
      split
      · rfl
      · exact p.steady_answerGive _ _ _ _
    · exact p.steady_decideAsk _ _ _ _

theorem steady_makeHold (p : Part) (source account job grant : Nat) : p.Steady (p.makeHold source account job grant).1 := by
  unfold makeHold
  split <;> rfl

theorem steady_decideMore (p : Part) (source increment slot spare : Nat) (r : HoldRecord) (restored : Bool) :
    p.Steady (p.decideMore source increment slot spare r restored).1 := by
  unfold decideMore
  dsimp only
  split
  · exact p.steady_answerDeny _ _ _
  · split
    · exact p.steady_answerDeny _ _ _
    · rfl

theorem steady_takeMore (p : Part) (source holdId job increment : Nat) : p.Steady (p.takeMore source holdId job increment).1 := by
  unfold takeMore
  split
  · rfl
  · split
    · exact p.steady_answerGone _ _ _
    · dsimp only
      split
      · exact p.steady_decideMore _ _ _ _ _ _
      · exact p.steady_answerGone _ _ _
      · split
        · exact p.steady_decideMore _ _ _ _ _ _
        · exact p.steady_answerGone _ _ _

theorem steady_takeKeep (p : Part) (source holdId job : Nat) : p.Steady (p.takeKeep source holdId job).1 := by
  unfold takeKeep
  split
  · rfl
  · split
    · exact p.steady_answerGone _ _ _
    · split
      · rfl
      · exact p.steady_answerGone _ _ _
      · split
        · rfl
        · exact p.steady_answerGone _ _ _

theorem steady_answerOffice (p : Part) (dest account : Nat) (result : AccountResult) :
    p.Steady (p.answerOffice dest account result) := by
  unfold answerOffice
  split
  · exact .send p _ _
  · split <;> exact .send p _ _

theorem steady_takePut (p : Part) (source account kind cls state value : Nat) :
    p.Steady (p.takePut source account kind cls state value).1 := by
  unfold takePut
  split
  · exact p.steady_answerOffice _ _ _
  · split
    · split
      · exact p.steady_answerOffice _ _ _
      · split
        · exact p.steady_answerOffice _ _ _
        · rfl
    · split_ifs
      · rfl
      · exact p.steady_answerOffice _ _ _
      · rfl

theorem steady_takeTopup (p : Part) (source account amount : Nat) : p.Steady (p.takeTopup source account amount).1 := by
  unfold takeTopup
  split
  · exact p.steady_answerOffice _ _ _
  · split
    · exact p.steady_answerOffice _ _ _
    · split
      · exact p.steady_answerOffice _ _ _
      · rfl

theorem steady_takeQuery (p : Part) (source account : Nat) : p.Steady (p.takeQuery source account) := by
  unfold takeQuery
  split <;> exact p.steady_answerOffice _ _ _

theorem steady_takeClose (p : Part) (number : Nat) : p.Steady (p.takeClose number).1 := by
  unfold takeClose
  dsimp only
  split_ifs
  · rfl
  · rfl
  · split
    · exact steady_of_quiet rfl rfl rfl rfl
    · split
      · exact steady_of_quiet rfl rfl rfl rfl
      · rfl

theorem steady_visitSlots (p : Part) : p.Steady p.visitSlots.1 := by
  unfold visitSlots
  split
  · rfl
  · split <;> exact steady_of_quiet rfl rfl rfl rfl

/-! ### The settlement unit (chapter 7) -/

theorem orphanTasks_routine (s : Settlement) : (orphanTasks s).all Task.isRoutine = true := by
  unfold orphanTasks
  split <;> rfl

theorem closingTasks_routine (s : Settlement) (r : AckResult) : (closingTasks s r).all Task.isRoutine = true := by
  have hhold : (if s.holdId = 0 then Task.putMark s.source s.job [] else .removeHold s.holdId []).isRoutine = true := by
    split <;> rfl
  have hlost : (if r = .orphan then orphanTasks s else []).all Task.isRoutine = true := by
    split
    · exact orphanTasks_routine s
    · rfl
  simp only [closingTasks, List.all_append, List.all_cons, List.all_nil, hhold, hlost]
  rfl

theorem returnFree_routine (p : Part) : p.returnFree.2.all Task.isRoutine = true := by
  unfold returnFree
  split
  · dsimp only; split <;> rfl
  · rfl


theorem steady_acknowledge (p : Part) (e : DeferredEntry) (r : AckResult) : p.Steady (p.acknowledge e r) :=
  (p.steady_withSettlement _).trans (steady_assign _ _ _)

theorem steady_reportSettlement (p : Part) (s : Settlement) (r : AckResult) : p.Steady (p.reportSettlement s r) := by
  unfold reportSettlement
  split
  · exact .send p _ _
  · exact p.steady_completeHandOff _
  · split
    · next hc => exact steady_giveBack (cancelled_of_answers hc)
    · rfl
  · split
    · rfl
    · exact p.steady_acknowledge _ _
  · exact p.steady_assign _ _

theorem steady_returnFree (p : Part) : p.Steady p.returnFree.1 := by
  unfold returnFree
  split
  · exact p.steady_withSettlement _
  · rfl

theorem steady_decideSettlement (p : Part) (s : Settlement) : p.Steady (p.decideSettlement s).1 := by
  unfold decideSettlement
  split
  · exact (p.steady_reportSettlement _ _).trans (steady_returnFree _)
  · split
    · exact p.steady_withSettlement _
    · exact (p.steady_withSettlement _).trans (steady_withSettlement _ _)

theorem steady_nextRequest (p : Part) : p.Steady p.nextRequest.1 := by
  unfold nextRequest
  split
  · split
    · rfl
    · exact (p.steady_withSettlement _).trans (steady_assign _ _ _)
  · rfl

theorem steady_enterClosing (p : Part) (r : AckResult) : p.Steady (p.enterClosing r) := by
  unfold enterClosing
  split
  · rfl
  · exact (p.steady_withSettlement _).trans (steady_assign _ _ _ (closingTasks_routine _ _))

theorem steady_enterDebiting (p : Part) : p.Steady p.enterDebiting := by
  unfold enterDebiting
  split
  · rfl
  · exact (p.steady_withSettlement _).trans (steady_assign _ _ _)

theorem steady_applyDone (p : Part) (r : AckResult) : p.Steady (p.applyDone r) := by
  unfold applyDone
  split
  · rfl
  · exact (((p.steady_withSettlement _).trans (steady_reportSettlement _ _ _)).trans (steady_returnFree _)).trans
      (steady_assign _ _ _ (returnFree_routine _))

theorem steady_intoFlight (p : Part) (home : Nat) : p.Steady (p.intoFlight home).1 := by
  unfold intoFlight
  split
  · rfl
  · split
    · rfl
    · dsimp only
      split
      · exact (p.steady_withSettlement _).trans (steady_requestSettlement _ _)
      · exact p.steady_withSettlement _

theorem steady_sendEntry (p : Part) (home : Nat) (heard : Bool) : p.Steady (p.sendEntry home heard).1 := by
  unfold sendEntry
  split
  · rfl
  · split
    · rfl
    · exact (p.steady_withSettlement _).trans (.send _ _ _)

theorem steady_entryStored (p : Part) (number : Nat) (forJob : Bool) : p.Steady (p.entryStored number forJob) := by
  unfold entryStored
  dsimp only
  have stored (q : Part) : q.Steady (match findEntry q.ledger number with
      | none => q
      | some (_, e) => q.assign .settlement [.intoFlight e.home]) := by
    split
    · rfl
    · exact q.steady_assign _ _
  cases forJob with
  | true => exact (p.steady_completeHandOff .deferred).trans (stored _)
  | false => exact stored p

theorem steady_quickExpiry (p : Part) (home : Nat) : p.Steady (p.quickExpiry home) := by
  unfold quickExpiry
  split
  · rfl
  · split_ifs
    · rfl
    · exact p.steady_assign _ _
    · exact p.steady_withSettlement _

theorem steady_slowExpiry (p : Part) (home : Nat) : p.Steady (p.slowExpiry home) := by
  unfold slowExpiry
  split
  · rfl
  · split
    · rfl
    · exact p.steady_assign _ _

theorem steady_justPost {p : Part} {w : Write} {notes : List Note} {r : Part × List Task} (hw : w.isOther = true)
    (h : p.justPost w notes = some r) : p.Steady r.1 := by
  obtain ⟨q, hq, rfl⟩ := Option.map_eq_some_iff.mp h
  exact .other hq hw

/-- A step whose post is followed by a change of its own. -/
theorem steady_tryPost_map {p : Part} {w : Write} {notes : List Note} {f : Part → Part × List Task} {r : Part × List Task}
    (hw : w.isOther = true) (h : (p.tryPost w notes).map f = some r) (hf : ∀ q : Part, q.Steady (f q).1) : p.Steady r.1 := by
  obtain ⟨q, hq, rfl⟩ := Option.map_eq_some_iff.mp h
  exact (Steady.other hq hw).trans (hf q)

theorem steady_changeHold_map {p : Part} {slot : Nat} {value : Option HoldRecord} {notes : List Note} {r : Part × List Task}
    (h : (p.changeHold slot value notes).map (fun q => (q, [])) = some r) : p.Steady r.1 := by
  obtain ⟨q, hq, rfl⟩ := Option.map_eq_some_iff.mp h
  exact .hold hq

theorem steady_of_some_eq {p : Part} {r : Part × List Task} {tasks : List Task} (h : some (p, tasks) = some r) : p.Steady r.1 := by
  cases h
  rfl

theorem steady_stepCountSend {p : Part} {number : Nat} {r : Part × List Task} (h : p.stepCountSend number = some r) :
    p.Steady r.1 := by
  unfold stepCountSend at h
  split at h
  · exact steady_of_some_eq h
  · next slot e he =>
    obtain ⟨q, hq, rfl⟩ := Option.map_eq_some_iff.mp h
    obtain ⟨x, hx, hslot⟩ := Option.map_eq_some_iff.mp he
    refine Steady.entry hq hx ?_
    simp only [Prod.mk.injEq] at hslot
    rw [hslot.1]
    rfl

theorem steady_sendAtOnce (p : Part) (station number : Nat) : p.Steady (p.sendAtOnce station number) := by
  unfold sendAtOnce
  dsimp only
  split
  · next r hr => exact (p.steady_sendEntry _ _).trans (steady_stepCountSend hr)
  · exact (p.steady_sendEntry _ _).trans (steady_assign _ _ _)

theorem steady_heardReport (p : Part) (station : Nat) : p.Steady (p.heardReport station) := by
  unfold heardReport
  split
  · rfl
  · split
    · exact p.steady_sendAtOnce _ _
    · rfl

theorem steady_takeAck (p : Part) (source holdId job result : Nat) : p.Steady (p.takeAck source holdId job result) := by
  unfold takeAck
  split
  · rfl
  · split
    · rfl
    · split
      · exact p.steady_acknowledge _ _
      · rfl

theorem steady_handedOff (p : Part) : p.Steady p.handedOff := p.steady_clearJob.trans (.clear _)

/-! ### Start-up (chapter 11) -/

theorem steady_recoverApply (p : Part) : p.Steady p.recoverApply.1 := by
  unfold recoverApply
  split
  · rfl
  · dsimp only
    split_ifs <;> rfl

theorem steady_recoverCheckpoint (p : Part) : p.Steady p.recoverCheckpoint.1 := by
  unfold recoverCheckpoint
  split
  · rfl
  · dsimp only
    split_ifs
    · rfl
    · exact p.steady_releaseJournal
    · split
      · rfl
      · rfl
      · rfl
      · exact p.steady_requestSettlement _

theorem steady_settleCheckpoint (p : Part) (status : JournalStatus) : p.Steady (p.settleCheckpoint status).1 := by
  unfold settleCheckpoint
  split <;> rfl

theorem steady_recoverWalk (p : Part) : p.Steady p.recoverWalk := by
  unfold recoverWalk
  split
  · exact .after (steady_assign _ _ _) (steady_of_quiet rfl rfl rfl rfl)
  · rfl

theorem steady_lineState (p : Part) (st : LineState) : p.Steady (p.withLine { p.line with state := st }) :=
  .line p _ le_rfl ⟨le_rfl, fun _ => id⟩ id

theorem steady_lineInService (p : Part) : p.Steady p.lineInService := by
  unfold lineInService
  split
  · exact p.steady_lineState _
  · dsimp only
    have announced := (p.steady_lineState .active).trans
      (.send _ 0 (.announce (p.withLine { p.line with state := .active }).ledger.period.current))
    split
    · exact announced
    · exact announced.trans (.send _ _ _)

theorem steady_assignFlights (homes : List Nat) (p : Part) :
    p.Steady (homes.foldl (fun q home => q.assign .settlement [.intoFlight home]) p) := by
  induction homes generalizing p with
  | nil => rfl
  | cons home homes ih => exact (p.steady_assign _ _).trans (ih _)

theorem steady_enterService (p : Part) : p.Steady p.enterService := by
  have carded (q : Part) : q.Steady ((q.withSettlement { q.settlement with heldTally := none }).sendCard .release) :=
    (q.steady_withSettlement _).trans (steady_sendCard _ _)
  have swept (q : Part) : q.Steady { q with holds := { q.holds with due := some (q.now + Config.sweepMs) } } :=
    steady_of_quiet rfl rfl rfl rfl
  have raised (q : Part) (c : Prop) [Decidable c] (a : Alert) : q.Steady (if c then q.raise a else q) := by
    split
    · exact q.steady_raise a
    · rfl
  have raised' (q : Part) (c : Prop) [Decidable c] (a : Alert) : q.Steady (if c then q else q.raise a) := by
    split
    · rfl
    · exact q.steady_raise a
  unfold enterService
  refine Steady.trans ?_ (raised' _ _ _)
  refine Steady.trans ?_ (raised _ _ _)
  refine Steady.trans ?_ (swept _)
  refine Steady.trans ?_ (steady_assignFlights _ _)
  refine Steady.trans ?_ (carded _)
  exact .after (steady_lineInService _) (steady_of_quiet rfl rfl rfl rfl (released_of_serving rfl))

end Part

end Sys2Proof.Machine
end

section
/-! What a step of a block's work does, and what follows an event and a write-done (R161, R164). -/

-- One theorem after another: many small theorems elaborated at once need more threads than the check allows.
set_option Elab.async false

namespace Sys2Proof.Machine

open Sys2Proof

/-! ### One step of a block's work, and work that goes on (R164) -/

/-- A step of a block's work is steady, but the post of an entry (R125). -/
theorem Task.step_steady {t : Task} {p : Part} {r : Part × List Task} (h : t.step p = some r) (ht : t.putsEntry = false) :
    p.Steady r.1 := by
  cases t <;> simp only [Task.step, always, Option.some.injEq] at h
  case ask => subst h; exact p.steady_takeAsk _ _ _ _
  case more => subst h; exact p.steady_takeMore _ _ _ _
  case keep => subst h; exact p.steady_takeKeep _ _ _
  case newHold => subst h; exact p.steady_makeHold _ _ _ _
  case putHold => exact Part.steady_changeHold_map h
  case dropHold => exact Part.steady_changeHold_map h
  case advanceSweep => subst h; exact Part.steady_of_quiet rfl rfl rfl rfl
  case journal => subst h; exact p.steady_handJournal _
  case journalCount body =>
    refine Part.steady_tryPost_map rfl h fun q => ?_
    split
    · rfl
    · exact q.steady_releaseJournal
  case vacate =>
    unfold Part.stepVacate at h
    split at h
    · cases h; exact p.steady_answerOffice _ _ _
    · exact Part.steady_justPost rfl h
  case close => subst h; exact p.steady_takeClose _
  case startWalk => exact Part.steady_tryPost_map rfl h fun q => Part.steady_of_quiet rfl rfl rfl rfl
  case walk => subst h; exact p.steady_visitSlots
  case carry =>
    unfold Part.stepCarry at h
    split at h
    · cases h; exact Part.steady_of_quiet rfl rfl rfl rfl
    · exact Part.steady_tryPost_map rfl h fun q => Part.steady_of_quiet rfl rfl rfl rfl
  case endWalk =>
    refine Part.steady_tryPost_map rfl h fun q => ?_
    split
    · rfl
    · exact Part.steady_of_quiet rfl rfl rfl rfl
  case nextRequest => subst h; exact p.steady_nextRequest
  case decide => subst h; exact p.steady_decideSettlement _
  case markSettling =>
    unfold Part.stepMarkSettling at h
    split at h
    · exact Part.steady_of_some_eq h
    · exact Part.steady_changeHold_map h
  case removeHold =>
    unfold Part.stepRemoveHold at h
    split at h
    · exact Part.steady_of_some_eq h
    · exact Part.steady_changeHold_map h
  case debit =>
    unfold Part.stepDebit at h
    split at h
    · exact Part.steady_of_some_eq h
    · split at h
      · cases h; exact p.steady_enterClosing _
      · exact Part.steady_justPost rfl h
  case putEntry => cases ht
  case intoFlight => subst h; exact p.steady_intoFlight _
  case send => subst h; exact p.steady_sendEntry _ _
  case countSend => exact Part.steady_stepCountSend h
  case removeEntry number result =>
    unfold Part.stepRemoveEntry at h
    split at h
    · exact Part.steady_of_some_eq h
    · obtain ⟨q, hq, rfl⟩ := Option.map_eq_some_iff.mp h
      refine (Part.Steady.entry hq ‹_› rfl).trans (Part.steady_withSettlement _ _ ?_)
      unfold SettlementUnit.settleEntry SettlementUnit.countAck
      cases result <;> exact ⟨rfl, rfl⟩
  case tally => subst h; exact .send p _ _
  case handedOff => subst h; exact p.steady_handedOff
  case quiet =>
    split at h
    · exact Part.steady_of_some_eq h
    · cases h
  case recoverApply => subst h; exact p.steady_recoverApply
  case recoverDebit =>
    unfold Part.stepRecoverDebit at h
    split at h
    · exact Part.steady_of_some_eq h
    · exact Part.steady_justPost rfl h
  case recoverCheckpoint => subst h; exact p.steady_recoverCheckpoint
  case settleCheckpoint => subst h; exact p.steady_settleCheckpoint _
  case holdTally => subst h; exact p.steady_withSettlement _
  case clearCheckpoint => subst h; exact .clear p
  case recoverHolds => subst h; exact .refl p
  case holdsInService => subst h; exact .of_same (.sums p)
  case recoverFloat => subst h; exact p.steady_withSettlement _
  case recoverWalk => subst h; exact p.steady_recoverWalk
  case enterService => subst h; exact p.steady_enterService
  case putHoldId => exact Part.steady_justPost rfl h
  case journalPut => exact Part.steady_justPost rfl h
  case putAccount => exact Part.steady_justPost rfl h
  case putMark => exact Part.steady_justPost rfl h
  case putApplySequence => exact Part.steady_justPost rfl h
  case putApply => exact Part.steady_justPost rfl h
  case clearApply => exact Part.steady_justPost rfl h


/-- The steps that a step hands on are routine, but those of an interrupted checkpoint (R169). -/
theorem Task.step_routine {t : Task} {p : Part} {r : Part × List Task} (h : t.step p = some r)
    (ht : t ≠ .recoverCheckpoint) : r.2.all Task.isRoutine = true := by
  have posts {w : Write} {notes : List Note} (h : p.justPost w notes = some r) : r.2.all Task.isRoutine = true := by
    obtain ⟨q, -, rfl⟩ := Option.map_eq_some_iff.mp h
    rfl
  have holds {slot : Nat} {value : Option HoldRecord} {notes : List Note}
      (h : (p.changeHold slot value notes).map (fun q => (q, [])) = some r) : r.2.all Task.isRoutine = true := by
    obtain ⟨q, -, rfl⟩ := Option.map_eq_some_iff.mp h
    rfl
  have then_ {w : Write} {notes : List Note} {f : Part → Part × List Task} (h : (p.tryPost w notes).map f = some r)
      (hf : ∀ q, (f q).2.all Task.isRoutine = true) : r.2.all Task.isRoutine = true := by
    obtain ⟨q, -, rfl⟩ := Option.map_eq_some_iff.mp h
    exact hf q
  have more (source increment slot spare : Nat) (x : HoldRecord) (restored : Bool) :
      (p.decideMore source increment slot spare x restored).2.all Task.isRoutine = true := by
    unfold Part.decideMore
    cases restored <;> (dsimp only; split_ifs <;> rfl)
  cases t <;> simp only [Task.step, always, Option.some.injEq] at h
  case ask =>
    subst h
    unfold Part.takeAsk
    split
    · rfl
    · split
      · dsimp only; split <;> rfl
      · unfold Part.decideAsk
        split
        · rfl
        · dsimp only
          split_ifs
          · rfl
          · rfl
          · rfl
          · split <;> rfl
  case more =>
    subst h
    unfold Part.takeMore
    split
    · rfl
    · split
      · rfl
      · dsimp only
        split
        · exact more _ _ _ _ _ _
        · rfl
        · split
          · exact more _ _ _ _ _ _
          · rfl
  case keep =>
    subst h
    unfold Part.takeKeep
    split
    · rfl
    · split
      · rfl
      · split
        · rfl
        · rfl
        · split <;> rfl
  case newHold => subst h; unfold Part.makeHold; split <;> rfl
  case putHold => exact holds h
  case dropHold => exact holds h
  case journal => subst h; unfold Part.handJournal; split <;> rfl
  case journalCount => exact then_ h fun _ => rfl
  case vacate =>
    unfold Part.stepVacate at h
    split at h
    · cases h; rfl
    · exact posts h
  case close =>
    subst h
    unfold Part.takeClose
    dsimp only
    split_ifs
    · rfl
    · rfl
    · split
      · rfl
      · split <;> rfl
  case startWalk => exact then_ h fun _ => rfl
  case walk =>
    subst h
    unfold Part.visitSlots
    split
    · rfl
    · split
      · rfl
      · dsimp only; split <;> rfl
  case carry =>
    unfold Part.stepCarry at h
    split at h
    · cases h; rfl
    · exact then_ h fun _ => rfl
  case endWalk =>
    refine then_ h fun q => ?_
    split
    · rfl
    · dsimp only; split <;> rfl
  case nextRequest =>
    subst h
    unfold Part.nextRequest
    split
    · split <;> rfl
    · rfl
  case decide =>
    subst h
    unfold Part.decideSettlement
    split
    · exact Part.returnFree_routine _
    · split
      · unfold Part.startOrphan
        dsimp only
        rw [List.all_append, Part.orphanTasks_routine]
        split <;> rfl
      · unfold Part.startApply
        dsimp only
        split <;> rfl
  case markSettling =>
    unfold Part.stepMarkSettling at h
    split at h
    · cases h; rfl
    · exact holds h
  case removeHold =>
    unfold Part.stepRemoveHold at h
    split at h
    · cases h; rfl
    · exact holds h
  case debit =>
    unfold Part.stepDebit at h
    split at h
    · cases h; rfl
    · split at h
      · cases h; rfl
      · exact posts h
  case putEntry =>
    unfold Part.stepPutEntry at h
    split at h
    · cases h
    · exact then_ h fun _ => rfl
  case intoFlight =>
    subst h
    unfold Part.intoFlight
    split
    · rfl
    · split
      · rfl
      · dsimp only; split <;> rfl
  case send =>
    subst h
    unfold Part.sendEntry
    split
    · rfl
    · split <;> rfl
  case countSend =>
    unfold Part.stepCountSend at h
    split at h
    · cases h; rfl
    · exact posts h
  case removeEntry =>
    unfold Part.stepRemoveEntry at h
    split at h
    · cases h; rfl
    · exact then_ h fun _ => rfl
  case quiet =>
    split at h
    · cases h; rfl
    · cases h
  case recoverApply =>
    subst h
    unfold Part.recoverApply
    split
    · rfl
    · next x _ =>
      dsimp only
      cases x.holdId <;> (split_ifs <;> rfl)
  case recoverDebit =>
    unfold Part.stepRecoverDebit at h
    split at h
    · cases h; rfl
    · exact posts h
  case recoverCheckpoint => exact absurd rfl ht
  case settleCheckpoint => subst h; unfold Part.settleCheckpoint; split <;> rfl
  case recoverHolds =>
    subst h
    unfold Part.recoverHolds
    simp [Task.isRoutine]
  all_goals first
    | (subst h; rfl)
    | exact posts h

/-- A step of a block's work, the post of an entry included. -/
theorem Task.step_goes {t : Task} {p : Part} {r : Part × List Task} (h : t.step p = some r) : p.Goes r.1 := by
  cases ht : t.putsEntry with
  | false => exact (Task.step_steady h ht).goes
  | true =>
    cases t <;> first | cases ht; done | skip
    simp only [Task.step] at h
    unfold Part.stepPutEntry at h
    split at h
    · cases h
    · obtain ⟨q, hq, rfl⟩ := Option.map_eq_some_iff.mp h
      refine (Part.Goes.post hq rfl).trans ?_
      dsimp only
      split <;> exact Part.goes_of_quiet rfl rfl rfl rfl

namespace Part

theorem goes_withWork (p : Part) (work : List Work) : p.Goes (p.withWork work) := goes_of_quiet rfl rfl rfl rfl

theorem goes_advance {p q : Part} {w : Work} {rest : List Work} (h : p.advance w rest = some q) : p.Goes q := by
  unfold advance at h
  split at h
  · cases h
    exact p.goes_withWork _
  · obtain ⟨r, hr, rfl⟩ := Option.map_eq_some_iff.mp h
    exact ((p.goes_withWork _).trans (Task.step_goes hr)).trans (goes_withWork _ _)

/-- What a step of the work that goes on does: one work, which may take its step, takes it. -/
theorem advanceFirst_eq_some {p q : Part} {before after : List Work} (h : p.advanceFirst before after = some q) :
    ∃ ahead w behind, before ++ after = ahead ++ w :: behind ∧ canRun p.store.work w = true ∧
      p.advance w (ahead ++ behind) = some q := by
  induction after generalizing before with
  | nil => cases h
  | cons w after ih =>
    unfold advanceFirst at h
    split at h
    · next r hr =>
      cases h
      split at hr
      · next hrun => exact ⟨before, w, after, rfl, hrun, hr⟩
      · cases hr
    · obtain ⟨ahead, v, behind, hsplit, hrun, hv⟩ := ih h
      exact ⟨ahead, v, behind, by simpa using hsplit, hrun, hv⟩

theorem goes_advanceFirst {p q : Part} {before after : List Work} (h : p.advanceFirst before after = some q) : p.Goes q := by
  obtain ⟨ahead, w, behind, -, -, hw⟩ := advanceFirst_eq_some h
  exact goes_advance hw

theorem goes_pump (fuel : Nat) (p : Part) : p.Goes (p.pump fuel) := by
  induction fuel generalizing p with
  | zero => exact .fill p
  | succ fuel ih =>
    unfold pump
    split
    · next q hq =>
      obtain ⟨work, rfl⟩ := markWait_eq_some hq
      exact ((Goes.fill p).trans (goes_withWork _ _)).trans (ih _)
    · split
      · exact .fill p
      · next q hq => exact (((Goes.fill p).trans (goes_advanceFirst hq)).trans q.steady_react.goes).trans (ih _)

theorem goes_goOn (p : Part) : p.Goes p.goOn := by
  unfold goOn
  split
  · exact p.goes_pump _
  · exact p.goes_pump _
  all_goals rfl

theorem steady_reactIdle (p before : Part) : p.Steady (p.reactIdle before) := by
  unfold reactIdle
  split
  · next h =>
    simp only [Bool.and_eq_true] at h
    exact steady_idleEnd h.2
  · rfl

/-- What follows a command, but in a drain. -/
theorem goes_follow {p : Part} (before : Part) (h : ∀ load, p.phase ≠ .draining load) : p.Goes (p.follow before) := by
  unfold follow
  split
  · next load hp => exact absurd hp (h load)
  · exact ((p.steady_reactIdle _).trans (steady_react _)).goes.trans (goes_goOn _)
  all_goals exact p.goes_goOn

end Part

theorem Note.act_steady (note : Note) (p : Part) : p.Steady (note.act p) := by
  cases note with
  | grant => exact p.steady_answerGive _ _ _ _
  | answer => exact p.steady_answerOffice _ _ _
  | walk => exact .after (Part.steady_assign _ _ _) (Part.steady_of_quiet rfl rfl rfl rfl)
  | applyRecorded => exact p.steady_enterDebiting
  | debited => exact p.steady_enterClosing _
  | applyClosed => exact p.steady_applyDone _
  | entryStored => exact p.steady_entryStored _ _

theorem Part.steady_notes (notes : List Note) (p : Part) : p.Steady (notes.foldl (fun r note => note.act r) p) := by
  induction notes generalizing p with
  | nil => rfl
  | cons note notes ih => exact (note.act_steady p).trans (ih _)

end Sys2Proof.Machine
end

section
/-! What the events of the engine do to the lists, the records and the deferred slots (chapter 3). -/

-- One theorem after another: many small theorems elaborated at once need more threads than the check allows.
set_option Elab.async false

namespace Sys2Proof.Machine

open Sys2Proof

namespace Part

/-! ### The path monitor (chapter 3) -/

/-- A change of the job, the path and PERMIT that leaves the job's claim. -/
theorem moves_of_quiet {p q : Part} (hs : q.store = p.store) (hh : q.accounts.held = p.accounts.held) (hl : q.line = p.line)
    (hc : q.card.returns = p.card.returns)
    (ho : (q.phase = p.phase ∨ q.phase = .serving) ∧ (p.Released → q.Released) := by exact ⟨.inl rfl, id⟩)
    (hj : q.job.claimsSlot = p.job.claimsSlot := by rfl)
    (hr : q.settlement.reserved = p.settlement.reserved ∧
      q.settlement.cancelled.isSome = p.settlement.cancelled.isSome := by exact ⟨rfl, rfl⟩) : p.Moves q :=
  .of_same (goes_of_quiet (by rw [hs]) hh hl hc ho) (by rw [hs]; exact ⟨rfl, rfl, rfl⟩) hj hr

/-- A change of the job that leaves its claim. -/
theorem moves_job (p : Part) (j : Job) (hj : j.claimsSlot = p.job.claimsSlot := by rfl) : p.Moves { p with job := j } :=
  moves_of_quiet rfl rfl rfl rfl ⟨.inl rfl, id⟩ hj

/-- A funded job keeps its claim in another state of a funded job. -/
theorem moves_setJobState {p : Part} {st : JobState} (h : p.job.state.takesTopups = true) (hst : st.takesTopups = true) :
    p.Moves (p.setJobState st) := by
  refine .of_same (p.goes_setJobState st) (by rw [setJobState_store]; exact ⟨rfl, rfl, rfl⟩) ?_ (by simp)
  rw [setJobState_job, claimsSlot_of_takesTopups h, claimsSlot_of_takesTopups hst]
  rfl

theorem moves_raise (p : Part) (a : Alert) : p.Moves (p.raise a) := moves_of_quiet rfl rfl rfl rfl

theorem moves_touchActivity (p : Part) : p.Moves p.touchActivity := p.moves_job _

theorem moves_withPath (p : Part) (m : PathMonitor) : p.Moves (p.withPath m) := moves_of_quiet rfl rfl rfl rfl

theorem moves_withSheets (p : Part) (sheets : List Sheet) : p.Moves (p.withSheets sheets) := moves_of_quiet rfl rfl rfl rfl

theorem moves_spoilSheet (p : Part) (sheet : Sheet) : p.Moves (p.spoilSheet sheet) := by
  unfold spoilSheet
  dsimp only
  split
  · exact (p.moves_job _).trans (moves_raiseMeter _ _ _)
  · exact p.moves_raiseMeter _ _

theorem moves_spoilSheets (sheets : List Sheet) (p : Part) : p.Moves (sheets.foldl spoilSheet p) := by
  induction sheets generalizing p with
  | nil => rfl
  | cons sheet sheets ih => exact (p.moves_spoilSheet sheet).trans (ih _)

theorem moves_spoilFed (p : Part) (media : Nat) (ofJob : Bool) : p.Moves (p.spoilFed media ofJob) := by
  unfold spoilFed
  dsimp only
  split
  · exact (p.moves_job _).trans (moves_raiseMeter _ _ _)
  · exact p.moves_raiseMeter _ _

theorem moves_jobJam (p : Part) : p.Moves p.jobJam := by
  unfold jobJam
  split
  · next h => exact (p.moves_job _).trans (moves_setJobState (by show p.job.state.takesTopups = true; rw [h]; rfl) rfl)
  · next h => exact (p.moves_job _).trans (moves_setJobState (by show p.job.state.takesTopups = true; rw [h]; rfl) rfl)
  · exact p.moves_job _
  · exact p.moves_job _
  all_goals rfl

theorem moves_declareJam (p : Part) (kind : JamKind) (sensor : Option Sensor) (code fed : Option Nat) :
    p.Moves (p.declareJam kind sensor code fed) := by
  unfold declareJam
  dsimp only
  refine .after (moves_raise _ _) (.after (moves_jobJam _) ?_)
  refine Moves.trans (q := (match fed with
    | none => p.path.sheets.foldl spoilSheet
        { p with permit := false, path := { p.path with jammed := true, sheets := [] } }
    | some media => (p.path.sheets.foldl spoilSheet
        { p with permit := false, path := { p.path with jammed := true, sheets := [] } }).spoilFed media _)) ?_
    (moves_of_quiet rfl rfl rfl rfl)
  have spoiled := Moves.after (moves_spoilSheets p.path.sheets
    { p with permit := false, path := { p.path with jammed := true, sheets := [] } })
    (moves_of_quiet (p := p) rfl rfl rfl rfl (released_of_permit rfl rfl))
  split
  · exact spoiled
  · exact spoiled.trans (moves_spoilFed _ _ _)

theorem moves_countFeed (p : Part) : p.Moves p.countFeed := by
  unfold countFeed
  dsimp only
  split_ifs
  · exact p.moves_raiseMeter _ _
  · exact (p.moves_raiseMeter _ _).trans (moves_raiseMeter _ _ _)
  · rfl
  · exact p.moves_raiseMeter _ _

theorem moves_feed (p : Part) (media : Nat) (c : Colour) (twoSided : Bool) : p.Moves (p.feed media c twoSided) := by
  have counted : p.Moves (if !p.path.jammed && p.job.state.ownsFeeds then p.countFeed.touchActivity else p.countFeed) := by
    split
    · exact p.moves_countFeed.trans (moves_touchActivity _)
    · exact p.moves_countFeed
  refine counted.trans ?_
  unfold feed
  dsimp only
  generalize (if !p.path.jammed && p.job.state.ownsFeeds then p.countFeed.touchActivity else p.countFeed) = q
  split_ifs
  · exact q.moves_spoilFed _ _
  · exact q.moves_declareJam _ _ _ _
  · exact q.moves_declareJam _ _ _ _
  · exact .after (moves_withSheets _ _) (q.moves_job _)
  · exact q.moves_withSheets _

/-- A JAMMED job takes the clear (R39). -/
theorem steady_jobClear (p : Part) : p.Steady p.jobClear := by
  unfold jobClear
  split
  · next h =>
    have hfunded : p.job.state.takesTopups = true := by rw [h]; rfl
    split_ifs
    · exact (p.steady_job _).trans (steady_enterSettling hfunded)
    · exact steady_enterSettling hfunded
    · exact (p.steady_job _).trans (steady_enterSettling hfunded)
    · exact (steady_setJobState_of_funded hfunded (.inr (.inl rfl))).trans (steady_touchActivity _)
  · rfl

theorem moves_clearTest (p : Part) : p.Moves p.clearTest := by
  unfold clearTest
  split
  · exact .after (steady_jobClear _).toMoves (moves_of_quiet rfl rfl rfl rfl)
  · rfl

theorem moves_stray (p : Part) (sensor : Sensor) : p.Moves (p.stray sensor) := p.moves_declareJam _ _ _ _

theorem moves_matchOn (p : Part) (sensor : Sensor) : p.Moves (p.matchOn sensor) := by
  unfold matchOn
  dsimp only
  split
  · exact p.moves_stray _
  · split
    · exact p.moves_stray _
    · split
      · exact p.moves_withSheets _
      · exact p.moves_stray _

theorem moves_sensorOn (p : Part) (sensor : Sensor) : p.Moves (p.sensorOn sensor) := by
  unfold sensorOn
  dsimp only
  split
  · exact p.moves_withPath _
  · exact (p.moves_withPath _).trans (moves_matchOn _ _)

theorem moves_moveOn (p : Part) (sensor : Sensor) (next : Stage) (window : Nat) : p.Moves (p.moveOn sensor next window) := by
  unfold moveOn
  split
  · exact p.moves_withSheets _
  · exact p.moves_stray _

theorem moves_jobDelivery (p : Part) (sheet : Sheet) : p.Moves (p.jobDelivery sheet) := by
  refine .after (moves_postCheckpoint _) (p.moves_job _ ?_)
  split <;> rfl

theorem moves_deliver (p : Part) : p.Moves p.deliver := by
  unfold deliver
  split
  · exact p.moves_stray _
  · dsimp only
    split
    · exact ((p.moves_withSheets _).trans (moves_jobDelivery _ _)).trans (moves_raiseMeter _ _ _)
    · exact (p.moves_withSheets _).trans (moves_raiseMeter _ _ _)

theorem moves_sensorOff (p : Part) (sensor : Sensor) : p.Moves (p.sensorOff sensor) := by
  unfold sensorOff
  dsimp only
  split
  · exact (p.moves_withPath _).trans (moves_clearTest _)
  · refine (p.moves_withPath (p.path.cover sensor false)).trans ?_
    cases sensor with
    | reg => exact moves_moveOn _ _ _ _
    | fuse => exact moves_moveOn _ _ _ _
    | exit => exact moves_deliver _

theorem moves_openDoor (p : Part) : p.Moves p.openDoor := by
  unfold openDoor
  dsimp only
  split
  · exact (p.moves_withPath _).trans (moves_declareJam _ _ _ _ _)
  · exact p.moves_withPath _

theorem moves_closeDoor (p : Part) : p.Moves p.closeDoor := by
  unfold closeDoor
  dsimp only
  split
  · exact (p.moves_withPath _).trans (moves_clearTest _)
  · exact p.moves_withPath _

theorem moves_engineStop (p : Part) (code : Option Nat) : p.Moves (p.engineStop code) := by
  unfold engineStop
  split
  · rfl
  · exact p.moves_declareJam _ _ _ _

theorem moves_deadline (p : Part) (place : Nat) : p.Moves (p.deadline place) := by
  unfold deadline
  split
  · rfl
  · split
    · rfl
    · exact p.moves_declareJam _ _ _ _

end Part

end Sys2Proof.Machine
end

section
/-! What the line controller does (chapter 8), and what a frame judged good carries (section 12.1). -/

-- One theorem after another: many small theorems elaborated at once need more threads than the check allows.
set_option Elab.async false

namespace Sys2Proof.Machine

open Sys2Proof

namespace Part

/-! ### The line controller (chapter 8) -/

theorem steady_dropFrames (frames : List OutFrame) (p : Part) : p.Steady (p.dropFrames frames) := by
  induction frames generalizing p with
  | nil => rfl
  | cons f frames ih => exact (p.steady_sendFailed f.ticket).trans (ih _)

/-- A change of the line that leaves its queues and its score. -/
theorem steady_withLine (p : Part) (l : Line) (ho : l.outbound = p.line.outbound) (hi : l.inbound = p.line.inbound)
    (hs : l.score = p.line.score) : p.Steady (p.withLine l) :=
  .line p l (by rw [ho]) (by rw [hi]; exact ⟨le_rfl, fun _ => id⟩) (by rw [hs]; exact id)

theorem steady_withdraw (p : Part) (score : Nat) (h : p.line.score ≤ 255 → score ≤ 255) : p.Steady (p.withdraw score) := by
  refine Steady.after (steady_dropFrames _ _) (.after (steady_raise _ _) ?_)
  exact .line p _ (Nat.zero_le _) ⟨le_rfl, fun _ => id⟩ h

theorem steady_setScore (p : Part) (score : Nat) (h : p.line.score ≤ 255 → score ≤ 255) : p.Steady (p.setScore score) := by
  have moved (st : LineState) : p.Steady (p.withLine { p.line with score := score, state := st }) :=
    .line p _ le_rfl ⟨le_rfl, fun _ => id⟩ h
  unfold setScore
  split
  · exact p.steady_withdraw score h
  · dsimp only
    split
    · exact moved _
    · exact (moved _).trans (steady_raise _ _)

theorem steady_raiseScore (p : Part) (n : Nat) : p.Steady (p.raiseScore n) := by
  unfold raiseScore
  split
  · exact p.steady_setScore _ fun _ => Nat.min_le_left _ _
  · rfl

theorem steady_lowerScore (p : Part) : p.Steady p.lowerScore := by
  unfold lowerScore
  split
  · exact p.steady_setScore _ fun h => (Nat.sub_le _ _).trans h
  · rfl

theorem steady_silence (p : Part) : p.Steady p.silence := by
  refine Steady.after (steady_dropFrames _ _) (.after (steady_raise _ _) ?_)
  exact .line p _ (Nat.zero_le _) ⟨le_rfl, fun _ => id⟩ id

theorem steady_startFrame (p : Part) : p.Steady p.startFrame := p.steady_withLine _ rfl rfl rfl

theorem steady_endWithdrawal (p : Part) : p.Steady p.endWithdrawal := by
  refine Steady.after (.send _ _ _) (.after (steady_raise _ _) ?_)
  exact .line p _ le_rfl ⟨le_rfl, fun _ => id⟩ fun _ => Nat.zero_le _

theorem steady_rest (p : Part) (quiet : Bool) : p.Steady (p.rest quiet) := by
  unfold rest
  split
  · exact p.steady_startFrame
  · split
    · exact p.steady_startFrame
    · rfl
  · split
    · exact p.steady_withLine _ rfl rfl rfl
    · exact p.steady_endWithdrawal
  · rfl

theorem steady_restAfter (p before : Part) : p.Steady (p.restAfter before) := by
  unfold restAfter
  split
  · rfl
  · exact p.steady_rest _

theorem steady_quietRest (p : Part) : p.Steady p.quietRest := by
  unfold quietRest
  split
  · rfl
  · exact p.steady_rest _

theorem steady_contentionLost (p : Part) : p.Steady p.contentionLost := p.steady_withLine _ rfl rfl rfl

/-- Frames leave the outbound queue. -/
theorem steady_outbound (p : Part) (l : Line) (ho : l.outbound.length ≤ p.line.outbound.length)
    (hi : l.inbound = p.line.inbound) (hs : l.score = p.line.score) : p.Steady (p.withLine l) :=
  .line p l ho (by rw [hi]; exact ⟨le_rfl, fun _ => id⟩) (by rw [hs]; exact id)

theorem steady_sendOutcome (p : Part) (ticket : Nat) (answered : Bool) : p.Steady (p.sendOutcome ticket answered) := by
  have dropped (queue : List OutFrame) : (dropTicket queue ticket).length ≤ queue.length := List.length_filter_le _ _
  have counted : (countAttempt p.line.outbound ticket).length = p.line.outbound.length := by simp [countAttempt]
  unfold sendOutcome
  split
  · exact .after (steady_lowerScore _) (p.steady_outbound _ (dropped _) rfl rfl)
  · unfold sendUnanswered
    dsimp only
    split
    · refine .after (steady_sendFailed _ _) (.after (steady_raiseScore _ _) ?_)
      exact p.steady_outbound _ ((dropped _).trans counted.le) rfl rfl
    · exact .after (steady_raiseScore _ _) (p.steady_outbound _ counted.le rfl rfl)

theorem steady_driveFrame (p : Part) (ticket : Nat) : p.Steady (p.driveFrame ticket) := steady_of_quiet rfl rfl rfl rfl

theorem steady_hear (p : Part) (station : Nat) : p.Steady (p.hear station) := p.steady_withLine _ rfl rfl rfl

theorem steady_takeAccepted (p : Part) (source dest : Nat) (m : Message) (h : p.line.inbound.length < Config.queuePlaces)
    (hw : m.inWidth = true) : p.Steady (p.takeAccepted source dest m) := by
  unfold takeAccepted
  split
  · exact p.steady_takeGive _ _ _ _ _ _
  · exact p.steady_takeDeny _ _ _
  · exact p.steady_takeGone _ _ _
  · rfl
  · rfl
  all_goals exact .hear p _ _ _ h hw

theorem steady_acceptFrame (p : Part) (source dest : Nat) (message : Option Message)
    (hw : ∀ m, message = some m → m.inWidth = true) : p.Steady (p.acceptFrame source dest message) := by
  unfold acceptFrame
  split
  · rfl
  · next m =>
    split_ifs with hd hl
    · rfl
    · exact p.steady_withLine _ rfl rfl rfl
    · refine (p.steady_withLine { p.line with answered := true } rfl rfl rfl).trans ?_
      exact steady_takeAccepted _ _ _ _ (Nat.lt_of_not_le hl) (hw m rfl)

theorem steady_takeGood (p : Part) (source dest : Nat) (message : Option Message)
    (hw : ∀ m, message = some m → m.inWidth = true) : p.Steady (p.takeGood source dest message) := by
  unfold takeGood
  dsimp only
  split
  · exact p.steady_lowerScore.trans (steady_silence _)
  · refine (p.steady_lowerScore.trans (steady_hear _ source)).trans ((steady_heardReport _ source).trans ?_)
    exact steady_acceptFrame _ _ _ _ hw

theorem steady_takeSilent (p : Part) (source dest : Nat) (message : Option Message)
    (hw : ∀ m, message = some m → m.inWidth = true) : p.Steady (p.takeSilent source dest message) := by
  have heard : p.Steady (if source = p.station then p else p.hear source) := by
    split
    · rfl
    · exact p.steady_hear _
  refine heard.trans ?_
  unfold takeSilent
  dsimp only
  generalize (if source = p.station then p else p.hear source) = q
  split
  · rfl
  · next m =>
    split
    · next hc => exact .hear q _ _ _ hc.2.2 (hw m rfl)
    · rfl

end Part

/-! ### What a good frame carries (section 12.1) -/

theorem numberOf_append (bytes : List Byte) (b : Byte) : numberOf (bytes ++ [b]) = numberOf bytes * 256 + b.toNat := by
  simp [numberOf]

theorem numberOf_lt (bytes : List Byte) : numberOf bytes < 256 ^ bytes.length := by
  induction bytes using List.reverseRecOn with
  | nil => simp [numberOf]
  | append_singleton bytes b ih =>
    have hb := b.isLt
    rw [numberOf_append, List.length_append, List.length_singleton, pow_succ]
    omega

theorem numberAt_lt (bytes : List Byte) (offset size : Nat) : numberAt bytes offset size < 256 ^ size := by
  refine (numberOf_lt _).trans_le (Nat.pow_le_pow_right (by decide) ?_)
  exact List.length_take_le _ _

theorem fits_numberAt (bytes : List Byte) (offset size : Nat) : fits size (numberAt bytes offset size) = true := by
  simpa [fits] using numberAt_lt bytes offset size

/-- The message of a known rank and length has each field within its width. -/
theorem messageOf_inWidth {rank : Nat} {payload : List Byte} {m : Message} (h : messageOf rank payload = some m) :
    m.inWidth = true := by
  unfold messageOf at h
  split at h
  · split at h
    case h_10 =>
      have hb := numberAt_lt payload 3 1
      cases h
      simp only [Message.inWidth, fits_numberAt, Bool.and_eq_true, decide_eq_true_eq, and_true, true_and]
      omega
    case h_16 => cases h
    all_goals
      cases h
      simp [Message.inWidth, fits_numberAt]
  · cases h

theorem judge_inWidth {bytes : List Byte} {source dest : Nat} {m : Message} (h : judge bytes = .good source dest (some m)) :
    m.inWidth = true := by
  unfold judge at h
  dsimp only at h
  split_ifs at h
  simp only [Judgement.good.injEq] at h
  exact messageOf_inWidth h.2.2

namespace Part

theorem steady_takeTransmission (p : Part) (bytes : List Byte) : p.Steady (p.takeTransmission bytes) := by
  have width {source dest : Nat} {message : Option Message} (h : judge bytes = .good source dest message) :
      ∀ m, message = some m → m.inWidth = true := by
    rintro m rfl
    exact judge_inWidth h
  unfold takeTransmission
  split
  · rfl
  · split
    · rfl
    · next h => exact p.steady_takeSilent _ _ _ (width h)
  · split
    · exact p.steady_raiseScore _
    · next h => exact p.steady_takeGood _ _ _ (width h)
  · split
    · exact p.steady_raiseScore _
    · next h => exact p.steady_takeGood _ _ _ (width h)

theorem steady_receive (p : Part) (bytes : List Byte) : p.Steady (p.receive bytes) := by
  unfold receive
  dsimp only
  refine (p.steady_withLine { p.line with sending := none, answered := false } rfl rfl rfl).trans
    ((steady_takeTransmission _ bytes).trans ?_)
  split
  · rfl
  · split
    · exact steady_sendOutcome _ _ false
    · rfl

theorem goes_sendResult {p : Part} (hs : p.phase = .serving) (answered : Bool) : p.Goes (p.sendResult answered) := by
  unfold sendResult
  split
  · rfl
  · refine ((p.steady_driveFrame _).trans (steady_sendOutcome _ _ _)).goes.trans
      ((goes_follow p ?_).trans (steady_restAfter _ _).goes)
    simp [hs]

theorem goes_frameReceived {p : Part} (hs : p.phase = .serving) (bytes : List Byte) : p.Goes (p.frameReceived bytes) := by
  unfold frameReceived
  refine (p.steady_receive bytes).goes.trans ((goes_follow p ?_).trans (steady_restAfter _ _).goes)
  simp [hs]

end Part

end Sys2Proof.Machine
end

section
/-! What the commands of the card line, the timers, the blocks' frames and the panel port do. -/

-- One theorem after another: many small theorems elaborated at once need more threads than the check allows.
set_option Elab.async false

namespace Sys2Proof.Machine

open Sys2Proof

namespace Part

/-! ### The card line, the timers and the frames of the blocks -/

theorem steady_eject (p : Part) (r : Reject) : p.Steady (p.eject r) :=
  ((p.steady_sendCard .eject).trans (steady_expectReturn _)).trans (steady_of_quiet rfl rfl rfl rfl)

theorem steady_cardRemoved (p : Part) : p.Steady p.cardRemoved := by
  unfold cardRemoved
  split
  · next h => exact steady_endJob (by rw [h]; rfl) _
  · next h => exact steady_endJob (by rw [h]; rfl) _
  · next h => exact steady_endJob (by rw [h]; rfl) _
  · exact p.steady_markDrain _
  · exact p.steady_job _
  all_goals rfl

theorem steady_cardOut (p : Part) : p.Steady p.cardOut := by
  unfold cardOut
  split
  · exact .of_same (.quiet ⟨rfl, rfl, rfl, rfl, rfl, rfl, rfl, rfl, fun h => (Nat.sub_le _ _).trans h, .inl rfl, id⟩)
  · unfold sessionOut
    split
    · rfl
    · exact .after (steady_cardRemoved _) (steady_of_quiet rfl rfl rfl rfl)
    · rfl
    · exact steady_of_quiet rfl rfl rfl rfl

theorem steady_cardWritten (p : Part) (serial count : Nat) : p.Steady (p.cardWritten serial count) := by
  unfold cardWritten
  split
  · split
    · exact p.steady_closeSession _
    · rfl
  all_goals rfl

theorem steady_cardNotWritten (p : Part) (serial : Nat) : p.Steady (p.cardNotWritten serial) := by
  unfold cardNotWritten
  split
  · split
    · exact p.steady_closeSession _
    · rfl
  all_goals rfl

theorem steady_writeDeadline (p : Part) : p.Steady p.writeDeadline := by
  unfold writeDeadline
  split
  · split
    · exact p.steady_closeSession _
    · rfl
  all_goals rfl

theorem steady_askTimer (p : Part) : p.Steady p.askTimer := by
  unfold askTimer
  split
  · next h => exact steady_askAttemptEnded h.1
  · rfl

theorem steady_cancelledTimer (p : Part) : p.Steady p.cancelledTimer := by
  unfold cancelledTimer
  split
  · rfl
  · next c hc =>
    split
    · exact steady_giveBack (by rw [hc]; rfl)
    · rfl

theorem steady_topupTimer (p : Part) : p.Steady p.topupTimer := by
  unfold topupTimer
  split
  · exact p.steady_topupAttemptEnded
  · rfl

theorem steady_keepTimer (p : Part) : p.Steady p.keepTimer := by
  have kept (q : Part) : q.Steady q.keepHold := by
    unfold keepHold
    split
    · exact .send _ _ _
    · exact steady_assign _ _ _
  unfold keepTimer
  split
  · split
    · exact .after (kept _) (p.steady_job _)
    · rfl
  · rfl

theorem steady_runOutTimer (p : Part) : p.Steady p.runOutTimer := by
  unfold runOutTimer
  split
  · next h =>
    have hrunning : p.job.state = .running := by
      have := h.2
      simp only [runOutHolds, Bool.and_eq_true, decide_eq_true_eq] at this
      exact this.1.1
    exact (p.steady_job _).trans (steady_enterSettling (by show p.job.state.takesTopups = true; rw [hrunning]; rfl))
  · rfl

theorem sweepTasks_routine (p : Part) (slot : Nat) : (p.sweepTasks slot ++ [Task.advanceSweep]).all Task.isRoutine = true := by
  unfold sweepTasks
  split
  · rfl
  · split
    · rfl
    · split <;> rfl
    · split <;> rfl

theorem steady_sweep (p : Part) : p.Steady p.sweep := by
  unfold sweep
  split
  · rfl
  · split
    · rfl
    · unfold sweepVisit
      dsimp only
      split
      · exact steady_of_quiet rfl rfl rfl rfl
      · exact .after (steady_assign _ _ _ (p.sweepTasks_routine _)) (steady_of_quiet rfl rfl rfl rfl)

theorem steady_accountWork {p : Part} {r : Part × List Task} (h : p.Steady r.1) (hr : r.2.all Task.isRoutine = true) :
    p.Steady (accountWork r) := by
  unfold accountWork
  split
  · exact h
  · exact h.trans (steady_assign _ _ _ hr)

theorem takePut_routine (p : Part) (source account kind cls state value : Nat) :
    (p.takePut source account kind cls state value).2.all Task.isRoutine = true := by
  unfold takePut
  split
  · rfl
  · split
    · split
      · rfl
      · split <;> rfl
    · split_ifs <;> rfl

theorem takeTopup_routine (p : Part) (source account amount : Nat) :
    (p.takeTopup source account amount).2.all Task.isRoutine = true := by
  unfold takeTopup
  split
  · rfl
  · split
    · rfl
    · split <;> rfl

/-- A block's act on the frame it takes, and the frame out of the inbound queue. -/
theorem steady_takeFrame {p : Part} {mine : Message → Bool} {act : Part → InFrame → Option Part}
    (hact : ∀ (q : Part) f r, act q f = some r → q.Steady r) : p.Steady (p.takeFrame mine act) := by
  refine takeFrame_keeps (I := p.Steady) (.refl p) fun f q _ _ h => Steady.trans ?_ (hact _ _ _ h)
  exact .line p _ le_rfl ⟨List.length_eraseP_le, fun _ => List.mem_of_mem_eraseP⟩ id

theorem steady_takeWhenReady {p : Part} {owner : Owner} {mine : Message → Bool} {act : Part → InFrame → Option Part}
    (hact : ∀ (q : Part) f r, act q f = some r → q.Steady r) : p.Steady (p.takeWhenReady owner mine act) := by
  unfold takeWhenReady
  split
  · rfl
  · exact steady_takeFrame hact

theorem steady_actAsk {p q : Part} {f : InFrame} (h : p.actAsk f = some q) : p.Steady q := by
  unfold actAsk at h
  split at h
  · cases h; exact p.steady_assign _ _
  · cases h

theorem steady_actMore {p q : Part} {f : InFrame} (h : p.actMore f = some q) : p.Steady q := by
  unfold actMore at h
  split at h
  · cases h; exact p.steady_assign _ _
  · cases h

theorem steady_actKeep {p q : Part} {f : InFrame} (h : p.actKeep f = some q) : p.Steady q := by
  unfold actKeep at h
  split at h
  · cases h; exact p.steady_assign _ _
  · cases h

theorem steady_actPut {p q : Part} {f : InFrame} (h : p.actPut f = some q) : p.Steady q := by
  unfold actPut at h
  split at h
  · cases h
    split
    · rfl
    · exact steady_accountWork (p.steady_takePut _ _ _ _ _ _) (p.takePut_routine _ _ _ _ _ _)
  · cases h

theorem steady_actTopup {p q : Part} {f : InFrame} (h : p.actTopup f = some q) : p.Steady q := by
  unfold actTopup at h
  split at h
  · cases h
    split
    · rfl
    · exact steady_accountWork (p.steady_takeTopup _ _ _) (p.takeTopup_routine _ _ _)
  · cases h

theorem steady_actQuery {p q : Part} {f : InFrame} (h : p.actQuery f = some q) : p.Steady q := by
  unfold actQuery at h
  split at h
  · cases h
    split
    · rfl
    · exact p.steady_takeQuery _ _
  · cases h

theorem steady_actClose {p q : Part} {f : InFrame} (h : p.actClose f = some q) : p.Steady q := by
  unfold actClose at h
  split at h
  · cases h; exact p.steady_assign _ _
  · cases h

theorem steady_actAnnounce {p q : Part} {f : InFrame} (h : p.actAnnounce f = some q) : p.Steady q := by
  unfold actAnnounce at h
  split at h
  · cases h; exact p.steady_assign _ _
  · cases h

theorem steady_actSettle {p q : Part} {f : InFrame} (h : p.actSettle f = some q) : p.Steady q := by
  unfold actSettle at h
  split at h
  · split at h
    · cases h
      split
      · rfl
      · exact p.steady_assign _ _
    · split at h
      · cases h
      · cases h; exact p.steady_assign _ _
  · cases h

theorem steady_actAck {p q : Part} {f : InFrame} (h : p.actAck f = some q) : p.Steady q := by
  unfold actAck at h
  split at h
  · cases h; exact p.steady_takeAck _ _ _ _
  · cases h

theorem steady_settle (p : Part) : p.Steady p.settle := by
  unfold settle
  split
  · exact steady_takeWhenReady fun _ _ _ => steady_actSettle
  · rfl

/-! ### The requests of the panel port (chapter 11) -/

theorem steady_respond (p : Part) (code : Nat) (result : PanelResult) (body : List Byte) : p.Steady (p.respond code result body) :=
  steady_of_quiet rfl rfl rfl rfl

theorem steady_request {p : Part} {code : Nat} {allowed : Bool} {decision : Part → Answer} (h : p.Steady (decision p).part) :
    p.Steady (p.request code allowed decision) :=
  request_keeps (fun q c r b hq => hq.trans (q.steady_respond c r b)) (.refl p) h

theorem steady_touchOpen (p : Part) : p.Steady p.touchOpen := by
  unfold touchOpen
  split
  · rfl
  · exact p.steady_touchActivity

/-- A READY job has assigned nothing, so a plan starts from its first position (R28, R29). -/
theorem steady_startPlan {p : Part} (h : p.job.state = .ready) (plan : Plan) : p.Steady (p.startPlan plan) := by
  have hfunded : p.job.state.takesTopups = true := by rw [h]; rfl
  refine Steady.after (q := { p with job := { p.job with
    plan := some plan
    planReserve := fullReserve p.config.values plan.media plan.colour plan.twoSided
    assigned := 0, position := 0, lastActivity := p.now } }) (steady_setJobState_of_funded hfunded (.inl rfl)) ?_
  refine ⟨.of_same (goes_of_quiet rfl rfl rfl rfl), rfl, fun hs => ?_⟩
  obtain ⟨hcharge, hreserved, hindexed, -, hready, hjammed⟩ := (jobSums_iff_within hfunded).mp hs
  have hnone := hready h
  rw [hnone] at hindexed
  refine (jobSums_iff_within ?_).mpr ⟨hcharge, hreserved, ?_, Nat.zero_le _, fun _ => rfl, hjammed⟩
  · exact hfunded
  exact (Nat.zero_add _).trans (Nat.add_eq_zero_iff.mp hindexed).2

theorem steady_startRequest (p : Part) (media colour sides originals copies collated : Nat) :
    p.Steady (p.startRequest media colour sides originals copies collated).part := by
  unfold startRequest
  split
  · exact p.steady_touchOpen
  · split
    · next h => exact steady_startPlan h.1 _
    · exact p.steady_touchOpen

theorem steady_resumeRequest (p : Part) : p.Steady p.resumeRequest.part := by
  unfold resumeRequest
  split
  · next h =>
    refine p.steady_touchActivity.trans (steady_setJobState_of_funded ?_ (.inl rfl))
    show p.job.state.takesTopups = true
    rw [h.1]
    rfl
  · rfl

theorem steady_endRequest (p : Part) (r : EndReason) : p.Steady (p.endRequest r).part := by
  unfold endRequest
  split
  · next h => exact p.steady_touchActivity.trans (steady_endJob (by show p.job.state.takesTopups = true; rw [h]; rfl) _)
  · next h => exact p.steady_touchActivity.trans (steady_endJob (by show p.job.state.takesTopups = true; rw [h]; rfl) _)
  · next h => exact p.steady_touchActivity.trans (steady_endJob (by show p.job.state.takesTopups = true; rw [h]; rfl) _)
  · exact p.steady_touchActivity.trans (steady_markDrain _ _)
  · exact p.steady_touchActivity
  all_goals rfl

theorem steady_cancelRequest (p : Part) : p.Steady p.cancelRequest.part := by
  unfold cancelRequest
  split
  · next h => exact steady_cancelAsk h
  · exact p.steady_endRequest _

theorem steady_releaseRequest (p : Part) (upTo : Nat) : p.Steady (p.releaseRequest upTo).part := by
  unfold releaseRequest
  dsimp only
  split
  · rfl
  · split
    · rfl
    · next q hq => exact .other hq rfl

theorem steady_enableRequest (p : Part) (flags : Byte) (master : Nat) : p.Steady (p.enableRequest flags master).part := by
  unfold enableRequest
  split
  · rfl
  · exact steady_of_quiet rfl rfl rfl rfl

/-- PANEL_READ, when its response begins no reset. -/
theorem steady_panelRead {p : Part} (h : p.panel.resetWaits = false) : p.Steady p.panelRead := by
  unfold panelRead
  split
  · rfl
  · rw [h]
    exact steady_of_quiet rfl rfl rfl rfl

end Part

end Sys2Proof.Machine
end

section
/-! How a card opens a job (R21, R22), and the effect of every command but those of the supply. -/

-- One theorem after another: many small theorems elaborated at once need more threads than the check allows.
set_option Elab.async false

namespace Sys2Proof.Machine

open Sys2Proof

/-! ### The opening of a job (R21, R22) -/

namespace Part

/-- A new job has no sheet in the path, and nothing charged or assigned. -/
def Fresh (p : Part) : Prop :=
  p.job.acc = {} ∧ p.job.position = 0 ∧ p.job.assigned = 0 ∧ p.owned = []

theorem Fresh.sums {p : Part} (h : p.Fresh) (hs : p.job.state = .authorize ∨ p.job.state = .ready) : p.JobSums := by
  obtain ⟨hacc, hposition, hassigned, howned⟩ := h
  rcases hs with hs | hs
  · unfold JobSums
    rw [hs]
    exact ⟨hacc, hposition, hassigned, howned⟩
  · rw [jobSums_iff_within (by rw [hs]; rfl)]
    unfold JobWithin
    rw [hacc, hposition, hassigned, howned, hs]
    simp

/-- No sheet in the path carries the number that the next job takes. -/
def NumberFree (p : Part) : Prop := ∀ sheet ∈ p.path.sheets, sheet.owner ≠ some (nextJobNumber p.ledger.jobNumber)

/-- The job number is taken, and a journal slot is reserved (R21). -/
theorem takeJob_record (p : Part) :
    p.takeJob.job = { ({} : Job) with number := nextJobNumber p.ledger.jobNumber } ∧ p.takeJob.path = p.path ∧
      p.takeJob.settlement = p.settlement ∧ p.takeJob.store.work = p.store.work := by
  refine ⟨rfl, rfl, rfl, ?_⟩
  simp

theorem goes_takeJob (p : Part) : p.Goes p.takeJob :=
  .after (.running _ rfl) (goes_of_quiet rfl rfl rfl rfl)

theorem takeJob_used (p : Part) (slot : Nat) : p.takeJob.store.inUse slot = p.store.inUse slot :=
  Store.postRunning_inUse rfl slot

/-- A part with the number of its next job, new in every other respect, is fresh. -/
theorem fresh_of_number {p q : Part} (h : p.NumberFree) (hnumber : q.job.number = nextJobNumber p.ledger.jobNumber)
    (hpath : q.path = p.path) (hjob : q.job.acc = {} ∧ q.job.position = 0 ∧ q.job.assigned = 0) : q.Fresh := by
  obtain ⟨hacc, hposition, hassigned⟩ := hjob
  refine ⟨hacc, hposition, hassigned, List.filter_eq_nil_iff.mpr fun sheet hsheet => ?_⟩
  rw [hpath] at hsheet
  simpa [owns, hnumber] using h sheet hsheet

/-- The record of a job that asks for a hold: a slot of the deferred list is reserved (R21, R23). -/
def openAsking (p : Part) (account home : Nat) : Part :=
  let taken := p.takeJob
  ({ taken with
      job :=
        { taken.job with
          funding := some (if home = p.station then .accountLocal else .accountRemote), payer := account, home := some home }
      settlement := { taken.settlement with reserved := taken.settlement.reserved + 1 } }).setJobState .authorize

theorem openAccountJob_eq (p : Part) (account home : Nat) :
    p.openAccountJob account home =
      if home = p.station then
        (p.openAsking account home).assign .hold
          [.ask (p.openAsking account home).station account (p.openAsking account home).job.number
            (p.openAsking account home).config.values.holdStep]
      else (p.openAsking account home).askAttempt := by
  unfold openAccountJob openAsking
  by_cases h : home = p.station <;> simp [h]

theorem steady_openAccountJob (p : Part) (account home : Nat) :
    (p.openAsking account home).Steady (p.openAccountJob account home) := by
  rw [openAccountJob_eq]
  split
  · exact steady_assign _ _ _
  · exact steady_askAttempt _

theorem goes_openAsking (p : Part) (account home : Nat) : p.Goes (p.openAsking account home) :=
  .after (goes_setJobState _ _) (p.goes_takeJob.trans (goes_of_quiet rfl rfl rfl rfl))

theorem openAsking_frame (p : Part) (account home : Nat) :
    (p.openAsking account home).job.state = .authorize ∧
      (p.openAsking account home).job.number = nextJobNumber p.ledger.jobNumber ∧
      ((p.openAsking account home).job.acc = {} ∧ (p.openAsking account home).job.position = 0 ∧
        (p.openAsking account home).job.assigned = 0) ∧
      (p.openAsking account home).path = p.path ∧ (p.openAsking account home).store.work = p.store.work ∧
      (p.openAsking account home).settlement = { p.settlement with reserved := p.settlement.reserved + 1 } ∧
      ∀ slot, (p.openAsking account home).store.inUse slot = p.store.inUse slot := by
  obtain ⟨hjob, hpath, hset, hwork⟩ := p.takeJob_record
  unfold openAsking
  dsimp only
  simp only [setJobState_job, setJobState_frame, setJobState_store, hjob, hpath, hset, hwork, and_self, true_and]
  exact p.takeJob_used

/-- The record of a job that a value card opens, in READY on its balance (R22). -/
def openValue (p : Part) (card : ValueCard) : Part :=
  let taken := p.takeJob
  (({ taken with
      job := { taken.job with funding := some .value, payer := card.serial, limit := some card.balance, cls := card.cls }
      card := { taken.card with session := .held card taken.job.number } } : Part).sendCard .retain).setJobState .ready

theorem steady_openValueJob (p : Part) (card : ValueCard) : (p.openValue card).Steady (p.openValueJob card) :=
  ((p.openValue card).steady_touchActivity.trans (steady_armKeep _)).trans (steady_postCheckpoint _)

/-- A job that a value card opens claims no deferred slot (R22). -/
theorem openValue_frame (p : Part) (card : ValueCard) :
    (p.openValue card).job.state = .ready ∧ (p.openValue card).job.funding = some .value ∧
      (p.openValue card).job.number = nextJobNumber p.ledger.jobNumber ∧
      ((p.openValue card).job.acc = {} ∧ (p.openValue card).job.position = 0 ∧ (p.openValue card).job.assigned = 0) ∧
      (p.openValue card).path = p.path ∧ (p.openValue card).store.work = p.store.work ∧
      (p.openValue card).settlement = p.settlement ∧
      ∀ slot, (p.openValue card).store.inUse slot = p.store.inUse slot := by
  obtain ⟨hjob, hpath, hset, hwork⟩ := p.takeJob_record
  unfold openValue
  dsimp only
  simp only [setJobState_job, setJobState_frame, setJobState_store, sendCard, hjob, hpath, hset, hwork, and_self, true_and]
  exact p.takeJob_used

theorem goes_openValue (p : Part) (card : ValueCard) : p.Goes (p.openValue card) :=
  .after (goes_setJobState _ _) (p.goes_takeJob.trans (goes_of_quiet rfl rfl rfl rfl))

/-- A card that is refused moves nothing of a job; one that is accepted finds the job IDLE, and for an account card a free slot (R21). -/
theorem cardIn_cases (p : Part) (record : List Byte) :
    p.Steady (p.cardIn record) ∨
      p.job.state = .idle ∧
        ((∃ card, p.cardIn record = p.openValueJob card) ∨
          ∃ account home, p.deferredFree = true ∧ p.cardIn record = p.expectReturn.openAccountJob account home) := by
  unfold cardIn
  split
  · exact .inl (p.steady_eject _)
  · next card _ =>
    split
    · exact .inl (p.steady_eject _)
    · next hr =>
      refine .inr ?_
      unfold cardRefusal at hr
      cases card with
      | value v =>
        dsimp only at hr
        split_ifs at hr with hidle
        exact ⟨not_not.mp hidle, .inl ⟨v, rfl⟩⟩
      | account number home =>
        dsimp only at hr
        split_ifs at hr with hidle _ _ hfree
        exact ⟨not_not.mp hidle, .inr ⟨number, home, hfree, rfl⟩⟩

theorem goes_cardIn (p : Part) (record : List Byte) : p.Goes (p.cardIn record) := by
  rcases p.cardIn_cases record with h | ⟨-, ⟨card, h⟩ | ⟨account, home, -, h⟩⟩
  · exact h.goes
  · rw [h]
    exact (p.goes_openValue card).trans (p.steady_openValueJob card).goes
  · rw [h]
    exact p.steady_expectReturn.goes.trans ((goes_openAsking _ _ _).trans (steady_openAccountJob _ _ _).goes)

end Part

/-! ### The effect of every command but those of the supply -/

/-- The commands that do not reach the supply, the engine port or the opening of a job, and within which nothing follows. -/
def Instr.isCalm : Instr → Bool
  | .cardIn _ | .sendResult _ | .frameReceived _ => false
  | c => !Instr.isSupply c && !Instr.isEngine c

theorem Instr.effect_steady {c : Instr} (h : Instr.isCalm c = true) {p : Part}
    (hr : c = .panelRead → p.panel.resetWaits = false) : p.Steady (Instr.effect c p) := by
  cases hb : Instr.isBare c with
  | true =>
    rcases Instr.effect_bare hb p with he | ⟨code, result, body, he⟩
    · rw [he]
    · rw [he]; exact p.steady_respond _ _ _
  | false =>
    have serves {f : Part → Part} (hf : p.Steady (f p)) : p.Steady (inService f p) :=
      inService_keeps (I := p.Steady) (.refl p) fun _ => hf
    have sending {f : Part → Part} (hf : p.Steady (f p)) : p.Steady (inService (Part.whenSending f) p) :=
      serves (Part.whenSending_keeps (I := p.Steady) (.refl p) hf)
    cases c <;> first
      | exact (Bool.false_ne_true h).elim
      | exact (Bool.false_ne_true hb.symm).elim
      | dsimp only [Instr.effect]
    case panelRead => exact Part.steady_panelRead (hr rfl)
    case start =>
      refine Part.requestWith_keeps (I := p.Steady) (fun q c r b hq => hq.trans (q.steady_respond c r b)) (.refl p)
        p.steady_touchOpen ?_
      exact p.steady_startRequest _ _ _ _ _ _
    case resume => exact Part.steady_request (p.steady_resumeRequest)
    case endJob => exact Part.steady_request ((p.steady_endRequest _))
    case cancel => exact Part.steady_request (p.steady_cancelRequest)
    case journalRelease => exact Part.steady_request ((p.steady_releaseRequest _))
    case alertAck => exact Part.steady_request ((Part.steady_of_quiet rfl rfl rfl rfl))
    case alertEnable => exact Part.steady_request ((p.steady_enableRequest _ _))
    case resetStation => exact Part.steady_request ((Part.steady_of_quiet rfl rfl rfl rfl))
    case cardOut => exact serves (p.steady_cardOut)
    case writeDone => exact serves (p.steady_cardWritten _ _)
    case writeFail => exact serves (p.steady_cardNotWritten _)
    case writeDeadlineExpiry => exact serves (p.steady_writeDeadline)
    case askTimerExpiry => exact serves (p.steady_askTimer)
    case cancelledAskExpiry => exact serves (p.steady_cancelledTimer)
    case topupTimerExpiry => exact serves (p.steady_topupTimer)
    case keepAliveDue => exact serves (p.steady_keepTimer)
    case runOutDue => exact serves (p.steady_runOutTimer)
    case idleTimeout =>
      refine serves ?_
      split
      · next hi => exact Part.steady_idleEnd hi
      · rfl
    case holdGive => exact serves (p.steady_takeGive _ _ _ _ _ _)
    case holdDeny => exact serves (p.steady_takeDeny _ _ _)
    case holdGone => exact serves (p.steady_takeGone _ _ _)
    case holdAsk => exact serves (Part.steady_takeWhenReady fun _ _ _ => Part.steady_actAsk)
    case holdMore => exact serves (Part.steady_takeWhenReady fun _ _ _ => Part.steady_actMore)
    case holdKeep => exact serves (Part.steady_takeWhenReady fun _ _ _ => Part.steady_actKeep)
    case sweepVisit => exact serves (p.steady_sweep)
    case acctPut => exact serves (Part.steady_takeWhenReady fun _ _ _ => Part.steady_actPut)
    case acctTopup => exact serves (Part.steady_takeWhenReady fun _ _ _ => Part.steady_actTopup)
    case acctQuery => exact serves (Part.steady_takeWhenReady fun _ _ _ => Part.steady_actQuery)
    case periodClose => exact serves (Part.steady_takeWhenReady fun _ _ _ => Part.steady_actClose)
    case announce => exact serves (Part.steady_takeWhenReady fun _ _ _ => Part.steady_actAnnounce)
    case settle => exact serves (p.steady_settle)
    case settleQuickTimerExpiry => exact sending ((p.steady_quickExpiry _))
    case settleSlowTimerExpiry => exact sending ((p.steady_slowExpiry _))
    case settleAck => exact sending ((Part.steady_takeFrame fun _ _ _ => Part.steady_actAck))
    case lineQuietRest => exact serves (p.steady_quietRest)
    case contentionLost => exact serves (p.steady_contentionLost)

/-- An event of the engine, or an accepted card, or a send or a transmission that ends. -/
theorem Instr.effect_moves {c : Instr} (h : Instr.isEngine c = true) (p : Part) : p.Moves (Instr.effect c p) := by
  have serves {f : Part → Part} (hf : p.Moves (f p)) : p.Moves (inService f p) :=
    inService_keeps (I := p.Moves) (.refl p) fun _ => hf
  cases c <;> first
    | exact (Bool.false_ne_true h).elim
    | dsimp only [Instr.effect]
  case sheetFed =>
    refine serves ?_
    unfold Part.feedMessage
    split
    · split
      · exact p.moves_feed _ _ _
      · exact p.moves_engineStop _
    · exact p.moves_engineStop _
  case sensorOn =>
    refine serves ?_
    unfold Part.sensorMessage
    split
    · exact p.moves_sensorOn _
    · exact p.moves_engineStop _
  case sensorOff =>
    refine serves ?_
    unfold Part.sensorMessage
    split
    · exact p.moves_sensorOff _
    · exact p.moves_engineStop _
  case doorOpen => exact serves (p.moves_openDoor)
  case doorClosed => exact serves (p.moves_closeDoor)
  case engineFault => exact serves (p.moves_engineStop _)
  case engineMessageGarbled => exact serves (p.moves_engineStop _)
  case sheetDeadlineExpiry => exact serves (p.moves_deadline _)

/-- No command but those of the supply, and the PANEL_READ that begins a reset (R191), changes the lists and the records otherwise than by
the blocks' operations. -/
theorem Instr.effect_goes {c : Instr} (h : Instr.isSupply c = false) {p : Part}
    (hr : c = .panelRead → p.panel.resetWaits = false) : p.Goes (Instr.effect c p) := by
  cases hcalm : Instr.isCalm c with
  | true => exact (Instr.effect_steady hcalm hr).goes
  | false =>
    cases he : Instr.isEngine c with
    | true => exact (Instr.effect_moves he p).goes
    | false =>
      have serves {f : Part → Part} (hf : p.phase = .serving → p.Goes (f p)) : p.Goes (inService f p) :=
        inService_keeps (I := p.Goes) (.refl p) hf
      cases c <;> first
        | exact (Bool.false_ne_true hcalm.symm).elim
        | exact (Bool.false_ne_true h.symm).elim
        | exact (Bool.false_ne_true he.symm).elim
        | dsimp only [Instr.effect]
      case cardIn => exact serves fun _ => p.goes_cardIn _
      case sendResult => exact serves fun hs => Part.goes_sendResult hs _
      case frameReceived bytes =>
        show p.Goes (if p.serving then p.frameReceived bytes else p.frameUnanswered)
        split
        · next hs => exact Part.goes_frameReceived (by simpa [Part.serving] using hs) bytes
        · exact (p.steady_withLine { p.line with answered := false } rfl rfl rfl).goes

end Sys2Proof.Machine
end

section
/-! Proofs about the phase and PERMIT (R30, R190, R192): PERMIT after every command. -/

namespace Sys2Proof.Machine

open Sys2Proof

/-! ### The phase and PERMIT under the blocks' operations -/

theorem Part.Goes.phase {p q : Part} (h : p.Goes q) : q.phase = p.phase ∨ q.phase = .serving := by
  induction h with
  | quiet h => exact h.2.2.2.2.2.2.2.2.2.1
  | post h _ => obtain ⟨-, rfl⟩ := Part.tryPost_eq_some.mp h; exact .inl rfl
  | hold h =>
    obtain ⟨q, hq, rfl⟩ := Option.map_eq_some_iff.mp h
    obtain ⟨-, rfl⟩ := Part.tryPost_eq_some.mp hq
    exact .inl (by simp)
  | send => exact .inl (by simp)
  | trans _ _ ih ik =>
    rcases ik with k | k
    · rwa [k]
    · exact .inr k
  | _ => exact .inl rfl

theorem Part.Goes.released {p q : Part} (h : p.Goes q) : p.Released → q.Released := by
  induction h with
  | quiet h => exact h.2.2.2.2.2.2.2.2.2.2
  | post h _ => obtain ⟨-, rfl⟩ := Part.tryPost_eq_some.mp h; exact id
  | hold h =>
    obtain ⟨q, hq, rfl⟩ := Option.map_eq_some_iff.mp h
    obtain ⟨-, rfl⟩ := Part.tryPost_eq_some.mp hq
    unfold Part.Released
    simp
  | send =>
    unfold Part.Released
    simp
  | trans _ _ ih ik => exact ik ∘ ih
  | _ => exact id

theorem Part.Goes.serving {p q : Part} (h : p.Goes q) (hp : p.phase = .serving) : q.phase = .serving := by
  rcases h.phase with k | k
  · exact k.trans hp
  · exact k

namespace Part

/-- The conditions of R30 rest on the phase, the configuration, the job and the path alone. -/
theorem permitHolds_congr {p q : Part} (hphase : q.phase = p.phase) (hconfig : q.config = p.config) (hjob : q.job = p.job)
    (hpath : q.path = p.path) : q.permitHolds = p.permitHolds := by
  simp [permitHolds, Part.serving, outOfService, hphase, hconfig, hjob, hpath]

/-- PERMIT is safe with the same phase, configuration, job, path and PERMIT. -/
theorem PermitSafe.congr {p q : Part} (h : p.PermitSafe) (hphase : q.phase = p.phase) (hconfig : q.config = p.config)
    (hjob : q.job = p.job) (hpath : q.path = p.path) (hpermit : q.permit = p.permit) : q.PermitSafe := by
  unfold PermitSafe at *
  rwa [hphase, hpermit, permitHolds_congr hphase hconfig hjob hpath]

/-! ### PERMIT after the rules that follow every event (R30) -/

/-- The rules that follow an event decide PERMIT in service, and leave it released before. -/
theorem react_permitSafe {p : Part} (h : p.Released) : p.react.PermitSafe := by
  unfold react
  split
  · next hs =>
    have hserving : p.phase = .serving := by simpa [Part.serving] using hs
    refine ⟨fun _ => (permitHolds_congr rfl rfl rfl rfl).symm, fun hphase => ?_⟩
    simp [hserving] at hphase
  · next hs => exact ⟨fun hserving => absurd hserving (by simpa [Part.serving] using hs), h⟩

/-- What the pump keeps: each of its steps is a step of work and the rules that follow it. -/
theorem pump_keeps {I : Part → Prop} (hfill : ∀ p, I p → I p.fill) (hmark : ∀ p q, I p → p.markWait = some q → I q)
    (hstep : ∀ p q, I p → p.advanceFirst [] p.store.work = some q → I q.react) (fuel : Nat) {p : Part} (h : I p) :
    I (p.pump fuel) := by
  induction fuel generalizing p with
  | zero => exact hfill p h
  | succ fuel ih =>
    unfold pump
    split
    · next q hq => exact ih (hmark _ _ (hfill p h) hq)
    · split
      · exact hfill p h
      · next q hq => exact ih (hstep _ _ (hfill p h) hq)

theorem pump_permitSafe (fuel : Nat) {p : Part} (h : p.PermitSafe) : (p.pump fuel).PermitSafe := by
  refine pump_keeps (I := PermitSafe) ?_ ?_ ?_ fuel h
  · exact fun q hq => hq.congr rfl rfl rfl rfl rfl
  · intro q r hq hr
    obtain ⟨work, rfl⟩ := markWait_eq_some hr
    exact hq.congr rfl rfl rfl rfl rfl
  · exact fun q r hq hr => react_permitSafe ((goes_advanceFirst hr).released hq.2)

theorem goOn_permitSafe {p : Part} (h : p.PermitSafe) : p.goOn.PermitSafe := by
  unfold goOn
  split
  · exact pump_permitSafe _ h
  · exact pump_permitSafe _ h
  all_goals exact h

/-! ### The drain (R167) -/

theorem drainPosts_phase (p : Part) (work : List Work) : (p.drainPosts work).phase = p.phase := by
  induction work generalizing p with
  | nil => rfl
  | cons w work ih =>
    unfold drainPosts
    split
    · exact ih _
    · split
      · exact ih _
      · split
        · rfl
        · next q hq =>
          obtain ⟨-, rfl⟩ := tryPost_eq_some.mp hq
          exact ih _

/-- A drain goes on, or ends with a start-up. -/
theorem drain_cases (p : Part) (load : Bool) :
    p.drain load = p.fill.drainPosts p.fill.store.work ∨
      p.drain load = (p.fill.drainPosts p.fill.store.work).startUp load := by
  unfold drain
  dsimp only
  split
  · exact .inr rfl
  · exact .inl rfl

theorem startUp_permit (p : Part) (load : Bool) : (p.startUp load).permit = false := by
  unfold startUp
  split <;> rfl

theorem startUp_phase (p : Part) (load : Bool) : (p.startUp load).phase = if load then .loading else .recovering := by
  unfold startUp
  split <;> rfl

theorem drain_permitSafe {p : Part} {load : Bool} (hp : p.phase = .draining load) : (p.drain load).PermitSafe := by
  rcases p.drain_cases load with h | h
  · have hphase : (p.drain load).phase = .draining load := by
      rw [h, drainPosts_phase]
      exact hp
    simp [PermitSafe, hphase]
  · rw [h]
    refine ⟨fun hs => ?_, fun _ => startUp_permit _ _⟩
    rw [startUp_phase] at hs
    split at hs <;> cases hs

/-! ### Every command -/

theorem follow_permitSafe {p : Part} (before : Part) (h : p.Released) : (p.follow before).PermitSafe := by
  have safe (hs : p.phase ≠ .serving) : p.PermitSafe := ⟨fun hserving => absurd hserving hs, h⟩
  unfold follow
  split
  · next load hp => exact goOn_permitSafe (drain_permitSafe hp)
  · exact goOn_permitSafe (react_permitSafe ((p.steady_reactIdle before).goes.released h))
  all_goals
    next hp => exact goOn_permitSafe (safe (by simp [hp]))

theorem command_permitSafe {p : Part} {f : Part → Part} (h : (f p).Released) : (p.command f).PermitSafe :=
  (follow_permitSafe p h).congr (by simp [command]) (by simp [command]) (by simp [command]) (by simp [command])
    (by simp [command])

theorem beginSoftReset_released (p : Part) : p.beginSoftReset.Released := by simp [Released, beginSoftReset]

theorem panelRead_released {p : Part} (h : p.Released) : p.panelRead.Released := by
  unfold panelRead
  split
  · exact h
  · dsimp only
    split
    · exact beginSoftReset_released _
    · exact h

theorem writeComplete_released {p : Part} (h : p.Released) : p.writeComplete.Released := by
  unfold writeComplete
  split
  · exact h
  · next post rest hq =>
    have after (q : Part) (notes : List Note) (hq : q.Released) :
        (((notes.foldl (fun r note => note.act r) (q.pump pumpFuel)).follow p).setStarting false).Released := by
      have := ((q.goes_pump pumpFuel).trans (steady_notes notes _).goes).released hq
      exact (follow_permitSafe p this).2
    dsimp only
    split
    · exact after _ _ h
    · exact after _ _ h
    all_goals exact h

end Part

/-- No command asserts PERMIT outside service. -/
theorem Instr.effect_released {c : Instr} {p : Part} (h : p.Released) : (Instr.effect c p).Released := by
  by_cases hr : c = .panelRead
  · subst hr
    exact Part.panelRead_released h
  · cases hs : Instr.isSupply c with
    | false => exact (Instr.effect_goes hs fun hc => absurd hc hr).released h
    | true =>
      cases c <;> first
        | exact (Bool.false_ne_true hs).elim
        | dsimp only [Instr.effect]
      case powerOn =>
        unfold Part.powerOn
        split_ifs
        · exact h
        · exact fun _ => rfl
        · exact fun _ => Part.startUp_permit _ _
      case powerLoss =>
        split
        · exact h
        · exact fun _ => rfl
      case resetPinAssert =>
        unfold Part.assertReset
        dsimp only
        split
        · exact Part.beginSoftReset_released _
        · exact Part.beginSoftReset_released _
        · exact Part.beginSoftReset_released _
        all_goals exact h
      case resetPinRelease => exact h
      case configLoadDone =>
        unfold Part.loadDone
        split
        · next hload => exact fun _ => h (.inr (.inl hload))
        · exact h
      case writeComplete => exact Part.writeComplete_released h

theorem Instr.result_permitSafe (c : Instr) (p : Part) (h : p.PermitSafe) : (Instr.result c p).PermitSafe := by
  cases hb : Instr.isBare c with
  | false =>
    rw [Instr.result_event hb]
    exact Part.command_permitSafe (Instr.effect_released h.2)
  | true =>
    rw [Instr.result_bare hb]
    rcases Instr.effect_bare hb p with he | ⟨code, result, body, he⟩
    · rwa [he]
    · rw [he]
      exact h.congr rfl rfl rfl rfl rfl

/-- Settles O8: every command that can change what R30 names ends with the decision of PERMIT, in service, and only that decision
asserts it. -/
theorem permitFollowsItsConditions : Obligations.PermitFollowsItsConditions := by
  intro s t hs h
  have ht : t.part.PermitSafe := by
    refine step_keeps (I := Part.PermitSafe) (fun p hp => ?_) Instr.result_permitSafe hs h
    obtain ⟨now, hnow⟩ := p.tick_frame
    rw [hnow]
    exact hp.congr rfl rfl rfl rfl rfl
  refine ⟨ht, fun hserving => ?_⟩
  rw [ht.1 hserving]
  simp [Part.permitHolds, Part.serving, Part.outOfService, Job.headroom, hserving]
  rw [show Config.pathPlaces = 6 from rfl]
  tauto

end Sys2Proof.Machine
end

section
/-! Proofs that every step keeps the part's lists and counts within their places (R47, R57, R59, R72, R145, R146, R149, R161), and the
frames it has heard within the widths of their fields (section 12.1). -/

namespace Sys2Proof.Machine

open Sys2Proof

/-! ### Lists and counts outside the path -/

/-- The write queue, the queues of the line, the score and the count of returns are within their places. -/
def Part.Sizes (p : Part) : Prop :=
  p.store.queue.length ≤ Config.queuePlaces ∧ p.line.outbound.length ≤ Config.queuePlaces ∧
    p.line.inbound.length ≤ Config.queuePlaces ∧ p.line.score ≤ 255 ∧ p.card.returns ≤ 7

theorem insertFrame_length (queue : List OutFrame) (f : OutFrame) : (insertFrame queue f).length = queue.length + 1 := by
  induction queue with
  | nil => rfl
  | cons g rest ih =>
    unfold insertFrame
    split
    · rfl
    · simp [ih]

namespace Part

/-- A frame is handed over only while the outbound queue has a place (R146). -/
theorem sendFrame_places {p : Part} (h : p.line.outbound.length ≤ Config.queuePlaces) (dest : Nat) (m : Message) :
    (p.sendFrame dest m).line.outbound.length ≤ Config.queuePlaces := by
  unfold sendFrame enqueue
  split
  · exact h
  · next hr =>
    have : p.line.outbound.length < Config.queuePlaces := by
      by_contra hfull
      exact hr (by simp [refusesFrame, Nat.le_of_not_lt hfull])
    simpa [insertFrame_length] using this

theorem sendFrame_score (p : Part) (dest : Nat) (m : Message) : (p.sendFrame dest m).line.score = p.line.score := by
  unfold sendFrame enqueue
  split <;> rfl

theorem sendFrame_starting (p : Part) (dest : Nat) (m : Message) : (p.sendFrame dest m).store = p.store := by
  unfold sendFrame enqueue
  split <;> rfl

theorem Goes.sizes {p q : Part} (h : p.Goes q) : p.Sizes → q.Sizes := by
  induction h with
  | quiet h =>
    obtain ⟨-, hq, -, -, -, ho, hi, hs, hr, -⟩ := h
    rintro ⟨kq, ko, ki, ks, kr⟩
    exact ⟨hq ▸ kq, ho ▸ ko, hi ▸ ki, hs ▸ ks, hr kr⟩
  | send p dest m =>
    rintro ⟨kq, ko, ki, ks, kr⟩
    refine ⟨by simpa using kq, sendFrame_places ko dest m, by simpa using ki, ?_, by simpa using kr⟩
    rwa [sendFrame_score]
  | running p hw =>
    rintro ⟨kq, ko, ki, ks, kr⟩
    exact ⟨Store.postRunning_places kq _, ko, ki, ks, kr⟩
  | post h _ =>
    obtain ⟨hplace, rfl⟩ := tryPost_eq_some.mp h
    rintro ⟨kq, ko, ki, ks, kr⟩
    exact ⟨Store.post_places kq hplace _, ko, ki, ks, kr⟩
  | hold h =>
    obtain ⟨q, hq, rfl⟩ := Option.map_eq_some_iff.mp h
    obtain ⟨hplace, rfl⟩ := tryPost_eq_some.mp hq
    rintro ⟨kq, ko, ki, ks, kr⟩
    unfold Sizes
    simp only [unhold_frame, rehold_frame]
    exact ⟨Store.post_places kq hplace _, ko, ki, ks, kr⟩
  | sums => exact id
  | clear =>
    rintro ⟨kq, ko, ki, ks, kr⟩
    exact ⟨Store.clearCheckpoint_places kq, ko, ki, ks, kr⟩
  | fill =>
    rintro ⟨kq, ko, ki, ks, kr⟩
    exact ⟨Store.fill_places kq, ko, ki, ks, kr⟩
  | line p l ho hi hs =>
    rintro ⟨kq, ko, ki, ks, kr⟩
    exact ⟨kq, ho.trans ko, hi.1.trans ki, hs ks, kr⟩
  | hear p source dest m hl hw =>
    rintro ⟨kq, ko, ki, ks, kr⟩
    refine ⟨kq, ko, ?_, ks, kr⟩
    simpa [queueFrame, withLine] using hl
  | trans _ _ ih ik => exact ik ∘ ih

theorem Goes.starting {p q : Part} (h : p.Goes q) : q.store.starting = p.store.starting := by
  induction h with
  | quiet h => exact h.2.2.2.1
  | send p dest m => rw [sendFrame_starting]
  | running p hw => exact Store.postRunning_starting _ _
  | post h _ =>
    obtain ⟨-, rfl⟩ := tryPost_eq_some.mp h
    exact Store.post_starting _ _ _
  | @hold p r slot value notes h =>
    obtain ⟨q, hq, rfl⟩ := Option.map_eq_some_iff.mp h
    obtain ⟨-, rfl⟩ := tryPost_eq_some.mp hq
    have unheld (u : Part) (old : Option HoldRecord) : (u.unhold old).store = u.store := by cases old <;> rfl
    have reheld (u : Part) (new : Option HoldRecord) : (u.rehold new).store = u.store := by cases new <;> rfl
    rw [reheld, unheld]
    exact Store.post_starting _ _ _
  | clear => exact Store.clearCheckpoint_starting _
  | trans _ _ ih ik => exact ik.trans ih
  | _ => rfl

/-! ### The drain and the start-up (R167, R190) -/

/-- What a drain keeps: a post that waits is made when it finds its place, and work is put aside. -/
theorem drainPosts_keeps {I : Part → Prop} (hpost : ∀ p q w, I p → p.tryPost w [] = some q → I q)
    (hwork : ∀ p work, I p → I (p.withWork work)) {p : Part} (work : List Work) (h : I p) : I (p.drainPosts work) := by
  induction work generalizing p with
  | nil => exact h
  | cons w work ih =>
    unfold drainPosts
    split
    · exact ih (hwork _ _ h)
    · split
      · exact ih (hwork _ _ h)
      · split
        · exact h
        · next q hq => exact ih (hwork _ _ (hpost _ _ _ h hq))

theorem startUp_sizes (p : Part) (load : Bool) : (p.startUp load).Sizes ∧ (p.startUp load).store.starting = false := by
  unfold startUp Sizes
  split <;> simp [resetValues, beginRecovery, assign]

theorem drain_sizes {p : Part} (load : Bool) (h : p.Sizes ∧ p.store.starting = false) :
    (p.drain load).Sizes ∧ (p.drain load).store.starting = false := by
  have hposts : (p.fill.drainPosts p.fill.store.work).Sizes ∧
      (p.fill.drainPosts p.fill.store.work).store.starting = false := by
    refine drainPosts_keeps (I := fun q => q.Sizes ∧ q.store.starting = false) ?_ (fun _ _ hq => hq) _
      ⟨(Goes.fill p).sizes h.1, h.2⟩
    rintro q r w ⟨⟨kq, ko, ki, ks, kr⟩, hstart⟩ hr
    obtain ⟨hplace, rfl⟩ := tryPost_eq_some.mp hr
    exact ⟨⟨Store.post_places kq hplace _, ko, ki, ks, kr⟩, (Store.post_starting _ _ _).trans hstart⟩
  rcases p.drain_cases load with hd | hd
  · rw [hd]; exact hposts
  · rw [hd]; exact startUp_sizes _ _

theorem Goes.sizes_starting {p q : Part} (h : p.Goes q) (hp : p.Sizes ∧ p.store.starting = false) :
    q.Sizes ∧ q.store.starting = false := ⟨h.sizes hp.1, h.starting.trans hp.2⟩

theorem follow_sizes {p : Part} (before : Part) (h : p.Sizes ∧ p.store.starting = false) :
    (p.follow before).Sizes ∧ (p.follow before).store.starting = false := by
  by_cases hd : ∃ load, p.phase = .draining load
  · obtain ⟨load, hload⟩ := hd
    unfold follow
    rw [hload]
    exact (goes_goOn _).sizes_starting (drain_sizes load h)
  · exact (goes_follow before fun load hload => hd ⟨load, hload⟩).sizes_starting h

theorem alert_journalLow_store (p before : Part) :
    ((p.journalLow before).alert).store = p.store ∧ ((p.journalLow before).alert).line = p.line ∧
      ((p.journalLow before).alert).card = p.card := by
  unfold journalLow
  split <;> exact ⟨rfl, rfl, rfl⟩

theorem command_sizes {p : Part} {f : Part → Part} (h : (f p).Sizes ∧ (f p).store.starting = false) :
    (p.command f).Sizes ∧ (p.command f).store.starting = false := by
  have hf := follow_sizes p h
  obtain ⟨hs, hl, hc⟩ := ((f p).follow p).alert_journalLow_store p
  unfold command Sizes
  rw [hs, hl, hc]
  exact hf

theorem writeComplete_sizes {p : Part} (h : p.Sizes ∧ p.store.starting = false) :
    p.writeComplete.Sizes ∧ p.writeComplete.store.starting = false := by
  unfold writeComplete
  split
  · exact h
  · next post rest hq =>
    obtain ⟨⟨kq, ko, ki, ks, kr⟩, hstart⟩ := h
    have hrest : rest.length ≤ Config.queuePlaces := by
      rw [hq] at kq
      exact (Nat.le_succ _).trans kq
    have hprogrammed : (p.programOldest post rest).Sizes := ⟨hrest, ko, ki, ks, kr⟩
    have after (q : Part) (hq : q.Sizes) (hphase : ∀ load, q.phase ≠ .draining load) :
        (((post.notes.foldl (fun r note => note.act r) (q.pump pumpFuel)).follow p).setStarting false).Sizes := by
      have hgoes := (q.goes_pump pumpFuel).trans (steady_notes post.notes _).goes
      have hout (load : Bool) : (post.notes.foldl (fun r note => note.act r) (q.pump pumpFuel)).phase ≠ .draining load := by
        rcases hgoes.phase with k | k
        · rw [k]; exact hphase load
        · simp [k]
      exact (hgoes.trans (goes_follow p hout)).sizes hq
    dsimp only
    split
    · next hp => exact ⟨after _ hprogrammed (by simpa using by simp [hp]), rfl⟩
    · next hp => exact ⟨after _ hprogrammed (by simpa using by simp [hp]), rfl⟩
    all_goals exact ⟨hprogrammed, hstart⟩

end Part

theorem Instr.effect_sizes {c : Instr} {p : Part} (h : p.Sizes ∧ p.store.starting = false) :
    (Instr.effect c p).Sizes ∧ (Instr.effect c p).store.starting = false := by
  have reset (q : Part) (hq : q.Sizes ∧ q.store.starting = false) :
      q.beginSoftReset.Sizes ∧ q.beginSoftReset.store.starting = false := hq
  by_cases hr : c = .panelRead
  · subst hr
    show p.panelRead.Sizes ∧ p.panelRead.store.starting = false
    unfold Part.panelRead
    split
    · exact h
    · dsimp only
      split
      · exact reset _ h
      · exact h
  · cases hs : Instr.isSupply c with
    | false => exact (Instr.effect_goes hs fun hc => absurd hc hr).sizes_starting h
    | true =>
      cases c <;> first
        | exact (Bool.false_ne_true hs).elim
        | dsimp only [Instr.effect]
      case powerOn =>
        unfold Part.powerOn
        split_ifs
        · exact h
        · exact ⟨by simp [Part.Sizes, Part.resetValues], rfl⟩
        · exact Part.startUp_sizes _ _
      case powerLoss =>
        split
        · exact h
        · exact ⟨by simp [Part.Sizes, Part.losePower, Part.resetValues], rfl⟩
      case resetPinAssert =>
        unfold Part.assertReset
        dsimp only
        split
        · exact reset _ h
        · exact reset _ h
        · exact reset _ h
        all_goals exact h
      case resetPinRelease => exact h
      case configLoadDone =>
        unfold Part.loadDone
        split <;> exact h
      case writeComplete => exact Part.writeComplete_sizes h

/-! ### The path list and the jam log -/

/-- The path list and the jam log are within their places, and a jammed path is empty (R47, R57, R59). -/
def PathMonitor.Within (m : PathMonitor) : Prop :=
  m.sheets.length ≤ Config.pathPlaces ∧ m.log.length ≤ 8 ∧ (m.jammed = true → m.sheets = [])

theorem writeJam_length {log : List JamEntry} (h : log.length ≤ 8) (e : JamEntry) : (writeJam log e).length ≤ 8 := by
  unfold writeJam
  split
  · simpa using ‹_›
  · simp; omega

theorem changeFirst_length (sheets : List Sheet) (test : Sheet → Bool) (change : Sheet → Sheet) :
    (changeFirst sheets test change).length = sheets.length := by
  induction sheets with
  | nil => rfl
  | cons sheet rest ih =>
    unfold changeFirst
    split
    · rfl
    · simp [ih]

namespace Part

/-- A jam leaves the list empty, the path jammed and one more entry in the log (R57, R59). -/
theorem declareJam_path (p : Part) (kind : JamKind) (sensor : Option Sensor) (code fed : Option Nat) :
    ∃ e, (p.declareJam kind sensor code fed).path =
      { p.path with jammed := true, sheets := [], log := writeJam p.path.log e } := by
  unfold declareJam
  dsimp only
  cases fed <;> exact ⟨_, by simp; rfl⟩

theorem declareJam_within {p : Part} (h : p.path.Within) (kind : JamKind) (sensor : Option Sensor) (code fed : Option Nat) :
    (p.declareJam kind sensor code fed).path.Within := by
  obtain ⟨e, he⟩ := p.declareJam_path kind sensor code fed
  rw [he]
  exact ⟨Nat.zero_le _, writeJam_length h.2.1 e, fun _ => rfl⟩

/-- A list no longer than before, of a path that is not jammed. -/
theorem withSheets_within {p : Part} (h : p.path.Within) (hj : p.path.jammed = false) {sheets : List Sheet}
    (hl : sheets.length ≤ Config.pathPlaces) : (p.withSheets sheets).path.Within := by
  refine ⟨hl, h.2.1, fun hjam => ?_⟩
  exact absurd (hj.symm.trans hjam) Bool.false_ne_true

theorem cover_within {p : Part} (h : p.path.Within) (sensor : Sensor) (b : Bool) :
    (p.withPath (p.path.cover sensor b)).path.Within := by
  unfold PathMonitor.Within
  cases sensor <;> exact h

theorem feed_within {p : Part} (h : p.path.Within) (media : Nat) (c : Colour) (twoSided : Bool) :
    (p.feed media c twoSided).path.Within := by
  have hq : (if !p.path.jammed && p.job.state.ownsFeeds then p.countFeed.touchActivity else p.countFeed).path = p.path := by
    split <;> simp
  unfold feed
  dsimp only
  generalize (if !p.path.jammed && p.job.state.ownsFeeds then p.countFeed.touchActivity else p.countFeed) = q at hq
  rw [← hq] at h
  have joined (sheet : Sheet) (hf : ¬Config.pathPlaces ≤ q.path.sheets.length) :
      (q.path.sheets ++ [sheet]).length ≤ Config.pathPlaces := by
    simpa using Nat.lt_of_not_le hf
  split_ifs with hj hd hf
  · simpa using h
  · exact declareJam_within h _ _ _ _
  · exact declareJam_within h _ _ _ _
  · exact withSheets_within (p := { q with job := _ }) h (by simpa using hj) (joined _ hf)
  · exact withSheets_within h (by simpa using hj) (joined _ hf)

theorem clearTest_within {p : Part} (h : p.path.Within) : p.clearTest.path.Within := by
  unfold clearTest
  split
  · simp only [jobClear_frame]
    exact ⟨h.1, h.2.1, fun hjam => nomatch hjam⟩
  · exact h

theorem sensorOn_within {p : Part} (h : p.path.Within) (sensor : Sensor) : (p.sensorOn sensor).path.Within := by
  have hq := cover_within h sensor true
  unfold sensorOn
  dsimp only
  generalize p.withPath (p.path.cover sensor true) = q at hq
  split
  · exact hq
  · next hj =>
    unfold matchOn
    dsimp only
    split
    · exact declareJam_within hq _ _ _ _
    · split
      · exact declareJam_within hq _ _ _ _
      · split
        · exact withSheets_within hq (by simpa using hj) (by rw [changeFirst_length]; exact hq.1)
        · exact declareJam_within hq _ _ _ _

theorem moveOn_within {p : Part} (h : p.path.Within) (hj : p.path.jammed = false) (sensor : Sensor) (next : Stage)
    (window : Nat) : (p.moveOn sensor next window).path.Within := by
  unfold moveOn
  split
  · exact withSheets_within h hj (by rw [changeFirst_length]; exact h.1)
  · exact declareJam_within h _ _ _ _

theorem deliver_within {p : Part} (h : p.path.Within) (hj : p.path.jammed = false) : p.deliver.path.Within := by
  unfold deliver
  split
  · exact declareJam_within h _ _ _ _
  · dsimp only
    have := withSheets_within h hj
      (List.length_eraseP_le.trans h.1 : (p.path.sheets.eraseP fun x => x.isAt .atExit).length ≤ _)
    split <;> simpa using this

theorem sensorOff_within {p : Part} (h : p.path.Within) (sensor : Sensor) : (p.sensorOff sensor).path.Within := by
  have hq := cover_within h sensor false
  unfold sensorOff
  dsimp only
  generalize p.withPath (p.path.cover sensor false) = q at hq
  split
  · exact clearTest_within hq
  · next hj =>
    have hj' : q.path.jammed = false := by simpa using hj
    cases sensor with
    | reg => exact moveOn_within hq hj' _ _ _
    | fuse => exact moveOn_within hq hj' _ _ _
    | exit => exact deliver_within hq hj'

theorem openDoor_within {p : Part} (h : p.path.Within) : p.openDoor.path.Within := by
  have hq : (p.withPath { p.path with doorOpen := true }).path.Within := h
  unfold openDoor
  dsimp only
  split
  · exact declareJam_within hq _ _ _ _
  · exact hq

theorem closeDoor_within {p : Part} (h : p.path.Within) : p.closeDoor.path.Within := by
  have hq : (p.withPath { p.path with doorOpen := false }).path.Within := h
  unfold closeDoor
  dsimp only
  split
  · exact clearTest_within hq
  · exact hq

theorem engineStop_within {p : Part} (h : p.path.Within) (code : Option Nat) : (p.engineStop code).path.Within := by
  unfold engineStop
  split
  · exact h
  · exact declareJam_within h _ _ _ _

theorem deadline_within {p : Part} (h : p.path.Within) (place : Nat) : (p.deadline place).path.Within := by
  unfold deadline
  split
  · exact h
  · split
    · exact h
    · exact declareJam_within h _ _ _ _

theorem within_empty : PathMonitor.Within {} := ⟨Nat.zero_le _, Nat.zero_le _, fun _ => rfl⟩

theorem startUp_path (p : Part) (load : Bool) : (p.startUp load).path = {} := by
  unfold startUp
  split <;> simp [resetValues, beginRecovery, assign]

/-- What follows an event leaves the path as it is, or begins a start-up with an empty path (R190). -/
theorem follow_within {p : Part} (before : Part) (h : p.path.Within) : (p.follow before).path.Within := by
  by_cases hd : ∃ load, p.phase = .draining load
  · obtain ⟨load, hload⟩ := hd
    have hgo (q : Part) : q.goOn.path = q.path := q.goOn_sameBase.2.2.2.1
    have hposts : (p.fill.drainPosts p.fill.store.work).path = p.path :=
      (p.fill_sameBase.trans (p.fill.drainPosts_sameBase _)).2.2.2.1
    unfold follow
    rw [hload]
    dsimp only
    rw [hgo]
    rcases p.drain_cases load with hdrain | hdrain
    · rw [hdrain, hposts]; exact h
    · rw [hdrain, startUp_path]; exact within_empty
  · rw [(follow_sameBase fun load hload => hd ⟨load, hload⟩).2.2.2.1]
    exact h

theorem command_within {p : Part} {f : Part → Part} (h : (f p).path.Within) : (p.command f).path.Within := by
  have hsame : (p.command f).path = ((f p).follow p).path := by simp [command]
  rw [hsame]
  exact follow_within p h

theorem writeComplete_within {p : Part} (h : p.path.Within) : p.writeComplete.path.Within := by
  unfold writeComplete
  split
  · exact h
  · next post rest hq =>
    have after (q : Part) (hq : q.path.Within) :
        (((post.notes.foldl (fun r note => note.act r) (q.pump pumpFuel)).follow p).setStarting false).path.Within := by
      refine follow_within p ?_
      rw [((q.pump_sameBase pumpFuel).trans (notes_sameBase post.notes _)).2.2.2.1]
      exact hq
    dsimp only
    split
    · exact after _ h
    · exact after _ h
    all_goals exact h

end Part

theorem Instr.effect_within {c : Instr} {p : Part} (h : p.path.Within) : (Instr.effect c p).path.Within := by
  cases hs : Instr.isSupply c with
  | true =>
    cases c <;> first
      | exact (Bool.false_ne_true hs).elim
      | dsimp only [Instr.effect]
    case powerOn =>
      unfold Part.powerOn
      split_ifs
      · exact h
      · exact Part.within_empty
      · rw [Part.startUp_path]; exact Part.within_empty
    case powerLoss =>
      split
      · exact h
      · exact Part.within_empty
    case resetPinAssert =>
      unfold Part.assertReset
      dsimp only
      split <;> exact h
    case resetPinRelease => exact h
    case configLoadDone =>
      unfold Part.loadDone
      split <;> exact h
    case writeComplete => exact Part.writeComplete_within h
  | false =>
    cases he : Instr.isEngine c with
    | false => rw [(Instr.effect_keepsPath hs he p).2.2.2]; exact h
    | true =>
      have serves {f : Part → Part} (hf : (f p).path.Within) : (inService f p).path.Within :=
        inService_keeps (I := fun q => q.path.Within) h fun _ => hf
      cases c <;> first
        | exact (Bool.false_ne_true he).elim
        | dsimp only [Instr.effect]
      case sheetFed =>
        refine serves ?_
        unfold Part.feedMessage
        split
        · split
          · exact Part.feed_within h _ _ _
          · exact Part.engineStop_within h _
        · exact Part.engineStop_within h _
      case sensorOn =>
        refine serves ?_
        unfold Part.sensorMessage
        split
        · exact Part.sensorOn_within h _
        · exact Part.engineStop_within h _
      case sensorOff =>
        refine serves ?_
        unfold Part.sensorMessage
        split
        · exact Part.sensorOff_within h _
        · exact Part.engineStop_within h _
      case doorOpen => exact serves (Part.openDoor_within h)
      case doorClosed => exact serves (Part.closeDoor_within h)
      case engineFault => exact serves (Part.engineStop_within h _)
      case engineMessageGarbled => exact serves (Part.engineStop_within h _)
      case sheetDeadlineExpiry => exact serves (Part.deadline_within h _)

/-! ### Every command -/

theorem Part.inPlaces_iff (p : Part) : p.InPlaces ↔ (p.Sizes ∧ p.store.starting = false) ∧ p.path.Within := by
  unfold Part.Sizes PathMonitor.Within
  tauto

theorem Instr.result_inPlaces (c : Instr) (p : Part) (h : p.InPlaces) : (Instr.result c p).InPlaces := by
  rw [Part.inPlaces_iff] at *
  obtain ⟨hsizes, hpath⟩ := h
  cases hb : Instr.isBare c with
  | false =>
    rw [Instr.result_event hb]
    exact ⟨Part.command_sizes (Instr.effect_sizes hsizes), Part.command_within (Instr.effect_within hpath)⟩
  | true =>
    rw [Instr.result_bare hb]
    exact ⟨Instr.effect_sizes hsizes, Instr.effect_within hpath⟩

/-- Settles O7: a list grows by one place at a time, and only where the operation that appends to it has tested for a free one. -/
theorem queuesStayWithinTheirPlaces : Obligations.QueuesStayWithinTheirPlaces := by
  intro s t hs h
  refine step_keeps (I := Part.InPlaces) (fun p hp => ?_) Instr.result_inPlaces hs h
  obtain ⟨now, hnow⟩ := p.tick_frame
  rw [hnow]
  exact hp

end Sys2Proof.Machine
end


section
/-! Proofs about the charge unit: what a delivered sheet pays (R6, R11, R12, R13), and quotes (R18, R19). -/

namespace Sys2Proof.Machine

open Sys2Proof

/-! ### Paying a sheet's impressions (R11, R12) -/

theorem payImpressions_left (cs : List Nat) (pay : Payment) : (cs.foldl payImpression pay).left = pay.left - cs.sum := by
  induction cs generalizing pay with
  | nil => simp
  | cons c cs ih => simp only [List.foldl_cons, ih, payImpression, List.sum_cons]; omega

theorem payImpressions_paid (cs : List Nat) (pay : Payment) :
    (cs.foldl payImpression pay).paid = pay.paid + min cs.sum pay.left := by
  induction cs generalizing pay with
  | nil => simp
  | cons c cs ih => simp only [List.foldl_cons, ih, payImpression, List.sum_cons]; omega

theorem payImpressions_unbilled (cs : List Nat) (pay : Payment) :
    (cs.foldl payImpression pay).unbilled = pay.unbilled + (cs.sum - pay.left) := by
  induction cs generalizing pay with
  | nil => simp
  | cons c cs ih => simp only [List.foldl_cons, ih, payImpression, List.sum_cons]; omega

/-- An impression finds nothing left exactly when the ones before it come to the whole reserve (R12). -/
theorem payImpressions_unpermitted (cs : List Nat) (pay : Payment) :
    (cs.foldl payImpression pay).unpermitted =
      pay.unpermitted +
        (List.range cs.length).countP (fun i => decide (0 < cs.getD i 0) && decide (pay.left ≤ (cs.take i).sum)) := by
  induction cs generalizing pay with
  | nil => simp
  | cons c cs ih =>
    have hleft : ∀ n, (pay.left - min c pay.left ≤ n) = (pay.left ≤ c + n) := fun n => propext (by omega)
    rw [List.foldl_cons, ih, List.length_cons, List.range_succ_eq_map, List.countP_cons, List.countP_map]
    simp only [payImpression, Function.comp_def, List.getD_cons_succ, List.take_succ_cons, List.sum_cons, hleft]
    by_cases hfirst : 0 < c ∧ pay.left = 0
    · rw [if_pos hfirst, if_pos (by simpa using hfirst), Nat.add_assoc, Nat.add_comm 1]
      rfl
    · rw [if_neg hfirst, if_neg (by simpa using hfirst)]
      rfl

theorem contributions_length (v : Values) (prices : List Nat) (delivered : Nat) :
    (contributions v delivered prices).length = prices.length := by
  induction prices generalizing delivered with
  | nil => rfl
  | cons price prices ih => simp [contributions, ih]

theorem sidePrices_length (v : Values) (media : Nat) (c : Colour) (twoSided : Bool) :
    (sidePrices v media c twoSided).length = sheetImpressions twoSided := by
  cases twoSided <;> rfl

/-! ### Charging a sheet (R6, R11, R13) -/

theorem chargeSheet_reserved (v : Values) (acc : Accumulators) (sheet : Sheet) :
    (chargeSheet v acc sheet).reserved = acc.reserved - sheet.reserve := rfl

/-- What a sheet pays is never above the reserve it gives back, so the room does not shrink (R13). -/
theorem chargeSheet_within (v : Values) {acc : Accumulators} {sheet : Sheet} (h : sheet.reserve ≤ acc.reserved) :
    (chargeSheet v acc sheet).gross + (chargeSheet v acc sheet).reserved ≤ acc.gross + acc.reserved := by
  have hpaid : (paySheet v acc.delivered sheet.reserve (sidePrices v sheet.media sheet.colour sheet.twoSided)).paid ≤
      sheet.reserve := by
    rw [paySheet, payImpressions_paid]
    simp
  simp only [chargeSheet]
  omega

/-- A feed's reserve is taken from the room alone (R8, R13). -/
theorem reserve_within {limit gross reserved : Nat} (h : gross + reserved ≤ 1000 * limit) (full : Nat) :
    gross + (reserved + min full (room limit gross reserved)) ≤ 1000 * limit := by
  unfold room
  omega

/-- Settles O22: each field of the payment by induction on the impressions, and the bounds of R13 from the reserve that a feed takes
and a delivery or a spoil gives back. -/
theorem deliveriesAndFeedsStayWithinTheHold : Obligations.DeliveriesAndFeedsStayWithinTheHold := by
  refine ⟨fun v acc sheet => ?_, fun v acc limit full sheet hroom => ⟨reserve_within hroom full, chargeSheet_within v, ?_⟩⟩
  · have hlength := (contributions_length v (sidePrices v sheet.media sheet.colour sheet.twoSided) acc.delivered).trans
      (sidePrices_length v sheet.media sheet.colour sheet.twoSided)
    refine ⟨hlength, ?_, rfl, ?_, ?_, ?_, ?_, ?_⟩
    · simp [chargeSheet, paySheet, payImpressions_paid]
    · simp [chargeSheet, saturate, contributions_length]
    · simp [chargeSheet, saturate, paySheet, payImpressions_unbilled]
    · simp [chargeSheet, saturate, paySheet, payImpressions_unpermitted]
    · simp [chargeSheet, saturate, contributions_length]
    · simp [chargeSheet, saturate, contributions_length]
  · omega

/-! ### Quotes (R18) -/

theorem tierPercent_le {v : Values} (h2 : v.t2 ≤ 100) (h3 : v.t3 ≤ 100) (n : Nat) : tierPercent v n ≤ 100 := by
  unfold tierPercent
  split_ifs
  · exact le_rfl
  · exact h2
  · exact h3

/-- A sheet's contributions stay within its full reserve, whatever its ordinals (R5, R7). -/
theorem contributions_le_fullReserve {v : Values} (h2 : v.t2 ≤ 100) (h3 : v.t3 ≤ 100) (media : Nat) (c : Colour)
    (twoSided : Bool) (delivered : Nat) :
    (contributions v delivered (sidePrices v media c twoSided)).sum ≤ fullReserve v media c twoSided := by
  have hside : ∀ price n, contribution v price n ≤ price * 100 := fun price n =>
    Nat.mul_le_mul_left price (tierPercent_le h2 h3 n)
  cases twoSided with
  | false => simpa [sidePrices, contributions, fullReserve, backPrice] using hside (frontPrice v media c) (delivered + 1)
  | true =>
    have hfront := hside (frontPrice v media c) (delivered + 1)
    have hback := hside (backPrice v media c true) (delivered + 1 + 1)
    simp only [sidePrices, contributions, fullReserve, if_true, List.sum_cons, List.sum_nil, Nat.add_mul]
    omega

/-- A run of equal sheets charged one by one, each from its full reserve, comes to the quote; what is reserved beyond them stays. -/
theorem chargeSheets_quote {v : Values} {sheet : Sheet} (h2 : v.t2 ≤ 100) (h3 : v.t3 ≤ 100)
    (hr : sheet.reserve = fullReserve v sheet.media sheet.colour sheet.twoSided) (reserved : Nat) (n : Nat) (hn : n ≤ 998001) :
    let charged := (List.replicate n sheet).foldl (chargeSheet v) { reserved := reserved }
    charged.gross = quoteGross v sheet.media sheet.colour sheet.twoSided n ∧
      charged.delivered = n * sheetImpressions sheet.twoSided ∧ charged.reserved = reserved - n * sheet.reserve ∧
      charged.unbilled = 0 ∧ charged.unpermitted = 0 := by
  induction n with
  | zero => simp [quoteGross]
  | succ n ih =>
    obtain ⟨hgross, hdelivered, hreserved, hunbilled, hunpermitted⟩ := ih (by omega)
    have himpressions : sheetImpressions sheet.twoSided ≤ 2 := by unfold sheetImpressions; split <;> omega
    have hmul : n * sheetImpressions sheet.twoSided ≤ n * 2 := Nat.mul_le_mul_left n himpressions
    have hpays := contributions_le_fullReserve h2 h3 sheet.media sheet.colour sheet.twoSided (n * sheetImpressions sheet.twoSided)
    rw [← hr] at hpays
    simp only [List.replicate_succ', List.foldl_append, List.foldl_cons, List.foldl_nil]
    set charged := (List.replicate n sheet).foldl (chargeSheet v) { reserved := reserved }
    set cs := contributions v (n * sheetImpressions sheet.twoSided) (sidePrices v sheet.media sheet.colour sheet.twoSided)
      with hcs
    have hnone : (List.range cs.length).countP
        (fun i => decide (0 < cs.getD i 0) && decide (sheet.reserve ≤ (cs.take i).sum)) = 0 := by
      rw [List.countP_eq_zero]
      intro i hi
      rw [List.mem_range] at hi
      have hsplit : (cs.take i).sum + cs[i] ≤ cs.sum := by
        have := List.sum_take_succ cs i hi
        have hle : (cs.take (i + 1)).sum ≤ cs.sum := by
          conv_rhs => rw [← List.take_append_drop (i + 1) cs, List.sum_append]
          omega
        omega
      simp only [List.getD_eq_getElem?_getD, List.getElem?_eq_getElem hi, Option.getD_some, Bool.and_eq_true,
        decide_eq_true_eq, not_and]
      omega
    refine ⟨?_, ?_, ?_, ?_, ?_⟩
    · simp only [chargeSheet, paySheet, payImpressions_paid, hgross, hdelivered, quoteGross, ← hcs]
      omega
    · simp only [chargeSheet, saturate, hdelivered, sidePrices_length, Config.max32, Nat.succ_mul]
      omega
    · rw [chargeSheet_reserved, hreserved, Nat.succ_mul]
      omega
    · simp only [chargeSheet, saturate, paySheet, payImpressions_unbilled, hdelivered, ← hcs, hunbilled]
      omega
    · simp only [chargeSheet, saturate, paySheet, payImpressions_unpermitted, hdelivered, ← hcs, hunpermitted, hnone]
      simp

/-- The quote's gross is the sum over its ordinals, each front before its back (R5, R18). -/
theorem quoteGross_oneSided (v : Values) (media : Nat) (c : Colour) (sheets : Nat) :
    quoteGross v media c false sheets =
      ((List.range sheets).map (fun i => contribution v (frontPrice v media c) (i + 1))).sum := by
  induction sheets with
  | zero => rfl
  | succ n ih => simp [quoteGross, ih, List.range_succ, sidePrices, contributions, sheetImpressions]

theorem quoteGross_twoSided (v : Values) (media : Nat) (c : Colour) (sheets : Nat) :
    quoteGross v media c true sheets =
      ((List.range (sheets * 2)).map
          (fun i => contribution v (if i % 2 = 1 then backPrice v media c true else frontPrice v media c) (i + 1))).sum := by
  induction sheets with
  | zero => rfl
  | succ n ih =>
    rw [show (n + 1) * 2 = n * 2 + 1 + 1 by omega, List.range_succ, List.range_succ]
    simp only [quoteGross, ih, sidePrices, contributions, sheetImpressions, if_true, List.map_append, List.sum_append,
      List.map_cons, List.map_nil, List.sum_cons, List.sum_nil]
    rw [if_neg (by omega : ¬n * 2 % 2 = 1), if_pos (by omega : (n * 2 + 1) % 2 = 1)]
    omega

/-! ### The answer to QUOTE (R18, R19) -/

/-- In service, with the station in service and no response unread, a request is answered by its own decision. -/
theorem Part.request_taken {p : Part} (hs : p.phase = .serving) (ho : p.config.outcome ≠ .bad)
    (hr : p.panel.response = none) (code : Nat) (allowed : Bool) (decision : Part → Answer) :
    p.request code allowed decision = (decision p).part.respond code (decision p).result (decision p).body := by
  have hon : p.phase ≠ .off := by simp [hs]
  have hturned : p.turnedAway allowed = none := by simp [Part.turnedAway, Part.serving, Part.outOfService, hs, ho]
  unfold Part.request Part.requestWith
  rw [if_neg hon, hr, hturned]

theorem Part.quoteRequest_inRange (p : Part) {media colour sides sheets cls : Nat} {c : Colour} {twoSided : Bool}
    (hc : colourOf colour = some c) (ht : twoSidedOf sides = some twoSided) (hm : media ≤ 7) (hn : sheets ≤ 998001)
    (hcls : cls ≤ 3) :
    p.quoteRequest media colour sides sheets cls = p.ok (p.quoteBody media c twoSided sheets cls) := by
  simp only [Part.quoteRequest, hc, ht]
  exact if_neg (by omega)

theorem Part.quoteRequest_outOfRange (p : Part) {media colour sides sheets cls : Nat}
    (h : ¬(media ≤ 7 ∧ colour ≤ 1 ∧ (sides = 1 ∨ sides = 2) ∧ sheets ≤ 998001 ∧ cls ≤ 3)) :
    p.quoteRequest media colour sides sheets cls = p.refuse .range := by
  unfold Part.quoteRequest
  split
  · next c twoSided hc ht =>
    have hcolour : colour ≤ 1 := by
      unfold colourOf at hc
      split at hc <;> first | omega | cases hc
    have hsides : sides = 1 ∨ sides = 2 := by
      unfold twoSidedOf at ht
      split at ht <;> first | omega | cases ht
    exact if_pos (by omega)
  · rfl

theorem colourOf_of_le {colour : Nat} (h : colour ≤ 1) : ∃ c, colourOf colour = some c ∧ colourBit c = colour := by
  rcases (by omega : colour = 0 ∨ colour = 1) with rfl | rfl
  · exact ⟨.mono, rfl, rfl⟩
  · exact ⟨.colour, rfl, rfl⟩

/-- Settles O23: charging equal sheets by induction on their number, and the ordinals of a quote taken a sheet at a time. -/
theorem quotesComeToTheFinalCharge : Obligations.QuotesComeToTheFinalCharge := by
  refine ⟨fun v sheet sheets h2 h3 hn hr => ?charged, fun s media colour sides sheets cls hs ho hresponse => ⟨?taken, ?refused⟩⟩
  case charged =>
    obtain ⟨hgross, hdelivered, hreserved, hrest⟩ := chargeSheets_quote h2 h3 hr (sheets * sheet.reserve) sheets hn
    exact ⟨hgross, hdelivered, by rw [hreserved, Nat.sub_self], hrest⟩
  case taken =>
    rintro ⟨hm, hcolour, hsides, hn, hcls⟩
    obtain ⟨c, hc, hbit⟩ := colourOf_of_le hcolour
    have hfront : s.part.config.values.base.getD (2 * media + colour) 0 = frontPrice s.part.config.values media c := by
      rw [frontPrice, hbit]
    simp only [exec, execQuote, hfront]
    rcases hsides with rfl | rfl
    · rw [Part.request_taken hs ho hresponse, Part.quoteRequest_inRange s.part hc rfl hm hn hcls]
      simp [Part.ok, Part.quoteBody, quoteCharge, quoteGross_oneSided, sheetImpressions, Part.respond, Part.answering,
        Config.maxHold]
    · rw [Part.request_taken hs ho hresponse, Part.quoteRequest_inRange s.part hc rfl hm hn hcls]
      simp [Part.ok, Part.quoteBody, quoteCharge, quoteGross_twoSided, backPrice, sheetImpressions, Part.respond,
        Part.answering, Config.maxHold]
  case refused =>
    intro hbad
    simp only [exec, execQuote]
    rw [Part.request_taken hs ho hresponse, Part.quoteRequest_outOfRange s.part hbad]
    rfl

end Sys2Proof.Machine
end


section
/-! Proofs about the sums of the open job (R13, R29): what the engine's events do to them, and what every command keeps. -/

-- One theorem after another: many small theorems elaborated at once need more threads than the check allows.
set_option Elab.async false

namespace Sys2Proof.Machine

open Sys2Proof

/-! ### The sheets of the open job -/

/-- What the sums of a job rest on in a sheet. -/
def Sheet.claim (sheet : Sheet) : Option Nat × Option Nat × Nat := (sheet.owner, sheet.index, sheet.reserve)

/-- A change of a sheet that keeps its claim, wherever it is made, keeps the claims of the list. -/
theorem changeFirst_claims (sheets : List Sheet) (test : Sheet → Bool) {change : Sheet → Sheet}
    (h : ∀ sheet, (change sheet).claim = sheet.claim) :
    (changeFirst sheets test change).map Sheet.claim = sheets.map Sheet.claim := by
  induction sheets with
  | nil => rfl
  | cons sheet rest ih =>
    unfold changeFirst
    split
    · simp [h]
    · simp [ih]

namespace Part

/-- The sheets of the job carry the claims of the list that name the job. -/
theorem owned_claims (p : Part) :
    p.owned.map Sheet.claim = (p.path.sheets.map Sheet.claim).filter (fun c => decide (c.1 = some p.job.number)) := by
  rw [owned, List.filter_map]
  rfl

theorem owned_reserves (p : Part) : p.owned.map Sheet.reserve = (p.owned.map Sheet.claim).map (fun c => c.2.2) := by
  rw [List.map_map]
  rfl

theorem owned_indexed (p : Part) :
    p.owned.countP (fun sheet => sheet.index.isSome) = (p.owned.map Sheet.claim).countP (fun c => c.2.1.isSome) := by
  rw [List.countP_map]
  rfl

theorem owned_eq_nil {p : Part} (h : p.path.sheets = []) : p.owned = [] := by simp [owned, h]

/-- The sums rest on the job's core, on the claims of the sheets, and for a JAMMED job on the path still jammed. -/
theorem JobSums.of_claims {p q : Part} (h : p.JobSums) (hj : q.job.core = p.job.core)
    (hs : q.path.sheets.map Sheet.claim = p.path.sheets.map Sheet.claim)
    (hjam : p.path.jammed = true → q.path.jammed = true) : q.JobSums := by
  simp only [Job.core, Prod.mk.injEq] at hj
  obtain ⟨hstate, -, hacc, hlimit, hposition, hassigned, hplan, hnumber⟩ := hj
  have hclaims : q.owned.map Sheet.claim = p.owned.map Sheet.claim := by rw [owned_claims, owned_claims, hs, hnumber]
  have hempty {sheets : List Sheet} (he : sheets.map Sheet.claim = []) : sheets = [] := List.map_eq_nil_iff.mp he
  have hwithin (hp : p.JobWithin) : q.JobWithin := by
    obtain ⟨hcharge, hreserved, hindexed, hroom, hready, hjammed⟩ := hp
    unfold JobWithin Job.amount Job.positions at *
    rw [owned_reserves] at hreserved ⊢
    rw [owned_indexed] at hindexed ⊢
    rw [hacc, hlimit, hposition, hassigned, hplan, hstate, hclaims]
    refine ⟨hcharge, hreserved, hindexed, hroom, hready, fun hst => ?_⟩
    obtain ⟨hpath, hsheets⟩ := hjammed hst
    exact ⟨hjam hpath, hempty (by rw [hs, hsheets]; rfl)⟩
  unfold JobSums at *
  rw [hstate, hacc, hposition, hassigned]
  cases hst : p.job.state <;> rw [hst] at h <;> first
    | trivial
    | exact hwithin h
    | (obtain ⟨hacc', hposition', hassigned', howned⟩ := h
       exact ⟨hacc', hposition', hassigned', hempty (by rw [hclaims, howned]; rfl)⟩)

/-- A funded job keeps to its sums in terms of `JobWithin`; a job in AUTHORIZE has none yet; in the other states there are none. -/
theorem JobSums.of_cases {p : Part} (hfunded : p.job.state.takesTopups = true → p.JobWithin)
    (hasking : p.job.state = .authorize → p.Fresh) : p.JobSums := by
  unfold JobSums
  cases hs : p.job.state <;> rw [hs] at hfunded hasking <;> first
    | trivial
    | exact hfunded rfl
    | exact hasking rfl

theorem JobSums.within {p : Part} (h : p.JobSums) (hs : p.job.state.takesTopups = true) : p.JobWithin :=
  (jobSums_iff_within hs).mp h

theorem JobSums.fresh {p : Part} (h : p.JobSums) (hs : p.job.state = .authorize) : p.Fresh := by
  unfold JobSums at h
  rw [hs] at h
  exact h

theorem takesTopups_of_ownsFeeds {st : JobState} (h : st.ownsFeeds = true) : st.takesTopups = true := by
  cases st <;> first | rfl | cases h

/-! ### Spoiling and jams (R10, R39, R58) -/

theorem spoilSheet_job (p : Part) (sheet : Sheet) :
    (p.spoilSheet sheet).job =
      if p.owns sheet then
        { p.job with
          spoiled := p.job.spoiled + 1, acc := { p.job.acc with reserved := p.job.acc.reserved - sheet.reserve } }
      else p.job := by
  unfold spoilSheet raiseMeter
  split <;> rfl

/-- The sheets of a list are spoiled: the job counts its own, and their reserves return (R10, R58). -/
theorem spoilSheets_job (sheets : List Sheet) (p : Part) :
    (sheets.foldl spoilSheet p).job =
      { p.job with
        spoiled := p.job.spoiled + (sheets.filter p.owns).length
        acc := { p.job.acc with reserved := p.job.acc.reserved - ((sheets.filter p.owns).map Sheet.reserve).sum } } := by
  induction sheets generalizing p with
  | nil => rfl
  | cons sheet sheets ih =>
    have howns : (p.spoilSheet sheet).owns = p.owns := by
      have hnumber : (p.spoilSheet sheet).job.number = p.job.number := by
        rw [spoilSheet_job]
        split <;> rfl
      funext x
      simp only [owns, hnumber]
    rw [List.foldl_cons, ih, howns, spoilSheet_job]
    cases hown : p.owns sheet with
    | true => simp [hown, Nat.sub_sub, Nat.add_assoc, Nat.add_comm 1]
    | false => simp [hown]

theorem spoilSheets_path (sheets : List Sheet) (p : Part) : (sheets.foldl spoilSheet p).path = p.path := by
  induction sheets generalizing p with
  | nil => rfl
  | cons sheet sheets ih =>
    rw [List.foldl_cons, ih]
    unfold spoilSheet raiseMeter
    split <;> rfl

/-- A job with no sheet left in the path and no reserve takes the jam within its sums (R29, R39). -/
theorem jobJam_sums {p : Part} (hpath : p.path.jammed = true ∧ p.path.sheets = [])
    (hfunded : p.job.state.takesTopups = true →
      p.job.state ≠ .jammed ∧ p.job.acc.gross ≤ 1000 * p.job.amount ∧ p.job.acc.reserved = 0 ∧
        p.job.position ≤ p.job.positions ∧ (p.job.state = .ready → p.job.position = 0))
    (hasking : p.job.state = .authorize → p.job.acc = {} ∧ p.job.position = 0 ∧ p.job.assigned = 0) :
    p.jobJam.JobSums := by
  have counted {q : Part} (hs : q.job.state.takesTopups = true) (hq : q.path = p.path)
      (hj : q.job.acc = p.job.acc ∧ q.job.limit = p.job.limit ∧ q.job.plan = p.job.plan ∧
        q.job.position = p.job.position ∧ q.job.assigned = p.job.position)
      (hready : q.job.state = .ready → p.job.state = .ready) (hf : p.job.state.takesTopups = true) : q.JobSums := by
    obtain ⟨-, hcharge, hreserved, hposition, hpositionReady⟩ := hfunded hf
    obtain ⟨hacc, hlimit, hplan, hpos, hassigned⟩ := hj
    obtain ⟨hjammed, hsheets⟩ := hpath
    rw [jobSums_iff_within hs]
    unfold JobWithin Job.amount Job.positions at *
    rw [owned_eq_nil (by rw [hq, hsheets]), hq, hacc, hlimit, hplan, hpos, hassigned, hreserved]
    exact ⟨hcharge, rfl, rfl, hposition, fun hr => hpositionReady (hready hr), fun _ => ⟨hjammed, hsheets⟩⟩
  unfold jobJam
  split
  · next h =>
    exact counted (by rw [setJobState_job]; rfl) (by simp) (by rw [setJobState_job]; exact ⟨rfl, rfl, rfl, rfl, rfl⟩)
      (fun hr => by rw [setJobState_job] at hr; cases hr) (by rw [h]; rfl)
  · next h =>
    exact counted (by rw [setJobState_job]; rfl) (by simp) (by rw [setJobState_job]; exact ⟨rfl, rfl, rfl, rfl, rfl⟩)
      (fun hr => by rw [setJobState_job] at hr; cases hr) (by rw [h]; rfl)
  · next h => exact counted (by show p.job.state.takesTopups = true; rw [h]; rfl) rfl ⟨rfl, rfl, rfl, rfl, rfl⟩ id (by rw [h]; rfl)
  · next h => exact counted (by show p.job.state.takesTopups = true; rw [h]; rfl) rfl ⟨rfl, rfl, rfl, rfl, rfl⟩ id (by rw [h]; rfl)
  · next h => unfold JobSums; rw [h]; trivial
  · next h =>
    obtain ⟨hacc, hposition, hassigned⟩ := hasking h
    exact Fresh.sums ⟨hacc, hposition, hassigned, owned_eq_nil hpath.2⟩ (.inl h)
  · next h => exact absurd h (hfunded (by rw [h]; rfl)).1
  · next h => unfold JobSums; rw [h]; trivial

/-- The part whose path has jammed, its list and PERMIT gone, and its sheets spoiled (R57, R58). -/
def spoilPath (p : Part) : Part :=
  p.path.sheets.foldl spoilSheet { p with permit := false, path := { p.path with jammed := true, sheets := [] } }

/-- The fed sheet that caused a jam is spoiled too (R58). -/
def spoilCause (p : Part) (fed : Option Nat) : Part :=
  match fed with
  | none => p
  | some media => p.spoilFed media p.job.state.losesFeeds

/-- The entry of a jam in the jam log (R59). -/
def jamEntry (p : Part) (kind : JamKind) (sensor : Option Sensor) (code fed : Option Nat) : JamEntry :=
  { kind := kind, sensor := sensor, code := code
    job := if p.job.state.ownsFeeds then some p.job.number else none
    first := p.firstIndex p.path.sheets
    spoiled := p.path.sheets.length + (if fed.isSome then 1 else 0)
    time := p.seconds }

/-- A jam, in the order of R57: the path is spoiled, the cause with it, the jam is logged, and the job takes it. -/
theorem declareJam_eq (p : Part) (kind : JamKind) (sensor : Option Sensor) (code fed : Option Nat) :
    p.declareJam kind sensor code fed =
      (Part.jobJam
        { p.spoilPath.spoilCause fed with
          path :=
            { (p.spoilPath.spoilCause fed).path with
              log := writeJam (p.spoilPath.spoilCause fed).path.log (p.jamEntry kind sensor code fed) } }).raise .jam := by
  cases fed <;> rfl

theorem spoilPath_job (p : Part) :
    p.spoilPath.job =
      { p.job with
        spoiled := p.job.spoiled + p.owned.length
        acc := { p.job.acc with reserved := p.job.acc.reserved - (p.owned.map Sheet.reserve).sum } } :=
  spoilSheets_job _ _

theorem spoilPath_path (p : Part) : p.spoilPath.path = { p.path with jammed := true, sheets := [] } :=
  spoilSheets_path _ _

theorem spoilCause_frame (p : Part) (fed : Option Nat) :
    (p.spoilCause fed).job.core = p.job.core ∧ (p.spoilCause fed).path = p.path := by
  cases fed with
  | none => exact ⟨rfl, rfl⟩
  | some media =>
    unfold spoilCause spoilFed raiseMeter
    dsimp only
    split <;> exact ⟨rfl, rfl⟩

/-- A jam declared on a CLEAR path keeps the sums: the reserves of the job's sheets return, and A is set to D (R10, R39, R57). -/
theorem declareJam_sums {p : Part} (h : p.JobSums) (hclear : p.path.jammed = false) (kind : JamKind) (sensor : Option Sensor)
    (code fed : Option Nat) : (p.declareJam kind sensor code fed).JobSums := by
  rw [declareJam_eq]
  refine (jobSums_congr (p := Part.jobJam _) rfl rfl).mpr ?_
  obtain ⟨hcore, hpath⟩ := p.spoilPath.spoilCause_frame fed
  generalize p.spoilPath.spoilCause fed = all at hcore hpath
  rw [spoilPath_job] at hcore
  rw [spoilPath_path] at hpath
  simp only [Job.core, Prod.mk.injEq] at hcore
  obtain ⟨hstate, -, hacc, hlimit, hposition, hassigned, hplan, -⟩ := hcore
  refine jobJam_sums ⟨by rw [hpath], by rw [hpath]⟩ (fun hf => ?_) (fun ha => ?_)
  · have hf' : p.job.state.takesTopups = true := hstate ▸ hf
    obtain ⟨hcharge, hreserved, hindexed, hroom, hready, hjammed⟩ := h.within hf'
    unfold Job.amount Job.positions at *
    simp only [hstate, hacc, hlimit, hposition, hplan]
    refine ⟨fun hj => ?_, by omega, by omega, by omega, fun hr => ?_⟩
    · simp [hclear] at hjammed
      exact hjammed hj
    · have := hready hr
      omega
  · obtain ⟨hacc', hposition', hassigned', howned⟩ := h.fresh (hstate ▸ ha)
    simp only [hacc, hposition, hassigned, hacc', hposition', hassigned', howned]
    exact ⟨rfl, trivial, trivial⟩

/-! ### Feeds, moves and deliveries (R8, R11, R29, R52) -/

/-- A sheet joins the list: of no job, or of the job with its reserve and its index (R29, R50). -/
theorem owned_append (p : Part) (sheet : Sheet) :
    (p.path.sheets ++ [sheet]).filter p.owns = p.owned ++ if p.owns sheet then [sheet] else [] := by
  rw [List.filter_append, owned, List.filter_cons]
  simp

/-- The sheet that a feed of the open job adds to the list (R8, R29, R50). -/
def fedSheet (p : Part) (media : Nat) (c : Colour) (twoSided : Bool) : Sheet :=
  { owner := some p.job.number
    index := if decide (p.job.state = .running) && decide (p.job.assigned < p.job.positions) then some p.job.assigned else none
    media := media, colour := c, twoSided := twoSided
    reserve :=
      min (fullReserve p.config.values media c twoSided) (room p.job.amount p.job.acc.gross p.job.acc.reserved)
    stage := .fed, deadline := p.now + p.config.values.w1 }

theorem trackOwned_owned (p : Part) (media : Nat) (c : Colour) (twoSided : Bool) :
    (p.trackOwned media c twoSided).owned = p.owned ++ [p.fedSheet media c twoSided] := by
  show List.filter p.owns (p.path.sheets ++ [p.fedSheet media c twoSided]) = _
  rw [owned_append, if_pos (by simp [owns, fedSheet])]

theorem trackOwned_sums {p : Part} (h : p.JobSums) (hs : p.job.state.ownsFeeds = true) (media : Nat) (c : Colour)
    (twoSided : Bool) : (p.trackOwned media c twoSided).JobSums := by
  have hf := takesTopups_of_ownsFeeds hs
  obtain ⟨hcharge, hreserved, hindexed, hroom, hready, hjammed⟩ := h.within hf
  have hreserve := reserve_within hcharge (fullReserve p.config.values media c twoSided)
  rw [jobSums_iff_within (by exact hf)]
  unfold JobWithin
  rw [trackOwned_owned]
  refine ⟨hreserve, ?_, ?_, ?_, fun hr => ?_, fun hj => ?_⟩
  · rw [List.map_append, List.sum_append, ← hreserved]
    rfl
  · show p.job.position + _ = if _ then p.job.assigned + 1 else p.job.assigned
    rw [List.countP_append, ← Nat.add_assoc, hindexed]
    simp only [fedSheet, List.countP_singleton]
    split <;> rfl
  · show (if _ then _ else _) ≤ p.job.positions
    split
    · next hi =>
      simp only [Bool.and_eq_true, decide_eq_true_eq] at hi
      exact hi.2
    · exact hroom
  · replace hr : p.job.state = .ready := hr
    show (if _ then _ else _) = 0
    rw [if_neg (by simp [hr])]
    exact hready hr
  · replace hj : p.job.state = .jammed := hj
    rw [hj] at hs
    cases hs

theorem trackUnowned_sums {p : Part} (h : p.JobSums) (hs : p.job.state ≠ .jammed) (media : Nat) (c : Colour)
    (twoSided : Bool) : (p.trackUnowned media c twoSided).JobSums := by
  have howned : (p.trackUnowned media c twoSided).owned = p.owned := by
    unfold trackUnowned withSheets
    rw [owned]
    show List.filter p.owns _ = _
    rw [owned_append]
    simp [owns]
  refine .of_cases (fun hf => ?_) fun ha => ?_
  · obtain ⟨hcharge, hreserved, hindexed, hroom, hready, -⟩ := h.within hf
    unfold JobWithin
    rw [howned]
    exact ⟨hcharge, hreserved, hindexed, hroom, hready, fun hj => absurd hj hs⟩
  · unfold Fresh
    rw [howned]
    exact h.fresh ha

/-- A JAMMED job stands before a jammed path (R39). -/
theorem JobSums.not_jammed {p : Part} (h : p.JobSums) (hclear : p.path.jammed = false) : p.job.state ≠ .jammed := by
  intro hj
  obtain ⟨-, -, -, -, -, hjammed⟩ := h.within (by rw [hj]; rfl)
  simp [hclear] at hjammed
  exact hjammed hj

theorem countFeed_core (p : Part) : p.countFeed.job = p.job ∧ p.countFeed.path = p.path := by
  unfold countFeed raiseMeter
  dsimp only
  split_ifs <;> exact ⟨rfl, rfl⟩

theorem spoilFed_sums {p : Part} (h : p.JobSums) (media : Nat) (ofJob : Bool) : (p.spoilFed media ofJob).JobSums := by
  unfold spoilFed raiseMeter
  dsimp only
  split
  · exact (jobSums_congr (p := p) rfl rfl).mpr h
  · exact (jobSums_congr (p := p) rfl rfl).mpr h

theorem feed_sums {p : Part} (h : p.JobSums) (media : Nat) (c : Colour) (twoSided : Bool) :
    (p.feed media c twoSided).JobSums := by
  obtain ⟨hjob, hpath⟩ := p.countFeed_core
  have hq : (if !p.path.jammed && p.job.state.ownsFeeds then p.countFeed.touchActivity else p.countFeed).JobSums := by
    split
    · exact (jobSums_congr (by show ({ p.countFeed.job with lastActivity := _ } : Job).core = _; rw [hjob]; rfl) hpath).mpr h
    · exact (jobSums_congr (by rw [hjob]) hpath).mpr h
  unfold feed
  dsimp only
  generalize (if !p.path.jammed && p.job.state.ownsFeeds then p.countFeed.touchActivity else p.countFeed) = q at hq
  split_ifs with hjam hdoor hfull howns
  · exact spoilFed_sums hq _ _
  · exact declareJam_sums hq (by simpa using hjam) _ _ _ _
  · exact declareJam_sums hq (by simpa using hjam) _ _ _ _
  · exact trackOwned_sums hq howns _ _ _
  · exact trackUnowned_sums hq (hq.not_jammed (by simpa using hjam)) _ _ _

/-- A delivered sheet of the job pays from its own reserve and gives the whole of it back (R11, R13). -/
theorem jobDelivery_sums {p : Part} {ahead behind : List Sheet} {sheet : Sheet} (h : p.JobSums)
    (hclear : p.path.jammed = false) (hsheets : p.path.sheets = ahead ++ sheet :: behind) (howns : p.owns sheet = true) :
    ((p.withSheets (ahead ++ behind)).jobDelivery sheet).JobSums := by
  have howned : p.owned = ahead.filter p.owns ++ sheet :: behind.filter p.owns := by
    rw [owned, hsheets, List.filter_append, List.filter_cons_of_pos howns]
  have hleft : (p.withSheets (ahead ++ behind)).owned = ahead.filter p.owns ++ behind.filter p.owns :=
    List.filter_append ..
  have hjob : ((p.withSheets (ahead ++ behind)).jobDelivery sheet).job.core =
      (p.job.state, p.job.funding, chargeSheet p.config.values p.job.acc sheet, p.job.limit,
        if sheet.index.isSome then p.job.position + 1 else p.job.position, p.job.assigned, p.job.plan, p.job.number) := by
    unfold jobDelivery
    simp only [postCheckpoint_frame]
    split <;> rfl
  have hpath : ((p.withSheets (ahead ++ behind)).jobDelivery sheet).path = (p.withSheets (ahead ++ behind)).path := by
    unfold jobDelivery
    simp only [postCheckpoint_frame]
  generalize (p.withSheets (ahead ++ behind)).jobDelivery sheet = q at hjob hpath
  simp only [Job.core, Prod.mk.injEq] at hjob
  obtain ⟨hstate, -, hacc, hlimit, hposition, hassigned, hplan, hnumber⟩ := hjob
  have hqowned : q.owned = ahead.filter p.owns ++ behind.filter p.owns := by
    rw [owned_congr (p := p.withSheets (ahead ++ behind)) hnumber hpath, hleft]
  refine .of_cases (fun hf => ?_) fun ha => ?_
  · obtain ⟨hcharge, hreserved, hindexed, hroom, hready, -⟩ := h.within (hstate ▸ hf)
    rw [howned] at hreserved hindexed
    simp only [List.map_append, List.map_cons, List.sum_append, List.sum_cons, List.countP_append, List.countP_cons]
      at hreserved hindexed
    have hpays := chargeSheet_within p.config.values (acc := p.job.acc) (sheet := sheet) (by omega)
    have hgives := chargeSheet_reserved p.config.values p.job.acc sheet
    unfold JobWithin Job.amount Job.positions at *
    rw [hqowned, hstate, hacc, hlimit, hposition, hassigned, hplan]
    refine ⟨hpays.trans hcharge, ?_, ?_, hroom, hready, fun hj => absurd hj (h.not_jammed hclear)⟩
    · rw [hgives, List.map_append, List.sum_append]
      omega
    · rw [List.countP_append]
      cases hi : sheet.index.isSome with
      | true => simp only [hi, if_true] at hindexed ⊢; omega
      | false => simp only [hi, if_false, Bool.false_eq_true] at hindexed ⊢; omega
  · obtain ⟨-, -, -, hnone⟩ := h.fresh (hstate ▸ ha)
    rw [howned] at hnone
    simp at hnone

theorem deliver_sums {p : Part} (h : p.JobSums) (hclear : p.path.jammed = false) : p.deliver.JobSums := by
  unfold deliver
  split
  · exact declareJam_sums h hclear _ _ _ _
  · next sheet hfind =>
    dsimp only
    refine (jobSums_congr (p := if (p.withSheets _).owns sheet then (p.withSheets _).jobDelivery sheet else p.withSheets _)
      rfl rfl).mpr ?_
    obtain ⟨hat, ahead, behind, hsheets, hahead⟩ := List.find?_eq_some_iff_append.mp hfind
    have herase : p.path.sheets.eraseP (fun x => x.isAt .atExit) = ahead ++ behind := by
      rw [hsheets, List.eraseP_append_right _ (fun x hx => by simpa using hahead x hx), List.eraseP_cons_of_pos (p := fun x : Sheet => x.isAt .atExit) hat]
    rw [herase]
    split
    · next howns => exact jobDelivery_sums h hclear hsheets howns
    · next howns =>
      have howned : (p.withSheets (ahead ++ behind)).owned = p.owned := by
        have hnot : p.owns sheet ≠ true := howns
        rw [owned, owned, hsheets, List.filter_append, List.filter_cons_of_neg hnot, ← List.filter_append]
        rfl
      refine .of_cases (fun hf => ?_) fun ha => ?_
      · obtain ⟨hcharge, hreserved, hindexed, hroom, hready, -⟩ := h.within hf
        unfold JobWithin
        rw [howned]
        exact ⟨hcharge, hreserved, hindexed, hroom, hready, fun hj => absurd hj (h.not_jammed hclear)⟩
      · unfold Fresh
        rw [howned]
        exact h.fresh ha

/-! ### The other events of the engine -/

theorem withPath_sums {p : Part} (h : p.JobSums) {m : PathMonitor} (hs : m.sheets = p.path.sheets)
    (hj : m.jammed = p.path.jammed) : (p.withPath m).JobSums :=
  h.of_claims rfl (by rw [withPath, hs]) (by rw [withPath, hj]; exact id)

theorem cover_same (m : PathMonitor) (sensor : Sensor) (b : Bool) :
    (m.cover sensor b).sheets = m.sheets ∧ (m.cover sensor b).jammed = m.jammed := by
  cases sensor <;> exact ⟨rfl, rfl⟩

theorem moveFirst_sums {p : Part} (h : p.JobSums) (test : Sheet → Bool) {change : Sheet → Sheet}
    (hc : ∀ sheet, (change sheet).claim = sheet.claim) :
    (p.withSheets (changeFirst p.path.sheets test change)).JobSums :=
  h.of_claims rfl (changeFirst_claims _ _ hc) id

theorem matchOn_sums {p : Part} (h : p.JobSums) (hclear : p.path.jammed = false) (sensor : Sensor) :
    (p.matchOn sensor).JobSums := by
  unfold matchOn
  dsimp only
  split
  · exact declareJam_sums h hclear _ _ _ _
  · split
    · exact declareJam_sums h hclear _ _ _ _
    · split
      · exact moveFirst_sums h _ fun _ => rfl
      · exact declareJam_sums h hclear _ _ _ _

theorem sensorOn_sums {p : Part} (h : p.JobSums) (sensor : Sensor) : (p.sensorOn sensor).JobSums := by
  obtain ⟨hsheets, hjammed⟩ := cover_same p.path sensor true
  have hcovered := withPath_sums h hsheets hjammed
  unfold sensorOn
  dsimp only
  split
  · exact hcovered
  · next hj => exact matchOn_sums hcovered (by simpa using hj) sensor

theorem moveOn_sums {p : Part} (h : p.JobSums) (hclear : p.path.jammed = false) (sensor : Sensor) (next : Stage)
    (window : Nat) : (p.moveOn sensor next window).JobSums := by
  unfold moveOn
  split
  · exact moveFirst_sums h _ fun _ => rfl
  · exact declareJam_sums h hclear _ _ _ _

/-- The clear takes a JAMMED job to PAUSED with no sheet in the path, or settles it (R39, R65). -/
theorem clearTest_sums {p : Part} (h : p.JobSums) : p.clearTest.JobSums := by
  unfold clearTest
  split
  · by_cases hj : p.job.state = .jammed
    · obtain ⟨hcharge, hreserved, hindexed, hroom, -, hempty⟩ := h.within (by rw [hj]; rfl)
      obtain ⟨-, hsheets⟩ := hempty hj
      have settled (q : Part) : q.enterSettling.JobSums := by
        unfold JobSums
        rw [enterSettling_eq, (handOff_frame' _ _).1, (q.stopJob_frame _).2.2.1]
        trivial
      unfold jobClear
      rw [if_pos (by exact hj)]
      split_ifs
      · exact settled _
      · exact settled _
      · exact settled _
      · refine (jobSums_congr (p := Part.setJobState _ _) rfl rfl).mpr ((jobSums_iff_within ?_).mpr ?_)
        · rw [setJobState_job]; rfl
        · unfold JobWithin
          rw [owned_congr (p := { p with path := { p.path with jammed := false } }) (by rw [setJobState_job]) (by simp),
            setJobState_job]
          have howned : ({ p with path := { p.path with jammed := false } } : Part).owned = p.owned := rfl
          rw [howned]
          obtain ⟨hready, hjammed⟩ : JobState.paused ≠ .ready ∧ JobState.paused ≠ .jammed := by decide
          exact ⟨hcharge, hreserved, hindexed, hroom, fun hr => absurd hr hready, fun hr => absurd hr hjammed⟩
    · have hkept : ({ p with path := { p.path with jammed := false } } : Part).JobSums := by
        refine .of_cases (fun hf => ?_) h.fresh
        obtain ⟨hcharge, hreserved, hindexed, hroom, hready, -⟩ := h.within hf
        exact ⟨hcharge, hreserved, hindexed, hroom, hready, fun hr => absurd hr hj⟩
      unfold jobClear
      rw [if_neg (by exact hj)]
      exact hkept
  · exact h

theorem sensorOff_sums {p : Part} (h : p.JobSums) (sensor : Sensor) : (p.sensorOff sensor).JobSums := by
  obtain ⟨hsheets, hjammed⟩ := cover_same p.path sensor false
  have huncovered := withPath_sums h hsheets hjammed
  unfold sensorOff
  dsimp only
  split
  · exact clearTest_sums huncovered
  · next hj =>
    replace hj : (p.withPath (p.path.cover sensor false)).path.jammed = false := by simpa using hj
    generalize p.withPath (p.path.cover sensor false) = q at huncovered hj
    cases sensor with
    | reg => exact moveOn_sums huncovered hj _ _ _
    | fuse => exact moveOn_sums huncovered hj _ _ _
    | exit => exact deliver_sums huncovered hj

theorem openDoor_sums {p : Part} (h : p.JobSums) : p.openDoor.JobSums := by
  have hopened := withPath_sums h (m := { p.path with doorOpen := true }) rfl rfl
  unfold openDoor
  dsimp only
  split
  · next hj =>
    simp only [Bool.and_eq_true, Bool.not_eq_true'] at hj
    exact declareJam_sums hopened hj.1 _ _ _ _
  · exact hopened

theorem closeDoor_sums {p : Part} (h : p.JobSums) : p.closeDoor.JobSums := by
  have hclosed := withPath_sums h (m := { p.path with doorOpen := false }) rfl rfl
  unfold closeDoor
  dsimp only
  split
  · exact clearTest_sums hclosed
  · exact hclosed

theorem engineStop_sums {p : Part} (h : p.JobSums) (code : Option Nat) : (p.engineStop code).JobSums := by
  unfold engineStop
  split
  · exact h
  · next hj => exact declareJam_sums h (by simpa using hj) _ _ _ _

theorem deadline_sums {p : Part} (h : p.JobSums) (place : Nat) : (p.deadline place).JobSums := by
  unfold deadline
  split
  · exact h
  · split
    · exact h
    · next hj =>
      simp only [Bool.or_eq_true, not_or] at hj
      exact declareJam_sums h (by simpa using hj.1) _ _ _ _

/-! ### What follows an event -/

end Part

/-- A step of a block's work keeps the sums, the post of an entry included. -/
theorem Task.step_sums {t : Task} {p : Part} {r : Part × List Task} (h : t.step p = some r) (hp : p.JobSums) : r.1.JobSums := by
  cases ht : t.putsEntry with
  | false => exact (Task.step_steady h ht).sums hp
  | true =>
    cases t <;> first | cases ht; done | skip
    simp only [Task.step] at h
    unfold Part.stepPutEntry at h
    split at h
    · cases h
    · obtain ⟨q, hq, rfl⟩ := Option.map_eq_some_iff.mp h
      obtain ⟨-, rfl⟩ := Part.tryPost_eq_some.mp hq
      dsimp only
      split <;> exact (Part.jobSums_congr (p := p) rfl rfl).mpr hp

namespace Part

theorem advance_sums {p q : Part} {w : Work} {rest : List Work} (h : p.advance w rest = some q) (hp : p.JobSums) :
    q.JobSums := by
  unfold advance at h
  split at h
  · cases h
    exact hp
  · obtain ⟨r, hr, rfl⟩ := Option.map_eq_some_iff.mp h
    exact Task.step_sums hr hp

theorem pump_sums (fuel : Nat) {p : Part} (h : p.JobSums) : (p.pump fuel).JobSums := by
  refine pump_keeps (I := JobSums) (fun q hq => hq) (fun q r hq hr => ?_) (fun q r hq hr => ?_) fuel h
  · obtain ⟨work, rfl⟩ := markWait_eq_some hr
    exact hq
  · obtain ⟨ahead, w, behind, -, -, hw⟩ := advanceFirst_eq_some hr
    exact r.steady_react.sums (advance_sums hw hq)

theorem goOn_sums {p : Part} (h : p.JobSums) : p.goOn.JobSums := by
  unfold goOn
  split
  · exact pump_sums _ h
  · exact pump_sums _ h
  all_goals exact h

theorem startUp_job (p : Part) (load : Bool) : (p.startUp load).job = {} := by
  unfold startUp
  split <;> simp [resetValues, beginRecovery, assign]

/-- No job is open, so there are no sums. -/
theorem JobSums.of_idle {p : Part} (h : p.job = {}) : p.JobSums := by
  unfold JobSums
  rw [h]
  trivial

theorem drain_sums {p : Part} (load : Bool) (h : p.JobSums) : (p.drain load).JobSums := by
  rcases p.drain_cases load with hd | hd
  · rw [hd]
    refine drainPosts_keeps (I := JobSums) (fun q r w hq hr => ?_) (fun _ _ hq => hq) _ h
    obtain ⟨-, rfl⟩ := tryPost_eq_some.mp hr
    exact hq
  · rw [hd]
    exact .of_idle (startUp_job _ _)

theorem follow_sums {p : Part} (before : Part) (h : p.JobSums) : (p.follow before).JobSums := by
  unfold follow
  split
  · exact goOn_sums (drain_sums _ h)
  · exact goOn_sums (((p.steady_reactIdle before).trans (steady_react _)).sums h)
  all_goals exact goOn_sums h

theorem command_sums {p : Part} {f : Part → Part} (h : (f p).JobSums) : (p.command f).JobSums := by
  refine (jobSums_congr (p := (f p).follow p) ?_ ?_).mpr (follow_sums p h)
  · simp [command]
  · simp [command]

/-! ### The effect of every command -/

theorem sendResult_sums {p : Part} (h : p.JobSums) (answered : Bool) : (p.sendResult answered).JobSums := by
  unfold sendResult
  split
  · exact h
  · refine (steady_restAfter _ _).sums (follow_sums p ?_)
    exact ((p.steady_driveFrame _).trans (steady_sendOutcome _ _ _)).sums h

theorem frameReceived_sums {p : Part} (h : p.JobSums) (bytes : List Byte) : (p.frameReceived bytes).JobSums := by
  unfold frameReceived
  exact (steady_restAfter _ _).sums (follow_sums p ((p.steady_receive bytes).sums h))

/-- A card that opens a job opens it with no sheet of its number in the path (R21, R36). -/
theorem cardIn_sums {p : Part} (h : p.JobSums) (hn : p.job.state = .idle → p.NumberFree) (record : List Byte) :
    (p.cardIn record).JobSums := by
  rcases p.cardIn_cases record with hs | ⟨hidle, ⟨card, hc⟩ | ⟨account, home, -, hc⟩⟩
  · exact hs.sums h
  · rw [hc]
    obtain ⟨hstate, -, hnumber, hjob, hpath, -⟩ := p.openValue_frame card
    exact (p.steady_openValueJob card).sums ((fresh_of_number (hn hidle) hnumber hpath hjob).sums (.inr hstate))
  · rw [hc]
    obtain ⟨hstate, hnumber, hjob, hpath, -⟩ := p.expectReturn.openAsking_frame account home
    refine (steady_openAccountJob _ account home).sums (Fresh.sums ?_ (.inl hstate))
    exact fresh_of_number (hn hidle) hnumber hpath hjob

theorem writeComplete_sums {p : Part} (h : p.JobSums) : p.writeComplete.JobSums := by
  unfold writeComplete
  split
  · exact h
  · next post rest hq =>
    have after (q : Part) (hq : q.JobSums) :
        (((post.notes.foldl (fun r note => note.act r) (q.pump pumpFuel)).follow p).setStarting false).JobSums :=
      follow_sums p ((steady_notes post.notes _).sums (pump_sums _ hq))
    dsimp only
    split
    · exact after _ h
    · exact after _ h
    all_goals exact h

theorem panelRead_sums {p : Part} (h : p.JobSums) : p.panelRead.JobSums := by
  unfold panelRead
  split
  · exact h
  · dsimp only
    split <;> exact h

end Part

theorem Instr.effect_sums {c : Instr} {p : Part} (h : p.JobSums) (hn : p.job.state = .idle → p.NumberFree) :
    (Instr.effect c p).JobSums := by
  have serves {f : Part → Part} (hf : (f p).JobSums) : (inService f p).JobSums :=
    inService_keeps (I := Part.JobSums) h fun _ => hf
  by_cases hr : c = .panelRead
  · subst hr
    exact Part.panelRead_sums h
  · cases hcalm : Instr.isCalm c with
    | true => exact (Instr.effect_steady hcalm fun hc => absurd hc hr).sums h
    | false =>
      cases c <;> first
        | exact (Bool.false_ne_true hcalm.symm).elim
        | dsimp only [Instr.effect]
      case powerOn =>
        unfold Part.powerOn
        split_ifs
        · exact h
        · exact .of_idle rfl
        · exact .of_idle (Part.startUp_job _ _)
      case powerLoss =>
        split
        · exact h
        · exact .of_idle rfl
      case resetPinAssert =>
        unfold Part.assertReset
        dsimp only
        split <;> exact h
      case resetPinRelease => exact h
      case configLoadDone =>
        unfold Part.loadDone
        split <;> exact h
      case writeComplete => exact Part.writeComplete_sums h
      case sheetFed =>
        refine serves ?_
        unfold Part.feedMessage
        split
        · split
          · exact Part.feed_sums h _ _ _
          · exact Part.engineStop_sums h _
        · exact Part.engineStop_sums h _
      case sensorOn =>
        refine serves ?_
        unfold Part.sensorMessage
        split
        · exact Part.sensorOn_sums h _
        · exact Part.engineStop_sums h _
      case sensorOff =>
        refine serves ?_
        unfold Part.sensorMessage
        split
        · exact Part.sensorOff_sums h _
        · exact Part.engineStop_sums h _
      case doorOpen => exact serves (Part.openDoor_sums h)
      case doorClosed => exact serves (Part.closeDoor_sums h)
      case engineFault => exact serves (Part.engineStop_sums h _)
      case engineMessageGarbled => exact serves (Part.engineStop_sums h _)
      case sheetDeadlineExpiry => exact serves (Part.deadline_sums h _)
      case cardIn => exact serves (Part.cardIn_sums h hn _)
      case sendResult => exact serves (Part.sendResult_sums h _)
      case frameReceived bytes =>
        show (if p.serving then p.frameReceived bytes else p.frameUnanswered).JobSums
        split
        · exact Part.frameReceived_sums h bytes
        · exact h

/-- Settles O11: every operation of a block keeps the sums, a sheet joins and leaves the path with its reserve and its index, and a job is
opened with no sheet of its number in the path. -/
theorem jobStaysWithinItsHoldAndPlan : Obligations.JobStaysWithinItsHoldAndPlan := by
  intro s t _ _ h hnumber hstep _
  rcases step_cases hstep with ht | ⟨c, rest, -, ht⟩
  · rw [ht]
    obtain ⟨now, hnow⟩ := s.part.tick_frame
    rw [hnow]
    exact h
  · rw [ht]
    have heffect := Instr.effect_sums (c := c) h hnumber
    cases hb : Instr.isBare c with
    | true =>
      rw [Instr.result_bare hb]
      exact heffect
    | false =>
      rw [Instr.result_event hb]
      exact Part.command_sums heffect

end Sys2Proof.Machine
end


section
/-! Proofs about the held amounts (R86, R103): what every operation on the records keeps of them. -/

-- One theorem after another: many small theorems elaborated at once need more threads than the check allows.
set_option Elab.async false

namespace Sys2Proof.Machine

open Sys2Proof

/-! ### The sums at start-up (R103) -/

theorem foldl_countSet (holds : Table HoldRecord) {t : Table Nat} (ht : Rising t) :
    let sums := holds.foldl (fun t e => countSet t e.2.account (countGet t e.2.account + activeAmount e.2)) t
    Rising sums ∧ ∀ account, countGet sums account = countGet t account + shares holds account := by
  induction holds generalizing t with
  | nil => exact ⟨ht, fun _ => rfl⟩
  | cons e holds ih =>
    obtain ⟨hrising, hsums⟩ := ih (ht.countSet e.2.account (countGet t e.2.account + activeAmount e.2))
    refine ⟨hrising, fun account => ?_⟩
    rw [List.foldl_cons, hsums, countGet_countSet ht]
    simp only [shares, List.map_cons, List.sum_cons, holdShare]
    split
    · next h => subst h; omega
    · omega

theorem heldSums_rising (holds : Table HoldRecord) : Rising (heldSums holds) :=
  (foldl_countSet holds (t := []) (by simp [Rising])).1

theorem countGet_heldSums (holds : Table HoldRecord) (account : Nat) : countGet (heldSums holds) account = shares holds account := by
  have h := (foldl_countSet holds (t := []) (by simp [Rising])).2 account
  rw [show countGet [] account = 0 from rfl, Nat.zero_add] at h
  exact h

/-- The hold table comes into service with the sums of its ACTIVE records (R86, R103). -/
theorem Part.holdsInService_held (p : Part) (account : Nat) : p.holdsInService.held account = activeHolds p.ledger account := by
  rw [activeHolds_eq]
  exact countGet_heldSums _ _

theorem Part.holdsInService_sums {p : Part} (h : p.PendingRuns) : p.holdsInService.HeldSums :=
  ⟨heldSums_rising _, h, p.holdsInService_held⟩

/-! ### The held amounts under the operations -/

namespace Part

/-- The held amounts in terms of the stored records and the queued writes of records: with only running records pending (R163, R165). -/
theorem heldSums_iff (p : Part) :
    p.HeldSums ↔
      Rising p.accounts.held ∧ p.store.PendingRuns ∧
        ∀ account, countGet p.accounts.held account = shares p.store.queuedHolds account := by
  have sums (h : p.store.PendingRuns) (account : Nat) : activeHolds p.ledger account = shares p.store.queuedHolds account := by
    rw [activeHolds_eq, ledger, h.newest_holds]
  constructor
  · rintro ⟨hrising, hpending, hheld⟩
    exact ⟨hrising, hpending, fun account => (hheld account).trans (sums hpending account)⟩
  · rintro ⟨hrising, hpending, hheld⟩
    exact ⟨hrising, hpending, fun account => (hheld account).trans (sums hpending account).symm⟩

/-- The held amounts rest on themselves, on what is stored and on what is queued. -/
theorem HeldSums.congr {p q : Part} (h : p.HeldSums) (hh : q.accounts.held = p.accounts.held)
    (hs : p.store.PendingRuns → q.store.PendingRuns ∧ q.store.queuedHolds = p.store.queuedHolds) : q.HeldSums := by
  rw [heldSums_iff] at h ⊢
  obtain ⟨hrising, hpending, hheld⟩ := h
  obtain ⟨hpending', hholds⟩ := hs hpending
  rw [hh, hholds]
  exact ⟨hrising, hpending', hheld⟩

theorem unhold_held {p : Part} (h : Rising p.accounts.held) (old : Option HoldRecord) :
    Rising (p.unhold old).accounts.held ∧
      ∀ account, countGet (p.unhold old).accounts.held account =
        countGet p.accounts.held account - optionShare account old := by
  cases old with
  | none => exact ⟨h, fun _ => rfl⟩
  | some r =>
    refine ⟨h.countSet _ _, fun account => ?_⟩
    simp only [unhold, setHeld_accounts, countGet_countSet h, held, optionShare, Option.elim_some, holdShare]
    split
    · next ha => rw [ha]
    · rfl

theorem rehold_held {p : Part} (h : Rising p.accounts.held) (new : Option HoldRecord) :
    Rising (p.rehold new).accounts.held ∧
      ∀ account, countGet (p.rehold new).accounts.held account =
        countGet p.accounts.held account + optionShare account new := by
  cases new with
  | none => exact ⟨h, fun _ => rfl⟩
  | some r =>
    refine ⟨h.countSet _ _, fun account => ?_⟩
    simp only [rehold, setHeld_accounts, countGet_countSet h, held, optionShare, Option.elim_some, holdShare]
    split
    · next ha => rw [ha]
    · rfl

theorem unhold_store (p : Part) (old : Option HoldRecord) : (p.unhold old).store = p.store := by cases old <;> rfl

theorem rehold_store (p : Part) (new : Option HoldRecord) : (p.rehold new).store = p.store := by cases new <;> rfl

theorem changeHold_store {p q : Part} {slot : Nat} {value : Option HoldRecord} {notes : List Note}
    (h : p.changeHold slot value notes = some q) : q.store = p.store.post (.hold slot value) notes := by
  obtain ⟨r, hr, rfl⟩ := Option.map_eq_some_iff.mp h
  obtain ⟨-, rfl⟩ := tryPost_eq_some.mp hr
  rw [rehold_store, unhold_store]

/-- A record changes, and the held amount of its account with it (R86). -/
theorem changeHold_sums {p q : Part} {slot : Nat} {value : Option HoldRecord} {notes : List Note} (hc : p.Canonical)
    (hp : p.HeldSums) (h : p.changeHold slot value notes = some q) : q.HeldSums := by
  have hstore := changeHold_store h
  obtain ⟨r, hr, rfl⟩ := Option.map_eq_some_iff.mp h
  obtain ⟨-, rfl⟩ := tryPost_eq_some.mp hr
  rw [heldSums_iff] at hp ⊢
  obtain ⟨hrising, hpending, hheld⟩ := hp
  have hholds : p.ledger.holds = p.store.queuedHolds := hpending.newest_holds
  have htable : Rising p.store.queuedHolds := by
    obtain ⟨-, hwf, -⟩ := Ledger.wf.newest hc
    rwa [← hholds]
  obtain ⟨hleft, hleaves⟩ := unhold_held (p := { p with store := p.store.post (.hold slot value) notes }) hrising
    (tableGet p.ledger.holds slot)
  obtain ⟨hjoined, hjoins⟩ := rehold_held hleft value
  refine ⟨hjoined, ?_, fun account => ?_⟩
  · rw [hstore]
    exact hpending.post _ _
  · rw [hstore, Store.post_hold_queuedHolds, hjoins, hleaves, hholds]
    have hset := shares_set htable slot account value
    have hle := optionShare_le_shares p.store.queuedHolds slot account
    have := hheld account
    show countGet p.accounts.held account - _ + _ = _
    omega

/-- No operation of a block changes what is stored (R161). -/
theorem Goes.stored {p q : Part} (h : p.Goes q) : q.store.stored = p.store.stored := by
  induction h with
  | quiet h => exact h.1
  | post h _ => obtain ⟨-, rfl⟩ := tryPost_eq_some.mp h; simp
  | hold h => rw [changeHold_store h]; simp
  | trans _ _ ih ik => exact ik.trans ih
  | _ => first | rfl | simp

theorem Goes.canonical {p q : Part} (h : p.Goes q) (hp : p.Canonical) : q.Canonical := by
  unfold Canonical
  rw [h.stored]
  exact hp

/-- The operations of the blocks keep the held amounts the sums of the ACTIVE records (R86). -/
theorem Goes.heldSums {p q : Part} (h : p.Goes q) : p.Canonical → p.HeldSums → q.HeldSums := by
  induction h with
  | quiet h =>
    obtain ⟨hstored, hqueue, hpending, -, hheld, -⟩ := h
    refine fun _ hp => hp.congr hheld fun hruns => ⟨?_, ?_⟩
    · unfold Store.PendingRuns
      rwa [hpending]
    · rw [Store.queuedHolds, Store.queuedHolds, hstored, hqueue]
  | send p dest m => exact fun _ hp => hp.congr (by simp) fun hruns => by rw [sendFrame_starting]; exact ⟨hruns, rfl⟩
  | running p hw =>
    exact fun _ hp => hp.congr rfl fun hruns => ⟨hruns.postRunning hw, Store.postRunning_queuedHolds hw⟩
  | post h hw =>
    obtain ⟨-, rfl⟩ := tryPost_eq_some.mp h
    exact fun _ hp => hp.congr rfl fun hruns => ⟨hruns.post _ _, Store.post_queuedHolds hw _⟩
  | hold h => exact fun hc hp => changeHold_sums hc hp h
  | sums p => exact fun _ hp => holdsInService_sums hp.2.1
  | clear p => exact fun _ hp => hp.congr rfl fun hruns => ⟨hruns.clearCheckpoint, Store.clearCheckpoint_queuedHolds hruns⟩
  | fill p => exact fun _ hp => hp.congr rfl fun hruns => ⟨hruns.fill, Store.fill_queuedHolds hruns⟩
  | trans hpq _ ih ik => exact fun hc hp => ik (hpq.canonical hc) (ih hc hp)
  | _ => exact fun _ hp => hp.congr rfl fun hruns => ⟨hruns, rfl⟩

/-- The completion of a write keeps the held amounts: its record is read as before (R161, R163). -/
theorem programOldest_sums {p : Part} {post : Post} {rest : List Post} (hq : p.store.queue = post :: rest) (h : p.HeldSums) :
    (p.programOldest post rest).HeldSums := by
  obtain ⟨hrising, hpending, hheld⟩ := h
  refine ⟨hrising, hpending, fun account => ?_⟩
  have hledger : (p.programOldest post rest).ledger = p.ledger := Store.newest_programmed hq
  rw [hledger]
  exact hheld account

end Part

end Sys2Proof.Machine
end


section
/-! Proofs about the deferred slots and the recovery (R124, R190): what every step of the blocks' work keeps of the slots, and how the
last step of start-up brings the held amounts and the slots into service. -/

-- One theorem after another: many small theorems elaborated at once need more threads than the check allows.
set_option Elab.async false

namespace Sys2Proof.Machine

open Sys2Proof

/-! ### The steps that waiting work still has to take -/

/-- The steps left of each work. -/
def Part.agenda (p : Part) : List (List Task) := p.store.work.map Work.tasks

theorem entriesIn_eq (work : List Work) : entriesIn work = ((work.map Work.tasks).map (List.countP Task.putsEntry)).sum := by
  rw [List.map_map]
  rfl

theorem putBack_agenda (work : List Work) {w : Work} (h : w.tasks ≠ []) :
    ((putBack work w).map Work.tasks).Perm (w.tasks :: work.map Work.tasks) := by
  unfold putBack
  split
  · next hnil => exact absurd hnil h
  · have hperm := List.perm_middle (a := w) (l₁ := work.takeWhile fun x => x.since.isSome)
      (l₂ := work.dropWhile fun x => x.since.isSome)
    rw [List.takeWhile_append_dropWhile] at hperm
    exact hperm.map Work.tasks

theorem putBack_done (work : List Work) {w : Work} (h : w.tasks = []) : putBack work w = work := by
  unfold putBack
  rw [h]

namespace Part

/-- A work that begins to wait keeps its steps, and so do the others. -/
theorem markWait_agenda {p q : Part} (h : p.markWait = some q) :
    ∃ work, q = p.withWork work ∧ (work.map Work.tasks).Perm p.agenda := by
  obtain ⟨w, hfind, rfl⟩ := Option.map_eq_some_iff.mp h
  refine ⟨_, rfl, ?_⟩
  have hmem := List.mem_of_find?_eq_some hfind
  have hwaits : w.since.isNone = true := by
    have := List.find?_some hfind
    simp only [marksWait, Bool.and_eq_true] at this
    exact this.1.1
  have hw : w ∈ p.store.work.filter (fun x => x.since.isNone) := List.mem_filter.mpr ⟨hmem, hwaits⟩
  have hsplit : (p.store.work.filter (fun x => x.since.isSome) ++ p.store.work.filter (fun x => x.since.isNone)).Perm
      p.store.work := by
    have := List.filter_append_perm (fun x : Work => x.since.isSome) p.store.work
    simpa using this
  have hback := (List.perm_cons_erase hw).append_left (p.store.work.filter fun x => x.since.isSome)
  have htasks := (hback.symm.trans hsplit).map Work.tasks
  simpa [agenda] using htasks

/-- One step of one work: its part, and the steps that are left. -/
theorem advance_agenda {p q : Part} {w : Work} {rest : List Work} (h : p.advance w rest = some q) :
    w.tasks = [] ∧ q = p.withWork rest ∨
      ∃ t tasks r work, w.tasks = t :: tasks ∧ t.step (p.withWork rest) = some r ∧ q = r.1.withWork work ∧
        (r.2 ++ tasks = [] → work = r.1.store.work) ∧
        (r.2 ++ tasks ≠ [] → (work.map Work.tasks).Perm ((r.2 ++ tasks) :: r.1.agenda)) := by
  unfold advance at h
  split at h
  · next hnil =>
    cases h
    exact .inl ⟨hnil, rfl⟩
  · next t tasks hcons =>
    obtain ⟨r, hr, rfl⟩ := Option.map_eq_some_iff.mp h
    exact .inr ⟨t, tasks, r, _, hcons, hr, rfl, fun hdone => putBack_done _ hdone, fun hleft => putBack_agenda _ hleft⟩

/-! ### The slots of the deferred list (R124) -/

/-- Entries and reservations take at most the 16 slots, and every slot still to be used is reserved, with some to spare. -/
def Roomy (p : Part) (spare : Nat) : Prop :=
  p.store.PendingRuns ∧ p.deferredUsed + p.settlement.reserved ≤ Config.deferredSlots ∧
    p.baseClaims + (entriesIn p.store.work + spare) ≤ p.settlement.reserved ∧
    ∀ tasks ∈ p.agenda, ∀ t ∈ tasks, t.keepsRoom = true

theorem deferredSums_iff (p : Part) : p.DeferredSums ↔ p.Roomy 0 := by
  have hwork : (∀ w ∈ p.store.work, ∀ t ∈ w.tasks, t.keepsRoom = true) ↔
      ∀ tasks ∈ p.agenda, ∀ t ∈ tasks, t.keepsRoom = true := by simp [agenda]
  unfold DeferredSums Roomy
  rw [hwork, slotClaims_eq]
  rfl

theorem deferredUsed_congr {p q : Part} (h : ∀ slot, q.store.inUse slot = p.store.inUse slot) :
    q.deferredUsed = p.deferredUsed := by
  have : q.deferredInUse = p.deferredInUse := funext h
  unfold deferredUsed
  rw [this]

theorem keepsRoom_of_isPlain {t : Task} (h : t.isPlain = true) : t.keepsRoom = true := by
  unfold Task.isPlain at h
  simp only [Bool.and_eq_true] at h
  exact h.1

theorem Moves.roomy {p q : Part} {spare : Nat} (h : p.Moves q) (hp : p.Roomy spare) : q.Roomy spare := by
  obtain ⟨hpending, hused, hclaims, hplain⟩ := hp
  obtain ⟨new, hwork, hnew, hadds⟩ := h.adds
  obtain ⟨hle, hreserved⟩ := hadds _ hclaims
  refine ⟨h.goes.pendingRuns hpending, ?_, ?_, fun tasks htasks => ?_⟩
  · rw [deferredUsed_congr (h.used hpending)]
    omega
  · rw [hwork, entriesIn_append]
    omega
  · rw [agenda, hwork, List.map_append, List.mem_append] at htasks
    rcases htasks with htasks | htasks
    · exact hplain tasks htasks
    · obtain ⟨w, hw, rfl⟩ := List.mem_map.mp htasks
      exact fun t ht => keepsRoom_of_isPlain (hnew w hw t ht)

/-- The slots, the claims and the steps left of all work stay. -/
theorem Roomy.congr {p q : Part} {spare spare' : Nat} (h : p.Roomy spare) (hpending : p.store.PendingRuns → q.store.PendingRuns)
    (hused : q.deferredUsed + q.settlement.reserved ≤ p.deferredUsed + p.settlement.reserved)
    (hclaims : p.baseClaims + (entriesIn p.store.work + spare) ≤ p.settlement.reserved →
      q.baseClaims + (entriesIn q.store.work + spare') ≤ q.settlement.reserved)
    (hagenda : ∀ tasks ∈ q.agenda, ∀ t ∈ tasks, t.keepsRoom = true) : q.Roomy spare' := by
  obtain ⟨hp, hu, hc, -⟩ := h
  exact ⟨hpending hp, hused.trans hu, hclaims hc, hagenda⟩

theorem entriesIn_perm {a b : List Work} (h : (a.map Work.tasks).Perm (b.map Work.tasks)) : entriesIn a = entriesIn b := by
  rw [entriesIn_eq, entriesIn_eq]
  exact (h.map _).sum_eq

/-- Work in another order claims the same slots. -/
theorem Roomy.perm {p : Part} {work : List Work} (h : p.Roomy 0) (hperm : (work.map Work.tasks).Perm p.agenda) :
    (p.withWork work).Roomy 0 := by
  have hkept := h.2.2.2
  refine h.congr id le_rfl (fun hc => ?_) fun tasks htasks => hkept tasks (hperm.mem_iff.mp htasks)
  show p.baseClaims + _ ≤ _
  rwa [show (p.withWork work).store.work = work from rfl, entriesIn_perm hperm]

/-- The slot of a new entry was not in use. -/
theorem deferredSlot_free {p : Part} {slot : Nat} (h : p.deferredSlot = some slot) :
    slot ∈ List.range Config.deferredSlots ∧ p.store.inUse slot = false := by
  have hfree : p.deferredInUse slot = false := by simpa using List.find?_some h
  exact ⟨List.mem_of_find?_eq_some h, hfree⟩

theorem countP_insert {l : List Nat} (hl : l.Nodup) {used used' : Nat → Bool} {slot : Nat} (hm : slot ∈ l)
    (hfree : used slot = false) (h : ∀ k, used' k = (decide (k = slot) || used k)) : l.countP used' = l.countP used + 1 := by
  induction l with
  | nil => cases hm
  | cons k l ih =>
    obtain ⟨hnot, hl'⟩ := List.nodup_cons.mp hl
    rcases List.mem_cons.mp hm with rfl | hm
    · have hrest : l.countP used' = l.countP used := by
        refine List.countP_congr fun j hj => ?_
        have hne : j ≠ slot := fun hjs => hnot (hjs ▸ hj)
        simp [h, hne]
      rw [List.countP_cons_of_pos (by simp [h]), List.countP_cons_of_neg (by simp [hfree]), hrest]
    · have hne : k ≠ slot := fun hks => hnot (hks ▸ hm)
      have hk : used' k = used k := by simp [h, hne]
      rw [List.countP_cons, List.countP_cons, hk, ih hl' hm]
      omega

/-- The entry of a reserved slot is written: the slot comes into use and its reservation ends (R124, R125). -/
theorem stepPutEntry_frame {p : Part} {home holdId account job charge impressions : Nat} {forJob reserved : Bool}
    {float : Option Nat} {r : Part × List Task}
    (h : p.stepPutEntry home holdId account job charge impressions forJob reserved float = some r) :
    r.2 = [] ∧ p.Goes r.1 ∧ r.1.phase = p.phase ∧ r.1.store.work = p.store.work ∧ r.1.baseClaims = p.baseClaims ∧
      r.1.settlement.reserved = (if reserved then p.settlement.reserved - 1 else p.settlement.reserved) ∧
      r.1.deferredUsed = p.deferredUsed + 1 := by
  have hgoes := Task.step_goes (t := .putEntry home holdId account job charge impressions forJob reserved float) h
  unfold stepPutEntry at h
  split at h
  · cases h
  · next slot hslot =>
    obtain ⟨q, hq, rfl⟩ := Option.map_eq_some_iff.mp h
    obtain ⟨-, rfl⟩ := tryPost_eq_some.mp hq
    obtain ⟨hrange, hfree⟩ := deferredSlot_free hslot
    refine ⟨rfl, hgoes, ?_, ?_, ?_, ?_, ?_⟩
    · dsimp only; split <;> rfl
    · dsimp only; split <;> simp [releaseDeferred]
    · dsimp only; split <;> rfl
    · dsimp only; split <;> rfl
    · have hused (u : SettlementUnit) (w : Write) (notes : List Note) (hw : w.name = .deferred slot) :
          ({ p with settlement := u, store := p.store.post w notes } : Part).deferredUsed = p.deferredUsed + 1 :=
        countP_insert List.nodup_range hrange hfree fun k => by
          show (p.store.post w notes).inUse k = (decide (k = slot) || p.store.inUse k)
          rw [Store.post_inUse, hw]
          simp [Bool.or_comm, eq_comm]
      dsimp only
      split <;> exact hused _ _ _ rfl

end Part

/-- A step of work keeps the room of the deferred list: the post of an entry uses a slot that was reserved for it (R124, R125). -/
theorem Task.step_roomy {t : Task} {p : Part} {r : Part × List Task} {spare : Nat} (h : t.step p = some r)
    (ht : t.keepsRoom = true) (hp : p.Roomy (spare + t.putsEntry.toNat)) : r.1.Roomy spare := by
  cases hputs : t.putsEntry with
  | false =>
    rw [hputs] at hp
    exact (Task.step_steady h hputs).toMoves.roomy hp
  | true =>
    rw [hputs] at hp
    cases t <;> first | cases hputs; done | skip
    case putEntry home holdId account job charge impressions forJob reserved float =>
      obtain rfl : reserved = true := ht
      obtain ⟨-, hgoes, -, hwork, hbase, hreserved, hused⟩ := Part.stepPutEntry_frame h
      have hclaims := hp.2.2.1
      simp only [Bool.toNat_true] at hclaims
      simp only [if_true] at hreserved
      refine hp.congr hgoes.pendingRuns ?_ (fun _ => ?_) (fun tasks htasks => hp.2.2.2 tasks ?_)
      · omega
      · rw [hbase, hwork, hreserved]
        omega
      · rwa [Part.agenda, hwork] at htasks

namespace Part

theorem advance_roomy {p q : Part} {ahead behind : List Work} {w : Work} (hwork : p.store.work = ahead ++ w :: behind)
    (h : p.advance w (ahead ++ behind) = some q) (hp : p.Roomy 0) : q.Roomy 0 := by
  have hkept : ∀ tasks ∈ p.agenda, ∀ t ∈ tasks, t.keepsRoom = true := hp.2.2.2
  have hagenda : p.agenda = ahead.map Work.tasks ++ w.tasks :: behind.map Work.tasks := by simp [agenda, hwork]
  have hmine : ∀ t ∈ w.tasks, t.keepsRoom = true := hkept w.tasks (by simp [hagenda])
  have hrest : (p.withWork (ahead ++ behind)).Roomy (w.tasks.countP Task.putsEntry) := by
    refine hp.congr id le_rfl (fun hc => ?_) fun tasks htasks => hkept tasks ?_
    · have : entriesIn p.store.work = entriesIn (ahead ++ behind) + w.tasks.countP Task.putsEntry := by
        rw [hwork]
        simp only [entriesIn, List.map_append, List.map_cons, List.sum_append, List.sum_cons]
        omega
      show p.baseClaims + (entriesIn (ahead ++ behind) + _) ≤ p.settlement.reserved
      omega
    · rw [hagenda]
      simp only [agenda, withWork, List.map_append, List.mem_append, List.mem_cons] at htasks ⊢
      tauto
  rcases advance_agenda h with ⟨hnil, rfl⟩ | ⟨t, tasks, r, work, hcons, hstep, rfl, hdone, hleft⟩
  · rwa [hnil] at hrest
  · rw [hcons, List.countP_cons] at hrest
    have ht : t.keepsRoom = true := hmine t (by simp [hcons])
    have hstepped : r.1.Roomy (tasks.countP Task.putsEntry) := by
      refine Task.step_roomy hstep ht ?_
      cases hputs : t.putsEntry <;> simpa [hputs] using hrest
    have hroutine : r.2.all Task.isRoutine = true := Task.step_routine hstep (by rintro rfl; cases ht)
    have hnone : r.2.countP Task.putsEntry = 0 :=
      List.countP_eq_zero.mpr fun x hx => by simp [(Task.isPlain_of_isRoutine (List.all_eq_true.mp hroutine x hx)).2]
    by_cases hempty : r.2 ++ tasks = []
    · obtain ⟨-, rfl⟩ := List.append_eq_nil_iff.mp hempty
      rw [hdone hempty]
      exact hstepped
    · have hperm := hleft hempty
      refine hstepped.congr id le_rfl (fun hc => ?_) fun x hx t' ht' => ?_
      · have : entriesIn work = tasks.countP Task.putsEntry + entriesIn r.1.store.work := by
          rw [entriesIn_eq, (hperm.map _).sum_eq, entriesIn_eq r.1.store.work]
          simp [hnone, agenda]
        show r.1.baseClaims + (entriesIn work + 0) ≤ r.1.settlement.reserved
        omega
      · rcases List.mem_cons.mp (hperm.mem_iff.mp hx) with rfl | hx
        · rcases List.mem_append.mp ht' with ht' | ht'
          · exact keepsRoom_of_isPlain (Task.isPlain_of_isRoutine (List.all_eq_true.mp hroutine t' ht')).1
          · exact hmine t' (by simp [hcons, ht'])
        · exact hstepped.2.2.2 x hx t' ht'

theorem pump_roomy (fuel : Nat) {p : Part} (h : p.Roomy 0) : (p.pump fuel).Roomy 0 := by
  refine pump_keeps (I := fun q => q.Roomy 0) (fun q hq => (Steady.fill q).roomy hq) (fun q r hq hr => ?_)
    (fun q r hq hr => ?_) fuel h
  · obtain ⟨work, rfl, hperm⟩ := markWait_agenda hr
    exact hq.perm hperm
  · obtain ⟨ahead, w, behind, hwork, -, hw⟩ := advanceFirst_eq_some hr
    exact r.steady_react.roomy (advance_roomy hwork hw hq)

theorem goOn_roomy {p : Part} (h : p.Roomy 0) : p.goOn.Roomy 0 := by
  unfold goOn
  split
  · exact pump_roomy _ h
  · exact pump_roomy _ h
  all_goals exact h

theorem follow_roomy {p : Part} (hs : p.phase = .serving) (before : Part) (h : p.Roomy 0) : (p.follow before).Roomy 0 := by
  unfold follow
  rw [hs]
  exact goOn_roomy (((p.steady_reactIdle before).trans (steady_react _)).roomy h)

theorem roomy_journalLow_alert {p : Part} {spare : Nat} (h : p.Roomy spare) (before : Part) :
    ((p.journalLow before).alert).Roomy spare := by
  unfold journalLow
  split <;> exact h

end Part

end Sys2Proof.Machine
end


section
/-! Proofs about entry into service (R103, R192) and about every command in service: the held amounts (R86) and the deferred slots
(R124) after it. -/

-- One theorem after another: many small theorems elaborated at once need more threads than the check allows.
set_option Elab.async false

namespace Sys2Proof.Machine

open Sys2Proof

/-! ### The phase under a step of work -/

/-- Only the last step of start-up changes the phase (R192). -/
theorem Task.step_phase {t : Task} {p : Part} {r : Part × List Task} (h : t.step p = some r) (ht : t.entersService = false) :
    r.1.phase = p.phase := by
  have posts {w : Write} {notes : List Note} (h : p.justPost w notes = some r) : r.1.phase = p.phase := by
    obtain ⟨q, hq, rfl⟩ := Option.map_eq_some_iff.mp h
    obtain ⟨-, rfl⟩ := Part.tryPost_eq_some.mp hq
    rfl
  have holds {slot : Nat} {value : Option HoldRecord} {notes : List Note}
      (h : (p.changeHold slot value notes).map (fun q => (q, [])) = some r) : r.1.phase = p.phase := by
    obtain ⟨q, hq, rfl⟩ := Option.map_eq_some_iff.mp h
    obtain ⟨u, hu, rfl⟩ := Option.map_eq_some_iff.mp hq
    obtain ⟨-, rfl⟩ := Part.tryPost_eq_some.mp hu
    simp
  have then_ {w : Write} {notes : List Note} {f : Part → Part × List Task} (h : (p.tryPost w notes).map f = some r)
      (hf : ∀ q : Part, (f q).1.phase = q.phase) : r.1.phase = p.phase := by
    obtain ⟨q, hq, rfl⟩ := Option.map_eq_some_iff.mp h
    obtain ⟨-, rfl⟩ := Part.tryPost_eq_some.mp hq
    exact hf _
  have stays {tasks : List Task} (h : some (p, tasks) = some r) : r.1.phase = p.phase := by
    cases h
    rfl
  cases t <;> simp only [Task.step, always, Option.some.injEq] at h
  case journalCount body => exact then_ h fun q => by cases body.losable <;> simp
  case startWalk number => exact then_ h fun q => by simp
  case carry =>
    unfold Part.stepCarry at h
    split at h
    · cases h; simp
    · exact then_ h fun q => by simp
  case endWalk => exact then_ h fun q => by cases q.accounts.pendingClose <;> simp
  case markSettling holdId =>
    unfold Part.stepMarkSettling at h
    split at h
    · exact stays h
    · exact holds h
  case removeHold holdId notes =>
    unfold Part.stepRemoveHold at h
    split at h
    · exact stays h
    · exact holds h
  case debit =>
    unfold Part.stepDebit at h
    split at h
    · exact stays h
    · split at h
      · cases h; simp
      · exact posts h
  case putEntry => exact (Part.stepPutEntry_frame h).2.2.1
  case countSend =>
    unfold Part.stepCountSend at h
    split at h
    · exact stays h
    · exact posts h
  case vacate =>
    simp only [Part.stepVacate] at h
    split at h
    · cases h; simp
    · exact posts h
  case removeEntry =>
    unfold Part.stepRemoveEntry at h
    split at h
    · exact stays h
    · exact then_ h fun q => by simp
  case recoverDebit =>
    unfold Part.stepRecoverDebit at h
    split at h
    · exact stays h
    · exact posts h
  case quiet =>
    split at h
    · exact stays h
    · cases h
  case enterService => cases ht
  case recoverCheckpoint =>
    subst h
    unfold Part.recoverCheckpoint
    split
    · rfl
    · dsimp only
      split_ifs
      · rfl
      · rfl
      · split <;> rfl
  all_goals first
    | exact posts h
    | exact holds h
    | (subst h; simp)

theorem Part.checkpointEntry_enters (p : Part) (c : Checkpoint) (holdId charge : Nat) :
    ∀ x ∈ p.checkpointEntry c holdId charge, x.entersService = false := by
  unfold Part.checkpointEntry
  split
  · simp
  · simp [Task.entersService]

/-- No step hands on the last step of start-up. -/
theorem Task.step_enters {t : Task} {p : Part} {r : Part × List Task} (h : t.step p = some r) :
    ∀ x ∈ r.2, x.entersService = false := by
  by_cases ht : t = .recoverCheckpoint
  · subst ht
    simp only [Task.step, always, Option.some.injEq] at h
    subst h
    have entry (c : Checkpoint) (holdId charge : Nat) (status : JournalStatus) :
        ∀ x ∈ p.checkpointEntry c holdId charge ++ [.settleCheckpoint status], x.entersService = false := fun x hx =>
      (List.mem_append.mp hx).elim (p.checkpointEntry_enters c holdId charge x) fun hx => by
        rw [List.mem_singleton.mp hx]
        rfl
    unfold Part.recoverCheckpoint
    split
    · simp
    · dsimp only
      split_ifs
      · simp
      · simp [Task.entersService]
      · split
        · exact entry _ _ _ _
        · exact entry _ _ _ _
        · simp [Task.entersService]
        · simp
  · intro x hx
    have := List.all_eq_true.mp (Task.step_routine h ht) x hx
    cases x <;> first | rfl | cases this

namespace Part

/-! ### Recovery (R190) -/

/-- Two lists that begin with different members are permutations of one another only through each other's heads. -/
theorem perm_cons_cases {α : Type} [DecidableEq α] {a b : α} {as bs : List α} (h : (a :: as).Perm (b :: bs)) :
    a = b ∧ as.Perm bs ∨ ∃ cs, bs.Perm (a :: cs) ∧ as.Perm (b :: cs) := by
  by_cases hab : a = b
  · subst hab
    exact .inl ⟨rfl, h.cons_inv⟩
  · have hmem : a ∈ bs := by
      rcases List.mem_cons.mp (h.mem_iff.mp (List.mem_cons_self ..)) with hb | hb
      · exact absurd hb hab
      · exact hb
    refine .inr ⟨bs.erase a, List.perm_cons_erase hmem, ?_⟩
    have hswap : (a :: as).Perm (a :: b :: bs.erase a) :=
      h.trans (((List.perm_cons_erase hmem).cons b).trans (List.Perm.swap a b _))
    exact hswap.cons_inv

/-- Work that writes no entry and does not enter service. -/
def Ordinary (tasks : List Task) : Prop := ∀ t ∈ tasks, t.isPlain = true ∧ t.putsEntry = false

/-- The work of a start-up under way: one work has the last step, behind the one that sums the held amounts unless they are summed; the
others are ordinary. -/
def Loads (agenda : List (List Task)) (summed : Prop) : Prop :=
  ∃ pre others, agenda.Perm ((pre ++ [.enterService]) :: others) ∧ (∀ t ∈ pre, t.entersService = false) ∧
    (∀ tasks ∈ others, Ordinary tasks) ∧ (Task.holdsInService ∈ pre ∨ summed)

theorem Loads.perm {a b : List (List Task)} {summed summed' : Prop} (h : Loads a summed) (hp : b.Perm a)
    (hs : summed → summed') : Loads b summed' := by
  obtain ⟨pre, others, hperm, hpre, hothers, hsums⟩ := h
  exact ⟨pre, others, hp.trans hperm, hpre, hothers, hsums.imp id hs⟩

/-- A work with no step left is none of a start-up's. -/
theorem Loads.drop {rest : List (List Task)} {summed : Prop} (h : Loads ([] :: rest) summed) : Loads rest summed := by
  obtain ⟨pre, others, hperm, hpre, hothers, hsums⟩ := h
  rcases perm_cons_cases hperm with ⟨hloader, -⟩ | ⟨cs, hcs, hrest⟩
  · simp at hloader
  · exact ⟨pre, cs, hrest, hpre, fun x hx => hothers x (hcs.mem_iff.mpr (List.mem_cons_of_mem _ hx)), hsums⟩

/-- The next step of a start-up is its last, with ordinary work beside it, or leaves a start-up. -/
theorem Loads.step {t : Task} {tasks more : List Task} {rest new next : List (List Task)} {summed summed' : Prop}
    (h : Loads ((t :: tasks) :: rest) summed) (hmore : ∀ x ∈ more, x.entersService = false)
    (hmine : t.isPlain = true → Ordinary more) (hnew : ∀ x ∈ new, Ordinary x) (hkeep : summed → summed')
    (hsum : t = .holdsInService → summed') (hdone : more ++ tasks = [] → next = rest ++ new)
    (hleft : more ++ tasks ≠ [] → next.Perm ((more ++ tasks) :: (rest ++ new))) :
    t = .enterService ∧ tasks = [] ∧ (∀ x ∈ rest, Ordinary x) ∧ summed ∨ t.entersService = false ∧ Loads next summed' := by
  obtain ⟨pre, others, hperm, hpre, hothers, hsums⟩ := h
  rcases perm_cons_cases hperm with ⟨hloader, hrest⟩ | ⟨cs, hcs, hrest⟩
  · cases pre with
    | nil =>
      obtain ⟨rfl, rfl⟩ : t = .enterService ∧ tasks = [] := by simpa using hloader
      exact .inl ⟨rfl, rfl, fun x hx => hothers x (hrest.mem_iff.mp hx), hsums.resolve_left (by simp)⟩
    | cons t' pre =>
      obtain ⟨rfl, rfl⟩ : t = t' ∧ tasks = pre ++ [.enterService] := by simpa using hloader
      refine .inr ⟨hpre t (by simp), more ++ pre, others ++ new, ?_, fun x hx => ?_, fun x hx => ?_, ?_⟩
      · rw [List.append_assoc]
        exact (hleft (by simp)).trans ((hrest.append_right new).cons _)
      · exact (List.mem_append.mp hx).elim (hmore x) fun hx => hpre x (List.mem_cons_of_mem _ hx)
      · exact (List.mem_append.mp hx).elim (hothers x) (hnew x)
      · rcases hsums with hsums | hsums
        · rcases List.mem_cons.mp hsums with rfl | hsums
          · exact .inr (hsum rfl)
          · exact .inl (List.mem_append_right _ hsums)
        · exact .inr (hkeep hsums)
  · have hmem : ∀ x ∈ t :: tasks, x.isPlain = true ∧ x.putsEntry = false :=
      hothers _ (hcs.mem_iff.mpr (List.mem_cons_self ..))
    have hplain := (hmem t (by simp)).1
    have hkind : t.entersService = false := by
      simp only [Task.isPlain, Bool.and_eq_true, Bool.not_eq_true'] at hplain
      exact hplain.2
    have hothers' : ∀ x ∈ cs ++ new, Ordinary x := fun x hx =>
      (List.mem_append.mp hx).elim (fun hx => hothers x (hcs.mem_iff.mpr (List.mem_cons_of_mem _ hx))) (hnew x)
    have hrest' : (rest ++ new).Perm ((pre ++ [.enterService]) :: (cs ++ new)) := hrest.append_right new
    refine .inr ⟨hkind, ?_⟩
    by_cases hempty : more ++ tasks = []
    · rw [hdone hempty]
      exact ⟨pre, cs ++ new, hrest', hpre, hothers', hsums.imp id hkeep⟩
    · refine ⟨pre, (more ++ tasks) :: (cs ++ new), ?_, hpre, fun x hx => ?_, hsums.imp id hkeep⟩
      · exact (hleft hempty).trans ((hrest'.cons _).trans (List.Perm.swap ..))
      · rcases List.mem_cons.mp hx with rfl | hx
        · exact fun y hy => (List.mem_append.mp hy).elim (hmine hplain y) fun hy => hmem y (List.mem_cons_of_mem _ hy)
        · exact hothers' x hx

/-- Start-up under way, with nothing claimed of the deferred list. -/
structure Recovers (p : Part) : Prop where
  phase : p.phase = .recovering
  canonical : p.Canonical
  pending : p.store.PendingRuns
  reserved : p.settlement.reserved = 0
  claims : p.baseClaims = 0
  agenda : Loads p.agenda p.HeldSums

theorem deferredUsed_le (p : Part) : p.deferredUsed ≤ Config.deferredSlots := by
  have := List.countP_le_length (p := fun slot => p.deferredInUse slot) (l := List.range Config.deferredSlots)
  simpa [deferredUsed] using this

/-- Entry into service with nothing claimed: the sums hold with what is still to be done. -/
theorem roomy_of_unclaimed {p : Part} (hpending : p.store.PendingRuns) (hreserved : p.settlement.reserved = 0)
    (hclaims : p.baseClaims = 0)
    (hwork : ∀ tasks ∈ p.agenda, Ordinary tasks) : p.Roomy 0 := by
  have hnone : entriesIn p.store.work = 0 := by
    rw [entriesIn_eq, List.sum_eq_zero]
    intro n hn
    obtain ⟨tasks, htasks, rfl⟩ := List.mem_map.mp hn
    exact List.countP_eq_zero.mpr fun t ht => by simp [(hwork tasks htasks t ht).2]
  refine ⟨hpending, ?_, ?_, fun tasks htasks t ht => keepsRoom_of_isPlain (hwork tasks htasks t ht).1⟩
  · rw [hreserved]
    exact p.deferredUsed_le
  · omega

/-- What the operations keep of a start-up: nothing claimed, and the work that they add is plain and writes no entry. -/
theorem Moves.unclaimed {p q : Part} (h : p.Moves q) (hreserved : p.settlement.reserved = 0) (hclaims : p.baseClaims = 0) :
    q.settlement.reserved = 0 ∧ q.baseClaims = 0 ∧
      ∃ new, q.agenda = p.agenda ++ new ∧ ∀ tasks ∈ new, Ordinary tasks := by
  obtain ⟨new, hwork, hplain, hadds⟩ := h.adds
  obtain ⟨hle, hkept⟩ := hadds 0 (by omega)
  refine ⟨by omega, by omega, new.map Work.tasks, by simp [agenda, hwork], fun tasks htasks t ht => ?_⟩
  obtain ⟨w, hw, rfl⟩ := List.mem_map.mp htasks
  refine ⟨hplain w hw t ht, ?_⟩
  have hzero : entriesIn new = 0 := by omega
  rw [entriesIn_eq, List.sum_eq_zero_iff] at hzero
  have := hzero _ (List.mem_map_of_mem (List.mem_map_of_mem hw))
  simpa using List.countP_eq_zero.mp this t ht

/-- What a step of work in start-up does but for the steps it hands on: nothing is claimed after it, and work is added as by an operation. -/
theorem step_unclaimed {t : Task} {p : Part} {r : Part × List Task} (h : t.step p = some r)
    (hreserved : p.settlement.reserved = 0) (hclaims : p.baseClaims = 0) :
    r.1.settlement.reserved = 0 ∧ r.1.baseClaims = 0 ∧
      ∃ new, r.1.agenda = p.agenda ++ new ∧ ∀ tasks ∈ new, Ordinary tasks := by
  cases ht : t.putsEntry with
  | false => exact (Task.step_steady h ht).toMoves.unclaimed hreserved hclaims
  | true =>
    cases t <;> first | cases ht; done | skip
    case putEntry =>
      obtain ⟨-, -, -, hwork, hbase, hres, -⟩ := stepPutEntry_frame h
      refine ⟨?_, hbase.trans hclaims, [], by simp [agenda, hwork], by simp⟩
      rw [hres, hreserved]
      split <;> rfl

/-- In service, with the sums of start-up. -/
def Served (p : Part) : Prop := p.phase = .serving ∧ p.Canonical ∧ p.HeldSums ∧ p.Roomy 0

/-- The sums, and that nothing is claimed, do not rest on the work that waits. -/
theorem HeldSums.withWork {p : Part} (h : p.HeldSums) (work : List Work) : (p.withWork work).HeldSums := h.congr rfl fun hp => ⟨hp, rfl⟩

theorem enterService_phase (p : Part) : p.enterService.phase = .serving := by
  have flights (homes : List Nat) (q : Part) :
      (homes.foldl (fun q home => q.assign .settlement [.intoFlight home]) q).phase = q.phase := by
    induction homes generalizing q with
    | nil => rfl
    | cons home homes ih => exact ih _
  unfold enterService
  dsimp only
  split_ifs <;> simp [flights]

/-- Start-up goes on by a step, or enters service with its sums (R190, R192). -/
theorem advance_recovers {p q : Part} {ahead behind : List Work} {w : Work} (hwork : p.store.work = ahead ++ w :: behind)
    (h : p.advance w (ahead ++ behind) = some q) (hp : p.Recovers) : q.Recovers ∨ q.Served := by
  obtain ⟨hphase, hcanonical, hpending, hreserved, hclaims, hloads⟩ := hp
  have hagenda : p.agenda.Perm (w.tasks :: (p.withWork (ahead ++ behind)).agenda) := by
    simp only [agenda, withWork, hwork, List.map_append, List.map_cons]
    exact List.perm_middle
  have hrestSums (hs : p.HeldSums) : (p.withWork (ahead ++ behind)).HeldSums := hs.withWork _
  have hloads' := hloads.perm hagenda.symm hrestSums
  rcases advance_agenda h with ⟨hnil, rfl⟩ | ⟨t, tasks, r, work, hcons, hstep, rfl, hdone, hleft⟩
  · rw [hnil] at hloads'
    exact .inl ⟨hphase, hcanonical, hpending, hreserved, hclaims, hloads'.drop⟩
  · have hphase' : (p.withWork (ahead ++ behind)).phase = .recovering := hphase
    have hcanonical' : (p.withWork (ahead ++ behind)).Canonical := hcanonical
    have hpending' : (p.withWork (ahead ++ behind)).store.PendingRuns := hpending
    obtain ⟨hres, hbase, new, hnew, hordinary⟩ := step_unclaimed hstep hreserved hclaims
    generalize p.withWork (ahead ++ behind) = rest at hphase' hcanonical' hpending' hstep hnew hloads'
    have hgoes := Task.step_goes hstep
    rw [hcons] at hloads'
    have hmine (hplain : t.isPlain = true) : Ordinary r.2 := fun x hx => by
      refine Task.isPlain_of_isRoutine (List.all_eq_true.mp (Task.step_routine hstep ?_) x hx)
      rintro rfl
      simp [Task.isPlain, Task.keepsRoom] at hplain
    have hsum (ht : t = .holdsInService) : r.1.HeldSums := by
      subst ht
      simp only [Task.step, always, Option.some.injEq] at hstep
      subst hstep
      exact holdsInService_sums hpending'
    have hdone' (hempty : r.2 ++ tasks = []) : (r.1.withWork work).agenda = rest.agenda ++ new := by
      rw [hdone hempty, ← hnew]
      rfl
    have hleft' (hmore : r.2 ++ tasks ≠ []) : (r.1.withWork work).agenda.Perm ((r.2 ++ tasks) :: (rest.agenda ++ new)) := by
      rw [← hnew]
      exact hleft hmore
    rcases hloads'.step (Task.step_enters hstep) hmine hordinary (hgoes.heldSums hcanonical') hsum hdone' hleft' with
      ⟨rfl, rfl, hothers, hheld⟩ | ⟨hkind, hloads⟩
    · obtain ⟨q, tasks⟩ := r
      simp only [Task.step, always, Option.some.injEq, Prod.mk.injEq] at hstep
      obtain ⟨rfl, rfl⟩ := hstep
      have hserving := rest.enterService_phase
      dsimp only at hgoes hdone hnew hres hbase
      clear hdone' hleft' hleft
      generalize rest.enterService = q at hserving hgoes hdone hnew hres hbase
      obtain rfl := hdone rfl
      refine .inr ⟨hserving, hgoes.canonical hcanonical', hgoes.heldSums hcanonical' hheld,
        roomy_of_unclaimed (p := q) (hgoes.pendingRuns hpending') hres hbase fun x hx => ?_⟩
      rw [hnew, List.mem_append] at hx
      exact hx.elim (hothers x) (hordinary x)
    · exact .inl ⟨(Task.step_phase hstep hkind).trans hphase', hgoes.canonical hcanonical', hgoes.pendingRuns hpending', hres,
        hbase, hloads.perm (.refl _) fun hs => hs.withWork work⟩

theorem react_recovering {p : Part} (h : p.phase = .recovering) : p.react = p := by
  unfold react
  rw [if_neg (by simp [Part.serving, h])]

theorem Served.goes {p q : Part} (h : p.Served) (k : p.Goes q) (hq : q.Roomy 0) : q.Served := by
  obtain ⟨hs, hc, hh, -⟩ := h
  exact ⟨k.serving hs, k.canonical hc, k.heldSums hc hh, hq⟩

/-- Start-up goes on until its work waits or it has entered service (R190). -/
theorem pump_recovers (fuel : Nat) {p : Part} (h : p.Recovers ∨ p.Served) : (p.pump fuel).Recovers ∨ (p.pump fuel).Served := by
  refine pump_keeps (I := fun q => q.Recovers ∨ q.Served) (fun q hq => ?_) (fun q r hq hr => ?_) (fun q r hq hr => ?_) fuel h
  · rcases hq with hq | hq
    · obtain ⟨hphase, hcanonical, hpending, hreserved, hclaims, hloads⟩ := hq
      exact .inl ⟨hphase, hcanonical, hpending.fill, hreserved, hclaims,
        hloads.perm (.refl _) ((Goes.fill q).heldSums hcanonical)⟩
    · exact .inr (hq.goes (.fill q) ((Steady.fill q).roomy hq.2.2.2))
  · obtain ⟨work, rfl, hwork⟩ := markWait_agenda hr
    rcases hq with hq | hq
    · obtain ⟨hphase, hcanonical, hpending, hreserved, hclaims, hloads⟩ := hq
      exact .inl ⟨hphase, hcanonical, hpending, hreserved, hclaims, hloads.perm hwork fun hs => hs.withWork _⟩
    · exact .inr (hq.goes (goes_withWork q work) (hq.2.2.2.perm hwork))
  · obtain ⟨ahead, w, behind, hwork, -, hw⟩ := advanceFirst_eq_some hr
    have reacts (hs : r.Served) : r.react.Served := hs.goes r.steady_react.goes (r.steady_react.roomy hs.2.2.2)
    rcases hq with hq | hq
    · rcases advance_recovers hwork hw hq with hr' | hr'
      · rw [react_recovering hr'.phase]
        exact .inl hr'
      · exact .inr (reacts hr')
    · exact .inr (reacts (hq.goes (goes_advance hw) (advance_roomy hwork hw hq.2.2.2)))

/-- Start-up begins with nothing claimed, and with its own work alone (R190). -/
theorem startUp_recovers {p : Part} (h : p.Canonical) : (p.startUp false).Recovers where
  phase := rfl
  canonical := h
  pending := by simp [startUp, resetValues, beginRecovery, assign, Store.PendingRuns]
  reserved := rfl
  claims := rfl
  agenda := by
    refine ⟨recoverySteps.dropLast, [], ?_, by decide, by simp, .inl (by decide)⟩
    exact List.Perm.refl _

/-- A drain that ends within a command, and start-up behind it, enter service with the sums of start-up (R167, R190). -/
theorem drain_served {p : Part} (h : p.Canonical) (hphase : p.phase = .draining false)
    (hs : ((p.drain false).goOn).phase = .serving) : ((p.drain false).goOn).Served := by
  have hstored : (p.fill.drainPosts p.fill.store.work).Canonical := by
    have := (p.fill_sameBase.trans (p.fill.drainPosts_sameBase p.fill.store.work)).kept.2.2
    unfold Canonical
    rwa [this]
  rcases p.drain_cases false with hd | hd
  · rw [hd, goOn] at hs
    rw [drainPosts_phase, show p.fill.phase = p.phase from rfl, hphase] at hs
    simp only [drainPosts_phase, show p.fill.phase = p.phase from rfl, hphase] at hs
    cases hs
  · rw [hd] at hs ⊢
    have hstart := startUp_recovers hstored
    have hpump : ((p.fill.drainPosts p.fill.store.work).startUp false).goOn =
        ((p.fill.drainPosts p.fill.store.work).startUp false).pump pumpFuel := by
      unfold goOn
      rw [hstart.phase]
    rw [hpump] at hs ⊢
    rcases pump_recovers pumpFuel (.inl hstart) with hr | hr
    · rw [hr.phase] at hs
      cases hs
    · exact hr

end Part

end Sys2Proof.Machine
end


section
/-! Proofs about every command in service: the held amounts (R86) and the deferred slots (R124) after it. -/

-- One theorem after another: many small theorems elaborated at once need more threads than the check allows.
set_option Elab.async false

namespace Sys2Proof.Machine

open Sys2Proof

/-! ### The commands that end service, and the completion of a write -/

namespace Part

/-- The PANEL_READ of a RESET_STATION's response begins the drain (R191). -/
theorem panelRead_restart {p : Part} (hs : p.phase = .serving) (hw : p.panel.resetWaits = true) :
    p.panelRead.phase = .draining false ∧ p.panelRead.store.stored = p.store.stored := by
  unfold panelRead
  rw [if_neg (by simp [hs])]
  simp only [hw, if_true]
  exact ⟨by simp [beginSoftReset, hs, Phase.loads], rfl⟩

/-- With the reset pin asserted a drain starts nothing up (R167, R191). -/
theorem drain_pinned {p : Part} {load : Bool} (hp : p.resetPin = true) (hphase : p.phase = .draining load) :
    (p.drain load).phase = .draining load := by
  have hpin : (p.fill.drainPosts p.fill.store.work).resetPin = true :=
    ((p.fill_sameBase.trans (p.fill.drainPosts_sameBase p.fill.store.work)).kept.1).trans hp
  unfold drain
  dsimp only
  rw [if_neg (by rw [hpin]; simp), drainPosts_phase]
  exact hphase

theorem follow_draining {p : Part} {load : Bool} (h : p.phase = .draining load) (before : Part) :
    p.follow before = (p.drain load).goOn := by
  unfold follow
  rw [h]

theorem goOn_draining {p : Part} {load : Bool} (h : p.phase = .draining load) : p.goOn = p := by
  unfold goOn
  rw [h]

end Part

/-- A command of the supply in service leaves all as it is but a pin, or completes a write, or ends service. -/
theorem Instr.supply_serving {c : Instr} (h : Instr.isSupply c = true) {p : Part} (hs : p.phase = .serving) :
    p.Steady (Instr.effect c p) ∨ c = .writeComplete ∨ ((Instr.effect c p).follow p).phase ≠ .serving := by
  cases c <;> first
    | exact (Bool.false_ne_true h).elim
    | dsimp only [Instr.effect]
  case powerOn =>
    refine .inl ?_
    unfold Part.powerOn
    rw [if_pos (by simp [hs])]
  case powerLoss programmed =>
    refine .inr (.inr ?_)
    rw [if_neg (by simp [hs])]
    simp [Part.follow, Part.goOn, Part.losePower, Part.resetValues]
  case resetPinAssert =>
    refine .inr (.inr ?_)
    have hphase : p.assertReset.phase = .draining false := by simp [Part.assertReset, hs, Part.beginSoftReset, Phase.loads]
    have hpin : p.assertReset.resetPin = true := by simp [Part.assertReset, hs, Part.beginSoftReset]
    have hdrain := Part.drain_pinned hpin hphase
    rw [Part.follow_draining hphase, Part.goOn_draining hdrain, hdrain]
    simp
  case resetPinRelease => exact .inl (Part.steady_of_quiet rfl rfl rfl rfl)
  case configLoadDone =>
    refine .inl ?_
    unfold Part.loadDone
    rw [if_neg (by simp [hs])]
  case writeComplete => exact .inr (.inl rfl)

namespace Part

/-- A number that a table reads is listed in it. -/
theorem mem_of_tableGet_isSome {α : Type} {t : Table α} {slot : Nat} (h : (tableGet t slot).isSome = true) :
    ∃ e ∈ t, e.1 = slot := by
  induction t with
  | nil => cases h
  | cons x t ih =>
    obtain ⟨i, v⟩ := x
    unfold tableGet at h
    split at h
    · next hi => exact ⟨(i, v), by simp, hi⟩
    · obtain ⟨e, he, hslot⟩ := ih h
      exact ⟨e, by simp [he], hslot⟩

/-- An entry that is stored, or removed, leaves no slot in use that was not (R124, R161). -/
theorem programOldest_inUse {p : Part} {post : Post} {rest : List Post} (hq : p.store.queue = post :: rest) {slot : Nat}
    (h : (p.programOldest post rest).store.inUse slot = true) : p.store.inUse slot = true := by
  rw [Store.inUse_eq, Bool.or_eq_true] at h ⊢
  rcases h with h | h
  · obtain ⟨e, he, rfl⟩ := mem_of_tableGet_isSome h
    rcases mem_deferred_program he with he | he
    · exact .inl (tableGet_isSome_of_mem he)
    · exact .inr (by simp [Store.names, hq, he])
  · refine .inr ?_
    simp only [Store.names, programOldest, List.any_eq_true] at h ⊢
    obtain ⟨x, hx, hn⟩ := h
    exact ⟨x, by simp [hq, hx], hn⟩

theorem programOldest_roomy {p : Part} {post : Post} {rest : List Post} (hq : p.store.queue = post :: rest) (h : p.Roomy 0) :
    (p.programOldest post rest).Roomy 0 := by
  obtain ⟨hpending, hused, hclaims, hkept⟩ := h
  refine ⟨hpending, le_trans (Nat.add_le_add_right ?_ _) hused, hclaims, hkept⟩
  exact List.countP_mono_left fun slot _ hslot => programOldest_inUse hq hslot

theorem writeComplete_roomy {p : Part} (hs : p.phase = .serving) (h : p.Roomy 0) : p.writeComplete.Roomy 0 := by
  cases hq : p.store.queue with
  | nil =>
    unfold writeComplete
    rw [hq]
    exact h
  | cons post rest =>
    rw [writeComplete_serving hs hq]
    have hpumped := pump_roomy pumpFuel (p := (p.programOldest post rest).setStarting (!rest.isEmpty)) (programOldest_roomy hq h)
    have hserving : (((p.programOldest post rest).setStarting (!rest.isEmpty)).pump pumpFuel).phase = .serving :=
      (goes_pump _ _).serving hs
    have hnoted := (steady_notes post.notes (((p.programOldest post rest).setStarting (!rest.isEmpty)).pump pumpFuel))
    exact follow_roomy (hnoted.goes.serving hserving) p (hnoted.roomy hpumped)

theorem writeComplete_sums' {p : Part} (hs : p.phase = .serving) (hc : p.Canonical) (h : p.HeldSums) :
    p.writeComplete.HeldSums ∧ p.writeComplete.Canonical ∧ p.writeComplete.phase = .serving := by
  cases hq : p.store.queue with
  | nil =>
    unfold writeComplete
    rw [hq]
    exact ⟨h, hc, hs⟩
  | cons post rest =>
    rw [writeComplete_serving hs hq]
    have hprogrammed : ((p.programOldest post rest).setStarting (!rest.isEmpty)).HeldSums :=
      (programOldest_sums hq h).congr rfl fun hp => ⟨hp, rfl⟩
    have hcanonical : ((p.programOldest post rest).setStarting (!rest.isEmpty)).Canonical := hc.program _
    have hserving : ((p.programOldest post rest).setStarting (!rest.isEmpty)).phase = .serving := hs
    generalize (p.programOldest post rest).setStarting (!rest.isEmpty) = q at *
    have hnotes := (q.goes_pump pumpFuel).trans (steady_notes post.notes (q.pump pumpFuel)).goes
    have hgoes := hnotes.trans (goes_follow p fun load => by rw [hnotes.serving hserving]; simp)
    exact ⟨(hgoes.heldSums hcanonical hprogrammed).congr rfl fun hp => ⟨hp, rfl⟩, hgoes.canonical hcanonical,
      hgoes.serving hserving⟩

/-! ### The effect of a command on the slots -/

theorem claimsSlot_of_idle {j : Job} (h : j.state = .idle) : j.claimsSlot = false := by
  simp [Job.claimsSlot, h, JobState.takesTopups]

/-- A card that opens a job reserves a free slot for an account job, and none for a value card (R21, R22). -/
theorem cardIn_roomy {p : Part} (h : p.Roomy 0) (record : List Byte) : (p.cardIn record).Roomy 0 := by
  rcases p.cardIn_cases record with hs | ⟨hidle, ⟨card, hc⟩ | ⟨account, home, hfree, hc⟩⟩
  · exact hs.roomy h
  · rw [hc]
    obtain ⟨hstate, hfunding, -, -, -, hwork, hset, hused⟩ := p.openValue_frame card
    refine (p.steady_openValueJob card).roomy ?_
    refine h.congr (p.goes_openValue card).pendingRuns ?_ (fun hclaims => ?_) fun tasks htasks => h.2.2.2 tasks ?_
    · rw [deferredUsed_congr hused, hset]
    · have hnone : (p.openValue card).job.claimsSlot = false := by
        simp [Job.claimsSlot, Job.accountFunded, hstate, hfunding]
      rw [baseClaims, claimsSlot_of_idle hidle] at hclaims
      rwa [baseClaims, hnone, hwork, hset]
    · rwa [agenda, hwork] at htasks
  · rw [hc]
    have hexpect := p.steady_expectReturn.roomy h
    have hfree' : p.expectReturn.deferredFree = true := hfree
    have hidle' : p.expectReturn.job.state = .idle := hidle
    generalize p.expectReturn = q at hexpect hfree' hidle' ⊢
    obtain ⟨hstate, -, -, -, hwork, hset, hused⟩ := q.openAsking_frame account home
    refine (steady_openAccountJob q account home).roomy ?_
    have hroom : q.deferredUsed + q.settlement.reserved < Config.deferredSlots := by simpa [deferredFree] using hfree'
    obtain ⟨hpending, -, hclaims, hkept⟩ := hexpect
    refine ⟨(goes_openAsking q account home).pendingRuns hpending, ?_, ?_, fun tasks htasks => hkept tasks ?_⟩
    · rw [deferredUsed_congr hused, hset]
      exact hroom
    · have hclaim : (q.openAsking account home).job.claimsSlot = true := by simp [Job.claimsSlot, hstate]
      rw [baseClaims, claimsSlot_of_idle hidle'] at hclaims
      rw [baseClaims, hclaim, hwork, hset]
      simp only [Bool.toNat_false, Bool.toNat_true] at hclaims ⊢
      omega
    · rwa [agenda, hwork] at htasks

theorem sendResult_roomy {p : Part} (hs : p.phase = .serving) (h : p.Roomy 0) (answered : Bool) :
    (p.sendResult answered).Roomy 0 := by
  unfold sendResult
  split
  · exact h
  · next ticket _ =>
    have hsent := (p.steady_driveFrame ticket).trans (steady_sendOutcome _ ticket answered)
    exact (steady_restAfter _ _).roomy (follow_roomy (hsent.goes.serving hs) p (hsent.roomy h))

theorem frameReceived_roomy {p : Part} (hs : p.phase = .serving) (h : p.Roomy 0) (bytes : List Byte) :
    (p.frameReceived bytes).Roomy 0 := by
  unfold frameReceived
  have hreceived := p.steady_receive bytes
  exact (steady_restAfter _ _).roomy (follow_roomy (hreceived.goes.serving hs) p (hreceived.roomy h))

end Part

/-- An effect in service, but that of the supply and of a reset, keeps the room of the deferred list. -/
theorem Instr.effect_roomy {c : Instr} (hsupply : Instr.isSupply c = false) {p : Part}
    (hr : c = .panelRead → p.panel.resetWaits = false) (hs : p.phase = .serving) (h : p.Roomy 0) :
    (Instr.effect c p).Roomy 0 := by
  cases hcalm : Instr.isCalm c with
  | true => exact (Instr.effect_steady hcalm hr).roomy h
  | false =>
    cases he : Instr.isEngine c with
    | true => exact (Instr.effect_moves he p).roomy h
    | false =>
      have serves {f : Part → Part} (hf : (f p).Roomy 0) : (inService f p).Roomy 0 :=
        inService_keeps (I := fun q => q.Roomy 0) h fun _ => hf
      cases c <;> first
        | exact (Bool.false_ne_true hcalm.symm).elim
        | exact (Bool.false_ne_true hsupply.symm).elim
        | exact (Bool.false_ne_true he.symm).elim
        | dsimp only [Instr.effect]
      case cardIn => exact serves (Part.cardIn_roomy h _)
      case sendResult => exact serves (Part.sendResult_roomy hs h _)
      case frameReceived bytes =>
        show (if p.serving then p.frameReceived bytes else p.frameUnanswered).Roomy 0
        split
        · exact Part.frameReceived_roomy hs h bytes
        · exact h

/-! ### Every command in service -/

/-- The parts of a step that starts and ends in service: a command keeps the sums by its effect and by what follows it, or completes a
write, or starts the part up anew. -/
theorem Instr.result_serving {I : Part → Prop} {c : Instr} {p : Part} (hs : p.phase = .serving) (hc : p.Canonical) (h : I p)
    (heffect : Instr.isSupply c = false → (c = .panelRead → p.panel.resetWaits = false) → I (Instr.effect c p))
    (hsteady : ∀ q, p.Steady q → I q) (hwrite : I p.writeComplete ∧ p.writeComplete.phase = .serving)
    (hfollow : ∀ q, q.phase = .serving → I q → I (q.follow p)) (hserved : ∀ q : Part, q.Served → I q)
    (hlast : ∀ q, I q → I ((q.journalLow p).alert)) (ht : (Instr.result c p).phase = .serving) : I (Instr.result c p) := by
  have hphase (q : Part) : ((q.journalLow p).alert).phase = q.phase := by
    unfold Part.journalLow
    split <;> rfl
  cases hb : Instr.isBare c with
  | true =>
    rw [Instr.result_bare hb]
    rcases Instr.effect_bare hb p with he | ⟨code, result, body, he⟩
    · rwa [he]
    · rw [he]; exact hsteady _ (p.steady_respond _ _ _)
  | false =>
    rw [Instr.result_event hb] at ht ⊢
    refine hlast _ ?_
    replace ht : ((Instr.effect c p).follow p).phase = .serving := (hphase _).symm.trans ht
    by_cases hr : c = .panelRead ∧ p.panel.resetWaits = true
    · obtain ⟨rfl, hw⟩ := hr
      obtain ⟨hdrains, hstored⟩ := Part.panelRead_restart hs hw
      have hc' : p.panelRead.Canonical := by
        unfold Part.Canonical
        rwa [hstored]
      rw [show Instr.effect .panelRead p = p.panelRead from rfl, Part.follow_draining hdrains] at ht ⊢
      exact hserved _ (Part.drain_served hc' hdrains ht)
    · have hr' : c = .panelRead → p.panel.resetWaits = false := fun hcr => by
        cases hw : p.panel.resetWaits with
        | false => rfl
        | true => exact absurd ⟨hcr, hw⟩ hr
      cases hsupply : Instr.isSupply c with
      | false => exact hfollow _ ((Instr.effect_goes hsupply hr').serving hs) (heffect hsupply hr')
      | true =>
        rcases Instr.supply_serving hsupply hs with hq | rfl | hq
        · exact hfollow _ (hq.goes.serving hs) (hsteady _ hq)
        · exact hfollow _ hwrite.2 hwrite.1
        · exact absurd ht hq

/-- The held amounts and the canonical form after every command in service. -/
theorem Instr.result_heldSums {c : Instr} {p : Part} (hs : p.phase = .serving) (hc : p.Canonical) (h : p.HeldSums)
    (ht : (Instr.result c p).phase = .serving) : (Instr.result c p).HeldSums := by
  have keeps {q r : Part} (hq : q.Canonical ∧ q.HeldSums) (hg : q.Goes r) : r.Canonical ∧ r.HeldSums :=
    ⟨hg.canonical hq.1, hg.heldSums hq.1 hq.2⟩
  have hw := Part.writeComplete_sums' hs hc h
  refine (Instr.result_serving (I := fun q => q.Canonical ∧ q.HeldSums) hs hc ⟨hc, h⟩
    (fun hsupply hr => keeps ⟨hc, h⟩ (Instr.effect_goes hsupply hr)) (fun q hq => keeps ⟨hc, h⟩ hq.goes)
    ⟨⟨hw.2.1, hw.1⟩, hw.2.2⟩ (fun q hq hI => keeps hI (Part.goes_follow p fun load => by rw [hq]; simp))
    (fun q hq => ⟨hq.2.1, hq.2.2.1⟩) (fun q hq => ?_) ht).2
  unfold Part.journalLow
  split <;> exact hq

theorem Instr.result_roomy {c : Instr} {p : Part} (hs : p.phase = .serving) (hc : p.Canonical) (h : p.Roomy 0)
    (ht : (Instr.result c p).phase = .serving) : (Instr.result c p).Roomy 0 := by
  refine Instr.result_serving (I := fun q => q.Roomy 0) hs hc h (fun hsupply hr => Instr.effect_roomy hsupply hr hs h)
    (fun q hq => hq.roomy h) ⟨Part.writeComplete_roomy hs h, ?_⟩ (fun q hq hI => Part.follow_roomy hq p hI)
    (fun q hq => hq.2.2.2) (fun q hq => Part.roomy_journalLow_alert hq p) ht
  cases hq : p.store.queue with
  | nil =>
    unfold Part.writeComplete
    rw [hq]
    exact hs
  | cons post rest =>
    rw [Part.writeComplete_serving hs hq]
    have hnotes := (Part.goes_pump pumpFuel ((p.programOldest post rest).setStarting (!rest.isEmpty))).trans
      (Part.steady_notes post.notes _).goes
    exact (Part.goes_follow p fun load => by rw [hnotes.serving hs]; simp).serving (hnotes.serving hs)

/-- Settles O10: the sums of start-up by induction on the records, and every operation on a record moves its account's amount with it. -/
theorem heldAmountsAreTheActiveHolds : Obligations.HeldAmountsAreTheActiveHolds := by
  refine ⟨Part.holdsInService_held, fun s t hc hs h hstep ht => ?_⟩
  rcases step_cases hstep with he | ⟨c, rest, -, he⟩
  · rw [he]
    obtain ⟨now, hnow⟩ := s.part.tick_frame
    rw [hnow]
    exact h
  · rw [he] at ht ⊢
    exact Instr.result_heldSums hs hc h ht

/-- Settles O12: an operation uses or gives back only a slot that its owner had claimed, an entry is written under a reservation, and a
start-up enters service with nothing claimed. -/
theorem deferredSlotsStayWithinTheirPlaces : Obligations.DeferredSlotsStayWithinTheirPlaces := by
  intro s t hc hs h hstep ht
  rw [Part.deferredSums_iff] at h ⊢
  rcases step_cases hstep with he | ⟨c, rest, -, he⟩
  · rw [he]
    obtain ⟨now, hnow⟩ := s.part.tick_frame
    rw [hnow]
    exact h
  · rw [he] at ht ⊢
    exact Instr.result_roomy hs hc h ht

end Sys2Proof.Machine
end


section
/-! Proofs about the byte layouts of chapter 12: what a field reads as, the frames of the line (R141), and card records (R69, R70). -/

-- One theorem after another: many small theorems elaborated at once need more threads than the check allows.
set_option Elab.async false

namespace Sys2Proof.Machine

open Sys2Proof

/-! ### Fields -/

theorem foldl_number (bytes : List Byte) (n : Nat) :
    bytes.foldl (fun n b => n * 256 + b.toNat) n =
      n * 256 ^ bytes.length + bytes.foldl (fun n b => n * 256 + b.toNat) 0 := by
  induction bytes generalizing n with
  | nil => simp
  | cons b bytes ih =>
    rw [List.foldl_cons, List.foldl_cons, ih (n * 256 + b.toNat), ih (0 * 256 + b.toNat), List.length_cons]
    ring

theorem numberOf_cons (b : Byte) (bytes : List Byte) : numberOf (b :: bytes) = b.toNat * 256 ^ bytes.length + numberOf bytes := by
  rw [numberOf, List.foldl_cons, foldl_number, Nat.zero_mul, Nat.zero_add, ← numberOf]

@[simp] theorem bytesOf_length (size value : Nat) : (bytesOf size value).length = size := by
  induction size with
  | zero => rfl
  | succ size ih => simp [bytesOf, ih]

theorem numberOf_bytesOf (size value : Nat) : numberOf (bytesOf size value) = value % 256 ^ size := by
  induction size with
  | zero => simp [bytesOf, numberOf, Nat.mod_one]
  | succ size ih =>
    have hsplit := Nat.mod_mul (x := value) (a := 256 ^ size) (b := 256)
    rw [bytesOf, numberOf_cons, ih, bytesOf_length, BitVec.toNat_ofNat, Nat.pow_succ 256, hsplit, Nat.mul_comm, Nat.add_comm]

theorem numberAt_bytesOf_append (size value : Nat) (rest : List Byte) :
    numberAt (bytesOf size value ++ rest) 0 size = value % 256 ^ size := by
  rw [numberAt, List.drop_zero, List.take_append_of_le_length (by simp), List.take_of_length_le (by simp), numberOf_bytesOf]

theorem numberAt_skip {skipped : List Byte} {offset : Nat} (h : skipped.length ≤ offset) (rest : List Byte) (size : Nat) :
    numberAt (skipped ++ rest) offset size = numberAt rest (offset - skipped.length) size := by
  rw [numberAt, numberAt, List.drop_append, List.drop_of_length_le h, List.nil_append]

/-- A field that fits reads as its number, wherever it stands. -/
theorem numberAt_field {size value : Nat} (h : fits size value = true) (rest : List Byte) :
    numberAt (field size value ++ rest) 0 size = value := by
  have hlt : value < 256 ^ size := by simpa [fits] using h
  rw [field, if_pos hlt, numberAt_bytesOf_append, Nat.mod_eq_of_lt hlt]

theorem numberAt_field_last {size value : Nat} (h : fits size value = true) : numberAt (field size value) 0 size = value := by
  simpa using numberAt_field h []

@[simp] theorem field_length (size value : Nat) : (field size value).length = size := bytesOf_length _ _

theorem numberAt_skip_field {size offset : Nat} (h : size ≤ offset) (value : Nat) (rest : List Byte) (n : Nat) :
    numberAt (field size value ++ rest) offset n = numberAt rest (offset - size) n := by
  rw [numberAt_skip (by simpa using h), field_length]

/-! ### Frames of the line (R141, section 12.1) -/

/-- The payload of a message has the length of its kind, which the length byte carries. -/
theorem payload_length (m : Message) : payloadLength m.rank = some m.payload.length ∧ m.payload.length ≤ 16 := by
  cases m <;> simp [Message.payload, Message.rank, payloadLength]

theorem rank_bounds (m : Message) : 1 ≤ m.rank ∧ m.rank ≤ 15 := by cases m <;> simp [Message.rank]

/-- The credit fields of ACCT_PUT, packed in one byte, read as they were. -/
theorem acctPut_fields {k c s : Nat} (hk : k ≤ 1) (hc : c ≤ 3) (hs : s ≤ 3) :
    fits 1 (k * 128 + c * 32 + s * 8) = true ∧ (k * 128 + c * 32 + s * 8) / 128 = k ∧
      (k * 128 + c * 32 + s * 8) / 32 % 4 = c ∧ (k * 128 + c * 32 + s * 8) / 8 % 4 = s := by
  simp only [fits, decide_eq_true_eq]
  omega

/-- A message within its widths reads from its payload as it was written (R142). -/
theorem messageOf_payload {m : Message} (h : m.inWidth = true) : messageOf m.rank m.payload = some m := by
  unfold messageOf
  rw [if_pos (payload_length m).1]
  cases m <;> simp only [Message.inWidth, Bool.and_eq_true, decide_eq_true_eq] at h
  case acctPut a k c s v =>
    obtain ⟨⟨⟨⟨ha, hk⟩, hc⟩, hs⟩, hv⟩ := h
    obtain ⟨hfits, hkind, hclass, hstate⟩ := acctPut_fields hk hc hs
    simp [Message.rank, Message.payload, numberAt_skip_field, numberAt_field, numberAt_field_last, ha, hv, hfits, hkind,
      hclass, hstate]
  all_goals
    simp [Message.rank, Message.payload, numberAt_skip_field, numberAt_field, numberAt_field_last, h]

/-- Settles O14: every field is read back from its own bytes, and the check from the bytes before it. -/
theorem builtFrameIsJudgedGood : Obligations.BuiltFrameIsJudgedGood := by
  intro source dest m hsource hdest hm
  obtain ⟨hrank1, hrank15⟩ := rank_bounds m
  obtain ⟨hknown, hlength⟩ := payload_length m
  have hstation : 1 ≤ source ∧ source ≤ 30 := by simpa [isStation] using hsource
  unfold judge frameBytes
  dsimp only
  set header := m.rank * 4096 + dest * 128 + source * 4 with hheader
  set body := bytesOf 2 header ++ bytesOf 1 m.payload.length ++ m.payload with hbody
  have hbodyLength : body.length = 3 + m.payload.length := by
    simp [hbody]
    omega
  have hbytes : body ++ bytesOf 2 (crc body).toNat =
      bytesOf 2 header ++ (bytesOf 1 m.payload.length ++ (m.payload ++ bytesOf 2 (crc body).toNat)) := by
    simp [hbody]
  have hread : numberAt (body ++ bytesOf 2 (crc body).toNat) 0 2 = header := by
    rw [hbytes, numberAt_bytesOf_append, Nat.mod_eq_of_lt (by omega)]
  have hlen : numberAt (body ++ bytesOf 2 (crc body).toNat) 2 1 = m.payload.length := by
    rw [hbytes, numberAt_skip (by simp), bytesOf_length, Nat.sub_self, numberAt_bytesOf_append, Nat.mod_eq_of_lt (by omega)]
  have hcrc : numberAt (body ++ bytesOf 2 (crc body).toNat) (3 + m.payload.length) 2 = (crc body).toNat := by
    rw [numberAt_skip (by omega), hbodyLength, Nat.sub_self]
    have hlast := numberAt_bytesOf_append 2 (crc body).toNat []
    have hlt : (crc body).toNat < 256 ^ 2 := (crc body).isLt
    rwa [List.append_nil, Nat.mod_eq_of_lt hlt] at hlast
  have hpayload : ((body ++ bytesOf 2 (crc body).toNat).drop 3).take m.payload.length = m.payload := by
    rw [hbytes, ← List.append_assoc, List.drop_append_of_le_length (by simp), List.drop_of_length_le (by simp),
      List.nil_append, List.take_append_of_le_length le_rfl, List.take_length]
  have htake : (body ++ bytesOf 2 (crc body).toNat).take (3 + m.payload.length) = body := by
    rw [← hbodyLength, List.take_append_of_le_length le_rfl, List.take_length]
  have hfields : header / 4096 = m.rank ∧ header / 128 % 32 = dest ∧ header / 4 % 32 = source := by omega
  obtain ⟨hr, hd, hs⟩ := hfields
  rw [hread, hlen, hcrc, hpayload, htake, hr, hd, hs, messageOf_payload hm, if_neg, if_neg (by simp)]
  simp only [List.length_append, bytesOf_length, hbodyLength]
  omega

/-! ### Check bytes and card records (R69, R70, section 12.2) -/

theorem foldl_bytes (bytes : List Byte) (n : Nat) :
    bytes.foldl (fun n b => n + b.toNat) n = n + bytes.foldl (fun n b => n + b.toNat) 0 := by
  induction bytes generalizing n with
  | nil => simp
  | cons b bytes ih =>
    rw [List.foldl_cons, List.foldl_cons, ih (n + b.toNat), ih (0 + b.toNat)]
    omega

/-- Bytes with their check byte sum to 0 (section 12.2). -/
theorem byteSum_withCheck (bytes : List Byte) : byteSum (withCheck bytes) = 0 := by
  have hcheck : (checkByte bytes).toNat = (256 - byteSum bytes) % 256 := BitVec.toNat_ofNat _ _
  have hlt : byteSum bytes < 256 := Nat.mod_lt _ (by decide)
  rw [withCheck, byteSum, List.foldl_append, List.foldl_cons, List.foldl_nil, hcheck]
  rw [byteSum] at hlt ⊢
  omega

/-- A record's first byte is its kind. -/
theorem numberAt_kind (kind : Byte) (rest : List Byte) : numberAt (kind :: rest) 0 1 = kind.toNat := by
  simp [numberAt, numberOf]

theorem recordChecks_of_sum {kind : Byte} {rest : List Byte} (h : byteSum (kind :: rest) = 0) :
    recordChecks (kind :: rest) = (recordLength kind.toNat).all (fun n => rest.length + 1 == n) := by
  simp only [recordChecks, h, beq_self_eq_true, Bool.true_and]
  cases recordLength kind.toNat <;> rfl

theorem validateCard_check {bytes : List Byte} (h : recordChecks bytes = false) : validateCard bytes = .error .cardCheck :=
  if_pos (by simp [h])

theorem byte_toNat_eq_iff {b : Byte} {n : Nat} (h : n < 256) : b.toNat = n ↔ b = BitVec.ofNat 8 n := by
  constructor
  · intro hb
    exact BitVec.eq_of_toNat_eq (by rw [hb, BitVec.toNat_ofNat, Nat.mod_eq_of_lt h])
  · rintro rfl
    rw [BitVec.toNat_ofNat, Nat.mod_eq_of_lt h]

/-- A checked record of neither kind (R70). -/
theorem validateCard_kind {kind : Byte} {rest : List Byte} (hsum : byteSum (kind :: rest) = 0) (h1 : kind ≠ 1) (h2 : kind ≠ 2) :
    validateCard (kind :: rest) = .error .cardKind := by
  have h1' : kind.toNat ≠ 1 := fun h => h1 ((byte_toNat_eq_iff (by decide)).mp h)
  have h2' : kind.toNat ≠ 2 := fun h => h2 ((byte_toNat_eq_iff (by decide)).mp h)
  have hlength : recordLength kind.toNat = none := by
    unfold recordLength
    split <;> first | contradiction | rfl
  unfold validateCard
  rw [recordChecks_of_sum hsum, hlength, if_neg (by simp), numberAt_kind]
  split
  · contradiction
  · contradiction
  · rfl

/-- A record of the layout of its kind passes the first test (R70). -/
theorem recordChecks_layout {kind : Nat} {fields : List Byte} {n : Nat} (hkind : recordLength kind = some n) (hlt : kind < 256)
    (hlength : fields.length + 2 = n) : recordChecks (withCheck (bytesOf 1 kind ++ fields)) = true := by
  have hcons : withCheck (bytesOf 1 kind ++ fields) = BitVec.ofNat 8 kind :: (fields ++ [checkByte (bytesOf 1 kind ++ fields)]) := by
    simp [withCheck, bytesOf]
  have hsum := byteSum_withCheck (bytesOf 1 kind ++ fields)
  rw [hcons] at hsum ⊢
  rw [recordChecks_of_sum hsum, BitVec.toNat_ofNat, Nat.mod_eq_of_lt hlt, hkind]
  simp
  omega

/-- A field of a record that fits reads as its number. -/
theorem numberAt_record {size value : Nat} (h : fits size value = true) (rest : List Byte) :
    numberAt (bytesOf size value ++ rest) 0 size = value := by
  have hlt : value < 256 ^ size := by simpa [fits] using h
  rw [numberAt_bytesOf_append, Nat.mod_eq_of_lt hlt]

theorem numberAt_skip_bytesOf {size offset : Nat} (h : size ≤ offset) (value : Nat) (rest : List Byte) (n : Nat) :
    numberAt (bytesOf size value ++ rest) offset n = numberAt rest (offset - size) n := by
  rw [numberAt_skip (by simpa using h), bytesOf_length]

/-- Settles O42: the sum and the length of a record decide its first test, and its fields are read back from their own bytes. -/
theorem cardRecordsAreValidatedInOrder : Obligations.CardRecordsAreValidatedInOrder := by
  refine ⟨fun bytes hsum => ?sum, rfl, fun kind rest hsum => ⟨?length, validateCard_kind hsum⟩, fun number home hn hh => ?account,
    fun serial balance cls count hs hb hc hw => ?value⟩
  case sum =>
    refine validateCard_check ?_
    cases bytes with
    | nil => rfl
    | cons kind rest => simp [recordChecks, hsum]
  case length =>
    intro h
    refine validateCard_check ?_
    rw [recordChecks_of_sum hsum]
    rcases h with ⟨rfl, h⟩ | ⟨rfl, h⟩
    · simpa [recordLength] using h
    · simpa [recordLength] using h
  case account =>
    have hchecks := recordChecks_layout (kind := 1) (fields := bytesOf 3 number ++ bytesOf 1 home) rfl (by decide) (by simp)
    rw [List.append_assoc]
    unfold validateCard
    rw [hchecks, if_neg (by simp)]
    simp [withCheck, numberAt_record, numberAt_skip_bytesOf, hn, hh, show fits 1 1 = true from rfl]
  case value =>
    have hchecks := recordChecks_layout (kind := 2)
      (fields := bytesOf 4 serial ++ bytesOf 3 balance ++ bytesOf 1 cls ++ bytesOf 2 count) rfl (by decide) (by simp)
    simp only [List.append_assoc] at hchecks ⊢
    unfold validateCard
    rw [hchecks, if_neg (by simp)]
    simp [withCheck, numberAt_record, numberAt_skip_bytesOf, hs, hb, hc, hw, show fits 1 2 = true from rfl, Config.maxHold]

end Sys2Proof.Machine
end


section
/-! Proofs about the supply, the reset pin, the load of the image and the completion of a write (R161, R166, R167, R187 to R191). -/

-- One theorem after another: many small theorems elaborated at once need more threads than the check allows.
set_option Elab.async false

namespace Sys2Proof.Machine

open Sys2Proof

/-! ### The rules that follow an event, when they have nothing to do -/

/-- In service, with every rule that follows an event already acted on, whatever work waits. -/
def Part.Calm (p : Part) : Prop :=
  p.phase = .serving ∧ ¬(p.job.state = .draining ∧ p.path.sheets.isEmpty = true) ∧
    (p.outOfFunds = true → p.job.topupOutstanding = true ∨ p.job.exhausted.isSome = true) ∧
    p.runOutHolds = p.job.runOutDue.isSome ∧ p.permit = p.permitHolds

namespace Part

theorem AtRest.calm {p : Part} (h : p.AtRest) : p.Calm := by
  obtain ⟨hs, -, -, hdrain, hfunds, hrun, hpermit, -⟩ := h
  exact ⟨hs, hdrain, hfunds, hrun, hpermit⟩

/-- Being calm rests on the phase, the job, the path, the configuration and PERMIT alone. -/
theorem Calm.same {p q : Part} (h : p.Calm)
    (hs : q.phase = p.phase ∧ q.job = p.job ∧ q.path = p.path ∧ q.config = p.config ∧ q.permit = p.permit) : q.Calm := by
  obtain ⟨hphase, hjob, hpath, hconfig, hpermit⟩ := hs
  have hfunds : q.outOfFunds = p.outOfFunds := by simp [outOfFunds, hjob, hpath]
  have hrun : q.runOutHolds = p.runOutHolds := by simp [runOutHolds, hjob, hpath]
  unfold Calm at *
  rwa [hphase, hjob, hpath, hpermit, hfunds, hrun, permitHolds_congr hphase hconfig hjob hpath]

/-- The run-out rule leaves a due time that stands as it is (R35). -/
theorem reactRunOut_same {p : Part} (h : p.runOutHolds = p.job.runOutDue.isSome) : p.reactRunOut = p := by
  unfold reactRunOut
  cases hdue : p.job.runOutDue with
  | none =>
    rw [hdue] at h
    rw [if_neg (by simp [h]), ← hdue]
  | some due =>
    rw [hdue] at h
    rw [if_pos (by simp [h])]

theorem Calm.react {p : Part} (h : p.Calm) : p.react = p := by
  obtain ⟨hs, hdrain, hfunds, hrun, hpermit⟩ := h
  have hd : p.reactDrain = p := if_neg (by simpa using hdrain)
  unfold Part.react
  rw [if_pos (by simp [Part.serving, hs]), hd, reactFunds_same hfunds, reactRunOut_same hrun]
  simp only [← hpermit]

/-- A part with nothing left to do is calm, with no work and nothing pending. -/
theorem Calm.atRest {p : Part} (h : p.Calm) (hw : p.store.work = []) (hp : p.store.pending = [])
    (hs : p.store.starting = false) : p.AtRest := by
  obtain ⟨hphase, hdrain, hfunds, hrun, hpermit⟩ := h
  exact ⟨hphase, hw, hp, hdrain, hfunds, hrun, hpermit, hs⟩

theorem journalLow_notServing {p : Part} (h : p.phase ≠ .serving) (before : Part) : p.journalLow before = p := by
  unfold journalLow
  rw [if_neg (by simp [Part.serving, h])]

theorem alert_of_decided {p : Part} (h : p.AlertDecided) : p.alert = p := by
  unfold alert
  rw [← h]

/-- A panel at its reset values drives no ALERT (R186). -/
theorem alert_new {p : Part} (hpanel : p.panel = {}) (h : p.alertOut = false) : p.alert = p := by
  have hdrives : p.panel.drives = p.alertOut := by
    rw [hpanel, h]
    decide
  unfold alert
  rw [hdrives]

/-! ### The drain (R167) -/

/-- With a post left, or the reset pin asserted, a drain waits. -/
theorem drain_waits {p : Part} (hw : p.store.work = []) (hp : p.store.pending = [])
    (h : p.store.queue ≠ [] ∨ p.resetPin = true) (load : Bool) : p.drain load = p := by
  have hposts : p.fill.drainPosts p.fill.store.work = p := by
    rw [fill_empty hp, hw]
    rfl
  unfold drain
  rw [hposts]
  refine if_neg ?_
  rcases h with hq | hpin
  · simp [isDrained, hq]
  · simp [hpin]

/-- With no post left and the reset pin released, a drain ends (R167, R190). -/
theorem drain_ends {p : Part} (hw : p.store.work = []) (hp : p.store.pending = []) (hq : p.store.queue = [])
    (hpin : p.resetPin = false) (load : Bool) : p.drain load = p.startUp load := by
  have hposts : p.fill.drainPosts p.fill.store.work = p := by
    rw [fill_empty hp, hw]
    rfl
  unfold drain
  rw [hposts]
  exact if_pos (by simp [isDrained, hq, hp, hw, hpin])

theorem command_drain {p q : Part} {f : Part → Part} {load : Bool} (hf : f p = q) (hphase : q.phase = .draining load) :
    p.command f = (((q.drain load).goOn).journalLow p).alert := by
  unfold command
  rw [hf, follow_draining hphase]

/-- A command after which the drain waits is its effect. -/
theorem command_drain_waits {p q : Part} {f : Part → Part} {load : Bool} (hf : f p = q) (hphase : q.phase = .draining load)
    (hw : q.store.work = []) (hp : q.store.pending = []) (h : q.store.queue ≠ [] ∨ q.resetPin = true) :
    p.command f = q.alert := by
  rw [command_drain hf hphase, drain_waits hw hp h, goOn_draining hphase, journalLow_notServing (by simp [hphase])]

/-- A command after which the drain ends starts the part up (R167, R190, R191). -/
theorem command_drain_ends {p q : Part} {f : Part → Part} {load : Bool} (hf : f p = q) (hphase : q.phase = .draining load)
    (hw : q.store.work = []) (hp : q.store.pending = []) (hq : q.store.queue = []) (hpin : q.resetPin = false) :
    p.command f = (((q.startUp load).goOn).journalLow p).alert := by
  rw [command_drain hf hphase, drain_ends hw hp hq hpin]

/-- Start-up with the load leaves every volatile state at its reset value (R190). -/
theorem startUp_load (p before : Part) :
    (((p.startUp true).goOn).journalLow before).alert =
      { phase := .loading, resetPin := p.resetPin, config := p.config, store := { stored := p.store.stored }
        outputs := p.outputs } := by
  have hgoOn : (p.startUp true).goOn = p.startUp true := rfl
  rw [hgoOn, journalLow_notServing (by simp [startUp, resetValues]), alert_new rfl rfl]
  rfl

/-- Start-up without the load recovers or serves, from the time 0, with the stored records and the configuration (R190). -/
theorem startUp_recovery (p before : Part) :
    let q := (((p.startUp false).goOn).journalLow before).alert
    q.resetPin = p.resetPin ∧ q.now = 0 ∧ q.path = {} ∧ q.config = p.config ∧ q.store.stored = p.store.stored ∧
      (q.phase = .recovering ∨ q.phase = .serving) := by
  obtain ⟨hpin, hnow, hconfig, hpath, hstored, -, -⟩ := (p.startUp false).goOn_sameBase
  have hphase := (p.startUp false).goes_goOn.phase
  have hlast (q : Part) : let r := (q.journalLow before).alert
      r.resetPin = q.resetPin ∧ r.now = q.now ∧ r.path = q.path ∧ r.config = q.config ∧ r.store.stored = q.store.stored ∧
        r.phase = q.phase := by
    unfold journalLow
    split <;> exact ⟨rfl, rfl, rfl, rfl, rfl, rfl⟩
  obtain ⟨h1, h2, h3, h4, h5, h6⟩ := hlast (p.startUp false).goOn
  exact ⟨h1.trans hpin, h2.trans hnow, h3.trans hpath, h4.trans hconfig, h5.trans hstored,
    hphase.imp (fun h => h6.trans h) fun h => h6.trans h⟩

end Part

/-- Settles O15: the drain of a new part with the pin asserted waits, and nothing follows a loss of supply. -/
theorem supplyKeepsTheStoredRecords : Obligations.SupplyKeepsTheStoredRecords := by
  refine ⟨fun s hoff => ?on, fun s programmed hon => ?loss⟩
  case on =>
    rw [exec_eq, Instr.result_event rfl]
    cases hpin : s.part.resetPin with
    | true =>
      have heffect : s.part.powerOn = s.part.resetValues (.draining true) := by simp [Part.powerOn, hoff, hpin]
      rw [Part.command_drain_waits (load := true) (f := Instr.effect .powerOn) heffect rfl rfl rfl (.inr hpin),
        Part.alert_new rfl rfl]
      simp [Part.resetValues, hpin]
    | false =>
      have heffect : s.part.powerOn = s.part.startUp true := by simp [Part.powerOn, hoff, hpin]
      have hcommand : s.part.command (Instr.effect .powerOn) = (((s.part.startUp true).goOn).journalLow s.part).alert := by
        unfold Part.command
        rw [show Instr.effect .powerOn s.part = s.part.startUp true from heffect]
        rfl
      rw [hcommand, Part.startUp_load, hpin]
      rfl
  case loss =>
    rw [exec_eq, Instr.result_event rfl]
    have heffect : Instr.effect (.powerLoss programmed) s.part = s.part.losePower programmed := if_neg hon
    unfold Part.command
    rw [heffect, show (s.part.losePower programmed).follow s.part = s.part.losePower programmed from rfl,
      Part.journalLow_notServing (by simp [Part.losePower, Part.resetValues]), Part.alert_new rfl rfl]
    rfl

/-- Settles O16. -/
theorem writeCompleteStoresTheOldestPost : Obligations.WriteCompleteStoresTheOldestPost := by
  intro s post rest hq
  refine ⟨⟨_, exec_eq _ _, ?_⟩, fun h hnotes => ?_⟩
  · rw [Instr.result_event rfl]
    exact (Part.command_sameKept _ _).2.2.trans (Part.writeComplete_stored hq)
  · have hcalm := h.calm
    obtain ⟨hs, hwork, hpending, -, -, -, -, hstarting⟩ := h
    have hprogrammed : (s.part.programOldest post rest).AtRest :=
      (hcalm.same (q := s.part.programOldest post rest) ⟨rfl, rfl, rfl, rfl, rfl⟩).atRest hwork hpending hstarting
    have heffect : s.part.writeComplete = s.part.programOldest post rest := by
      rw [Part.writeComplete_serving hs hq, hnotes, List.foldl_nil]
      have hstarted : ((s.part.programOldest post rest).setStarting (!rest.isEmpty)).Calm :=
        hcalm.same ⟨rfl, rfl, rfl, rfl, rfl⟩
      have hserving : ((s.part.programOldest post rest).setStarting (!rest.isEmpty)).phase = .serving := hs
      have hpump : ((s.part.programOldest post rest).setStarting (!rest.isEmpty)).pump pumpFuel =
          (s.part.programOldest post rest).setStarting (!rest.isEmpty) :=
        Part.pump_rest (p := (s.part.programOldest post rest).setStarting (!rest.isEmpty)) hwork hpending _
      have hfollow : ((s.part.programOldest post rest).setStarting (!rest.isEmpty)).follow s.part =
          (s.part.programOldest post rest).setStarting (!rest.isEmpty) := by
        unfold Part.follow
        rw [hserving]
        simp only
        rw [Part.reactIdle_path (by rfl), hstarted.react, Part.goOn_serving hserving, hpump]
      rw [hpump, hfollow]
      simp only [Part.setStarting, Part.programOldest, ← hstarting]
    have hledger : (s.part.programOldest post rest).ledger = s.part.ledger := Store.newest_programmed hq
    have hfree : (s.part.programOldest post rest).freeSlots = s.part.freeSlots := by
      unfold Part.freeSlots
      rw [hledger]
      rfl
    rw [exec_eq, Instr.result_event rfl, Part.command_rest (f := Instr.effect .writeComplete) heffect hprogrammed (Part.reactIdle_path rfl),
      Part.journalLow_same hfree]
    rfl

/-! ### The reset pin (R158, R167, R191) -/

/-- An event that only a part in service takes changes nothing while a drain waits. -/
theorem drain_ignores {p : Part} {load : Bool} (hphase : p.phase = .draining load) (hw : p.store.work = [])
    (hp : p.store.pending = []) (hq : p.store.queue ≠ []) (ha : p.AlertDecided) {f : Part → Part} (hf : f p = p) :
    p.command f = p := by
  rw [Part.command_drain_waits hf hphase hw hp (.inl hq), Part.alert_of_decided ha]

theorem inService_draining {p : Part} {load : Bool} (h : p.phase = .draining load) (f : Part → Part) : inService f p = p :=
  if_neg (by simp [Part.serving, h])

theorem Store.of_noWork {s : Store} (h : s.work = []) :
    ({ stored := s.stored, queue := s.queue, pending := s.pending, starting := s.starting } : Store) = s := by
  cases s
  simp_all

/-- The part in service whose reset pin has been asserted (R158, R186, R191). -/
def Part.resetBegun (p : Part) : Part :=
  { p with
    phase := .draining false, resetPin := true
    line := { p.line with answered := false }
    panel := { p.panel with flags := 0, reject := none, resetWaits := false } }

/-- Settles O18: what the drain does is decided by the posts that are left and by the pin. -/
theorem resetPinDrainsThenStartsUp : Obligations.ResetPinDrainsThenStartsUp := by
  refine ⟨fun s hs hw hp => ?assert, fun s load hphase hq hp hw => ?release,
    fun s load post hphase hq hp hw => ⟨fun hpin => ?pinned, fun hpin hload => ?load, fun hpin hload => ?recovery, fun bytes => ?line,
      fun a b c d n m answered record event hevent halert => ?ignored⟩⟩
  case assert =>
    have hbegin {p : Part} (hphase : ∃ load, p.phase = .draining load) (hpin : p.resetPin = true) : p.assertReset = p := by
      obtain ⟨load, hphase⟩ := hphase
      unfold Part.assertReset
      simp only [hphase]
      rw [← hpin, ← hphase]
    have hfirst : exec .resetPinAssert s = .next { s with part := s.part.resetBegun.alert } := by
      rw [exec_eq, Instr.result_event rfl]
      have heffect : s.part.assertReset = s.part.resetBegun := by
        simp [Part.assertReset, hs, Part.beginSoftReset, Phase.loads, hw, Part.resetBegun, Store.of_noWork hw]
      exact congrArg (fun q => Host.Outcome.next { s with part := q })
        (Part.command_drain_waits (f := Instr.effect .resetPinAssert) heffect rfl hw hp (.inr rfl))
    have halert : ({ s.part.panel with flags := 0, reject := none, resetWaits := false } : Panel).drives = false := by
      simp [Panel.drives]
    refine ⟨hfirst.trans ?_, fun t ht => ?_⟩
    · simp only [Part.alert, Part.resetBegun, halert]
    · rw [hfirst] at ht
      cases ht
      rw [exec_eq, Instr.result_event rfl,
        Part.command_drain_waits (p := s.part.resetBegun.alert) (load := false) (f := Instr.effect .resetPinAssert)
          (hbegin (p := s.part.resetBegun.alert) ⟨false, rfl⟩ rfl) rfl hw hp (.inr rfl)]
      rfl
  case release =>
    have hcommand : exec .resetPinRelease s =
        .next { s with
          part := ((((({ s.part with resetPin := false } : Part)).startUp load).goOn).journalLow s.part).alert } := by
      rw [exec_eq, Instr.result_event rfl]
      exact congrArg (fun q => Host.Outcome.next { s with part := q })
        (Part.command_drain_ends (f := Instr.effect .resetPinRelease) rfl hphase hw hp hq rfl)
    rw [hcommand]
    refine ⟨fun hload => ?_, fun hload => ⟨_, rfl, ?_⟩⟩
    · rw [hload, Part.startUp_load]
    · rw [hload]
      exact Part.startUp_recovery _ _
  case ignored =>
    have hqueue : s.part.store.queue ≠ [] := by simp [hq]
    have hserving : s.part.serving = false := by simp [Part.serving, hphase]
    have hignored {c : Instr} (he : Instr.effect c s.part = s.part) : exec c s = .next s := by
      rw [exec_eq]
      cases hb : Instr.isBare c with
      | true => rw [Instr.result_bare hb, he]
      | false => rw [Instr.result_event hb, drain_ignores hphase hw hp hqueue halert he]
    refine hignored ?_
    simp only [List.mem_cons, List.not_mem_nil, or_false] at hevent
    rcases hevent with rfl | rfl | rfl | rfl | rfl | rfl | rfl | rfl | rfl | rfl | rfl | rfl | rfl | rfl | rfl | rfl | rfl |
      rfl | rfl | rfl | rfl | rfl | rfl | rfl | rfl | rfl | rfl | rfl | rfl | rfl | rfl | rfl | rfl | rfl | rfl | rfl | rfl |
      rfl | rfl | rfl | rfl <;> first
      | rfl
      | (dsimp only [Instr.effect]; exact inService_draining hphase _)
  case line =>
    have heffect : Instr.effect (.frameReceived bytes) s.part = s.part.frameUnanswered :=
      if_neg (by simp [Part.serving, hphase])
    rw [exec_eq, Instr.result_event rfl,
      Part.command_drain_waits (q := s.part.frameUnanswered) heffect hphase hw hp (.inl (by show s.part.store.queue ≠ []; simp [hq]))]
    rfl
  all_goals
    have heffect : s.part.writeComplete = s.part.programOldest post [] := by
      simp [Part.writeComplete, hq, Part.programOldest, hphase]
    rw [exec_eq, Instr.result_event rfl]
  case pinned =>
    rw [Part.command_drain_waits (f := Instr.effect .writeComplete) (q := s.part.programOldest post []) heffect hphase hw hp (.inr hpin)]
    rfl
  case load =>
    rw [Part.command_drain_ends (f := Instr.effect .writeComplete) (q := s.part.programOldest post []) heffect hphase hw hp rfl hpin, hload, Part.startUp_load]
    have hreleased : (s.part.programOldest post []).resetPin = false := hpin
    rw [hreleased]
    rfl
  case recovery =>
    rw [Part.command_drain_ends (f := Instr.effect .writeComplete) (q := s.part.programOldest post []) heffect hphase hw hp rfl hpin, hload]
    obtain ⟨h1, h2⟩ := Part.startUp_recovery (s.part.programOldest post []) s.part
    exact ⟨_, rfl, h1.trans hpin, h2⟩

/-! ### The load of the image (R187, R188) -/

theorem imageWord_le (image : List Word16) (i : Nat) : imageWord image i ≤ 65535 :=
  Nat.le_of_lt_succ (image.getD i 0).isLt

theorem clampTo_bounds {low high : Nat} (h : low ≤ high) (value : Nat) :
    low ≤ clampTo low high value ∧ clampTo low high value ≤ high := by
  unfold clampTo
  omega

/-- BAD is the outcome of a failed sum or of a station number that does not serve (R188). -/
theorem configOutcome_bad_iff (image : List Word16) :
    configOutcome image = .bad ↔ imageSum image ≠ 0 ∨ imageWord image 0 = 0 ∨ 31 ≤ imageWord image 0 := by
  have hstation : servableStation (imageWord image 0) = false ↔ imageWord image 0 = 0 ∨ 31 ≤ imageWord image 0 := by
    simp only [servableStation, Bool.and_eq_false_iff, decide_eq_false_iff_not]
    omega
  unfold configOutcome
  split_ifs with h hclamped
  · simp only [Bool.or_eq_true, bne_iff_ne, Bool.not_eq_true', hstation] at h
    simpa using h
  all_goals
    simp only [Bool.or_eq_true, bne_iff_ne, Bool.not_eq_true', hstation] at h
    simpa using h

theorem configOutcome_clamped_iff (image : List Word16) :
    configOutcome image = .clamped ↔ configOutcome image ≠ .bad ∧ 0 < clampedCount image := by
  unfold configOutcome
  split_ifs with h hclamped
  · simp
  · simp [hclamped]
  · simp [Nat.pos_of_ne_zero hclamped]

/-- The clamps leave every value in its range (R2, R3, R46, R81, R97). -/
theorem clampValues_inRange (image : List Word16) :
    let v := clampValues image
    v.b1 = max 1 (imageWord image 18) ∧ v.b2 = max v.b1 (max 1 (imageWord image 19)) ∧ v.t2 = min 100 (imageWord image 20) ∧
      v.t3 = min v.t2 (min 100 (imageWord image 21)) := by
  have h18 := imageWord_le image 18
  have h19 := imageWord_le image 19
  simp only [clampValues, clampB1, clampB2, clampT3, clampTo]
  omega

/-- Settles O19: the load keeps what the loader makes of the image, and what follows it keeps the configuration. -/
theorem loadKeepsTheClampedImage : Obligations.LoadKeepsTheClampedImage := by
  refine ⟨fun s image hload => ?_, fun image => ?_⟩
  · refine ⟨_, exec_eq _ _, ?_⟩
    have heffect : Instr.effect (.configLoadDone image) s.part = ({ s.part with config := loadImage image } : Part).beginRecovery :=
      if_pos hload
    have hphase : ∀ load, (Instr.effect (.configLoadDone image) s.part).phase ≠ .draining load := by
      rw [heffect]
      simp [Part.beginRecovery]
    obtain ⟨-, hconfig, hstored⟩ := s.part.command_sameKept (Instr.effect (.configLoadDone image))
    obtain ⟨hpath, hnow⟩ := Part.command_path hphase
    have hgoes := (Part.goes_follow s.part hphase).phase
    have hlast : (s.part.command (Instr.effect (.configLoadDone image))).phase =
        ((Instr.effect (.configLoadDone image) s.part).follow s.part).phase := by simp [Part.command]
    rw [heffect] at hconfig hstored hpath hnow hgoes hlast
    have hkept : (({ s.part with config := loadImage image } : Part).beginRecovery).config = loadImage image := rfl
    rw [hkept] at hconfig
    rw [Instr.result_event rfl]
    rw [hconfig]
    refine ⟨rfl, rfl, rfl, configOutcome_bad_iff image, configOutcome_clamped_iff image, hstored, hpath, hnow, ?_⟩
    rw [hlast]
    exact hgoes
  · obtain ⟨hb1, hb2, ht2, ht3⟩ := clampValues_inRange image
    have hbase (i : Nat) := (clampTo_bounds (low := 0) (high := 9999) (by decide) (imageWord image i)).2
    have hdisc (i : Nat) := (clampTo_bounds (low := 0) (high := 50) (by decide) (imageWord image i)).2
    have hdwell (i : Nat) := clampTo_bounds (low := 100) (high := 10000) (by decide) (imageWord image i)
    have hwindow (i : Nat) := clampTo_bounds (low := 50) (high := 5000) (by decide) (imageWord image i)
    refine ⟨hb1, hb2, ht2, ht3, by simp [clampValues], ?_, ?_⟩
    · simpa [clampValues] using fun i _ => hbase (1 + i)
    · simp only [clampValues, clampHoldStep, List.length_map, List.length_range, List.mem_map, forall_exists_index, and_imp,
        forall_apply_eq_imp_iff₂, List.mem_cons, List.not_mem_nil, or_false, forall_eq_or_imp, forall_eq]
      refine ⟨(clampTo_bounds (by decide) _).2, trivial, fun i _ => hdisc _, (clampTo_bounds (by decide) _).2, ?_⟩
      have hgrant := clampTo_bounds (low := 10) (high := 1000) (by decide) (imageWord image 27)
      have hstep := clampTo_bounds (low := 100) (high := 20000) (by decide) (imageWord image 28)
      have hidle := clampTo_bounds (low := 15) (high := 600) (by decide) (imageWord image 31)
      have hlife := clampTo_bounds (low := 60) (high := 900) (by decide) (imageWord image 29)
      have hgrace := clampTo_bounds (low := 1) (high := 72) (by decide) (imageWord image 30)
      have hlimit := clampTo_bounds (low := 0) (high := 5000) (by decide) (imageWord image 32)
      have hpool := clampTo_bounds (low := 0) (high := 50000) (by decide) (imageWord image 33)
      refine ⟨hgrant.1, hgrant.2, by omega, by omega, by omega, hidle.1, hidle.2, hlife.1, hlife.2, hgrace.1, hgrace.2, hlimit.2,
        hpool.2, ⟨hwindow _, hwindow _, hwindow _⟩, trivial, fun i _ => hdwell _⟩

end Sys2Proof.Machine
end


section
/-! Proofs about the panel port: the reading requests, the tests of R182, and the requests about alerts (R182 to R186). -/

-- One theorem after another: many small theorems elaborated at once need more threads than the check allows.
set_option Elab.async false

namespace Sys2Proof.Machine

open Sys2Proof

/-! ### The reading requests (R182, R183) -/

/-- In service, with no response unread, a request that every station answers is answered by its own decision. -/
theorem Part.request_allowed {p : Part} (hs : p.phase = .serving) (hr : p.panel.response = none) (code : Nat)
    (decision : Part → Answer) :
    p.request code true decision = (decision p).part.answering code (decision p).result (decision p).body := by
  have hon : p.phase ≠ .off := by simp [hs]
  have hturned : p.turnedAway true = none := by simp [Part.turnedAway, Part.serving, hs]
  unfold Part.request Part.requestWith
  rw [if_neg hon, hr, hturned]
  rfl

theorem reading_allowed {s : State} (hs : s.part.phase = .serving) (hr : s.part.panel.response = none) (code : Nat)
    (decision : Part → Answer) :
    reading s code decision =
      .next { s with part := (decision s.part).part.answering code (decision s.part).result (decision s.part).body } := by
  unfold reading
  rw [Part.request_allowed hs hr]

@[simp] theorem optionField_length (size : Nat) (value : Option Nat) : (optionField size value).length = size :=
  field_length _ _

@[simp] theorem signedField_length (size : Nat) (value : Int) : (signedField size value).length = size := bytesOf_length _ _

theorem Part.statusBody_length {p : Part} (hs : p.phase = .serving) : p.statusBody.length = 86 := by
  simp [Part.statusBody, Part.serving, hs, Part.statusFront, Part.statusHome, Part.statusLine, Part.statusStore]

theorem Job.snapshot_length (j : Job) : j.snapshot.length = 64 := by
  unfold Job.snapshot
  split
  · exact List.length_replicate
  · simp

theorem length_flatMap_of_const {α : Type} {f : α → List Byte} {n : Nat} (h : ∀ x, (f x).length = n) (l : List α) :
    (l.flatMap f).length = n * l.length := by
  induction l with
  | nil => rfl
  | cons x l ih =>
    rw [List.flatMap_cons, List.length_append, h, ih, List.length_cons]
    ring

theorem Part.heardBody_length (p : Part) : p.heardBody.length = 64 := by
  unfold Part.heardBody
  rw [List.length_append, length_flatMap_of_const (n := 2) fun i => optionField_length 2 _]
  simp

theorem Panel.alertBody_length (panel : Panel) : panel.alertBody.length = 6 := by simp [Panel.alertBody]

theorem Part.jamLogBody_length (p : Part) : p.jamLogBody.length = 1 + 18 * p.path.log.length := by
  unfold Part.jamLogBody
  rw [List.length_append, field_length, length_flatMap_of_const (n := 18) fun e => by simp [JamEntry.bytes]]

theorem Part.holdBody_length (p : Part) (index : Nat) : (p.holdBody index).length = 18 := by
  unfold Part.holdBody
  split <;> simp

theorem Part.flightBytes_length (p : Part) (e : DeferredEntry) : (p.flightBytes e).length = 5 := by
  unfold Part.flightBytes
  split <;> simp

theorem Part.deferredBody_length (p : Part) (index : Nat) : (p.deferredBody index).length = 27 := by
  unfold Part.deferredBody
  split
  · simp
  · simp [Part.flightBytes_length]

/-- Settles O24: each reading request is answered by its own decision, which leaves the part as it is. -/
theorem readsAnswerFromTheNewestValues : Obligations.ReadsAnswerFromTheNewestValues := by
  refine ⟨fun s hs hr => ?plain, fun s n hs hr => ?indexed⟩
  case plain =>
    have reads (code : Nat) (decision : Part → Answer) := reading_allowed hs hr code decision
    have hstatus : s.part.statusRequest = s.part.answering 1 .ok s.part.statusBody := by
      unfold Part.statusRequest
      rw [if_neg (by simp [hs]), hr]
      rfl
    refine ⟨?_, reads 6 _, fun first => reads 8 _, reads 11 _, reads 15 _, reads 16 _, fun code => reads code _,
      s.part.statusBody_length hs, s.part.job.snapshot_length, s.part.heardBody_length, s.part.panel.alertBody_length,
      s.part.jamLogBody_length⟩
    simp only [exec, execStatus, hstatus]
  case indexed =>
    have reads (code : Nat) (decision : Part → Answer) := reading_allowed hs hr code decision
    refine ⟨(reads 10 _).trans ?_, (reads 12 _).trans ?_, (reads 13 _).trans ?_, (reads 14 _).trans ?_,
      s.part.holdBody_length n, s.part.deferredBody_length n⟩
    · unfold Part.meterRequest
      by_cases hn : n ≤ 25
      · rw [if_pos hn, if_neg (by omega)]
        rfl
      · rw [if_neg hn, if_pos (by omega)]
        rfl
    · unfold Part.accountRequest
      by_cases hn : n = 0
      · simp only [hn, if_true]
        rfl
      · simp only [hn, if_false]
        cases findAccount s.part.ledger n <;> rfl
    · unfold Part.holdRequest
      by_cases hn : n ≤ 63
      · rw [if_pos hn, if_neg (by omega)]
        rfl
      · rw [if_neg hn, if_pos (by omega)]
        rfl
    · unfold Part.deferredRequest
      by_cases hn : n ≤ 15
      · rw [if_pos hn, if_neg (by omega)]
        rfl
      · rw [if_neg hn, if_pos (by omega)]
        rfl

/-! ### The tests of R182 -/

/-- A request is a write transaction under its code. A refusal of it changes nothing with no open job, and an OUT_OF_SERVICE station
turns away those of the listed codes (R182, R189). -/
theorem Instr.effect_request {c : Instr} {code : Nat} (h : requestCode c = some code) (hstatus : c ≠ .status) :
    ∃ (allowed : Bool) (refused : Part → Part) (decision : Part → Answer),
      (∀ p, Instr.effect c p = p.requestWith code allowed refused decision) ∧
        (∀ p : Part, p.job.state = .idle → refused p = p) ∧
        ((∀ k, c ≠ .panelRequestUnknown k) → code ∈ refusedOutOfService → allowed = false) := by
  have plain (allowed : Bool) (decision : Part → Answer) (ha : (∀ k, c ≠ .panelRequestUnknown k) →
      code ∈ refusedOutOfService → allowed = false) (he : ∀ p, Instr.effect c p = p.request code allowed decision) :
      ∃ (allowed : Bool) (refused : Part → Part) (decision : Part → Answer),
        (∀ p, Instr.effect c p = p.requestWith code allowed refused decision) ∧
          (∀ p : Part, p.job.state = .idle → refused p = p) ∧
          ((∀ k, c ≠ .panelRequestUnknown k) → code ∈ refusedOutOfService → allowed = false) :=
    ⟨allowed, id, decision, he, fun _ _ => rfl, ha⟩
  cases c <;> cases h
  case status => exact absurd rfl hstatus
  case panelRequestUnknown => exact plain true _ (fun hne => absurd rfl (hne code)) fun _ => rfl
  case start media colour sides originals copies collated =>
    exact ⟨false, Part.touchOpen, _, fun _ => rfl, fun p hidle => if_pos hidle, fun _ _ => rfl⟩
  case resume => exact plain false _ (fun _ _ => rfl) fun _ => rfl
  case endJob => exact plain false _ (fun _ _ => rfl) fun _ => rfl
  case cancel => exact plain false _ (fun _ _ => rfl) fun _ => rfl
  case quote => exact plain false _ (fun _ _ => rfl) fun _ => rfl
  case journalRelease => exact plain false _ (fun _ _ => rfl) fun _ => rfl
  case resetStation => exact plain false _ (fun _ _ => rfl) fun _ => rfl
  all_goals exact plain true _ (fun _ hmem => absurd hmem (by decide)) fun _ => rfl

namespace Part

theorem requestWith_full {p : Part} (hon : p.phase ≠ .off) {waiting : Response} (hr : p.panel.response = some waiting)
    (code : Nat) (allowed : Bool) (refused : Part → Part) (decision : Part → Answer) :
    p.requestWith code allowed refused decision =
      p.answering waiting.code .full (field 1 waiting.code ++ field 1 code) := by
  unfold requestWith
  rw [if_neg hon, hr]
  rfl

theorem requestWith_turnedAway {p : Part} (hon : p.phase ≠ .off) (hr : p.panel.response = none) {allowed : Bool}
    {result : PanelResult} (hturned : p.turnedAway allowed = some result) (code : Nat) (refused : Part → Part)
    (decision : Part → Answer) :
    p.requestWith code allowed refused decision = (refused p).answering code result [] := by
  unfold requestWith
  rw [if_neg hon, hr, hturned]
  rfl

theorem alert_answering {p : Part} (h : p.AlertDecided) (code : Nat) (result : PanelResult) (body : List Byte) :
    (p.answering code result body).alert = p.answering code result body :=
  alert_of_decided h

/-- While the image is being loaded nothing follows an effect but the decision of ALERT. -/
theorem command_loading {p q : Part} {f : Part → Part} (hf : f p = q) (hphase : q.phase = .loading) :
    p.command f = q.alert := by
  have hfollow : q.follow p = q := by
    unfold follow goOn
    rw [hphase]
  unfold command
  rw [hf, hfollow, journalLow_notServing (by simp [hphase])]

end Part

/-- A request that is answered, and changes nothing else, leaves nothing to follow. -/
theorem Instr.result_answering {c : Instr} {p : Part} {code : Nat} {result : PanelResult} {body : List Byte}
    (hphase : p.phase = .loading ∨ p.AtRest) (ha : p.AlertDecided)
    (he : Instr.effect c p = p.answering code result body) : Instr.result c p = p.answering code result body := by
  cases hbare : Instr.isBare c with
  | true => rw [Instr.result_bare hbare, he]
  | false =>
    rw [Instr.result_event hbare]
    rcases hphase with hloading | hrest
    · rw [Part.command_loading he hloading, Part.alert_answering ha]
    · have hsame : (p.answering code result body).AtRest := hrest.same ⟨rfl, rfl, rfl, rfl, rfl, rfl, rfl, rfl⟩
      have hfree : (p.answering code result body).freeSlots = p.freeSlots := Part.freeSlots_congr ⟨rfl, rfl, rfl, rfl⟩
      rw [Part.command_rest he hsame (Part.reactIdle_path rfl), Part.journalLow_same hfree, Part.alert_answering ha]

/-- Settles O25: each refusal is one branch of the write transaction, and nothing follows it. -/
theorem requestsAreRefusedOrReplacedByFull : Obligations.RequestsAreRefusedOrReplacedByFull := by
  refine ⟨fun s c code hphase hjob hr ha hcode => ?loading, fun s c code hrest ha ho hjob hr hcode hknown hlisted => ?bad,
    fun s c code waiting hrest ha hr hcode => ?full⟩
  case loading =>
    rw [exec_eq]
    by_cases hstatus : c = .status
    · subst hstatus
      have hbody : s.part.statusBody = [0] := by simp [Part.statusBody, Part.serving, hphase, field, bytesOf]
      have heffect : Instr.effect .status s.part = s.part.answering 1 .ok [0] := by
        unfold Instr.effect
        dsimp only
        unfold Part.statusRequest
        rw [if_neg (by simp [hphase]), hr, hbody]
        rfl
      rw [if_pos rfl, Instr.result_answering (.inl hphase) ha heffect]
    · obtain ⟨allowed, refused, decision, heffect, hrefused, -⟩ := Instr.effect_request hcode hstatus
      have hturned : s.part.turnedAway allowed = some .busy := by simp [Part.turnedAway, Part.serving, hphase]
      have heffect' : Instr.effect c s.part = s.part.answering code .busy [] := by
        rw [heffect, Part.requestWith_turnedAway (by simp [hphase]) hr hturned, hrefused _ (by rw [hjob])]
      rw [if_neg hstatus, Instr.result_answering (.inl hphase) ha heffect']
  case bad =>
    obtain ⟨hs, -⟩ := id hrest
    have hstatus : c ≠ .status := by
      rintro rfl
      cases hcode
      exact absurd hlisted (by decide)
    obtain ⟨allowed, refused, decision, heffect, hrefused, hallowed⟩ := Instr.effect_request hcode hstatus
    have hturned : s.part.turnedAway allowed = some .outOfService := by
      simp [Part.turnedAway, Part.serving, Part.outOfService, hs, ho, hallowed hknown hlisted]
    have heffect' : Instr.effect c s.part = s.part.answering code .outOfService [] := by
      rw [heffect, Part.requestWith_turnedAway (by simp [hs]) hr hturned, hrefused _ (by rw [hjob])]
    rw [exec_eq, Instr.result_answering (.inr hrest) ha heffect']
  case full =>
    obtain ⟨hs, -⟩ := id hrest
    have hon : s.part.phase ≠ .off := by simp [hs]
    have heffect :
        Instr.effect c s.part = s.part.answering waiting.code .full (field 1 waiting.code ++ field 1 code) := by
      by_cases hstatus : c = .status
      · subst hstatus
        cases hcode
        unfold Instr.effect
        dsimp only
        unfold Part.statusRequest
        rw [if_neg hon, hr]
        rfl
      · obtain ⟨allowed, refused, decision, heffect, -, -⟩ := Instr.effect_request hcode hstatus
        rw [heffect, Part.requestWith_full hon hr]
    rw [exec_eq, Instr.result_answering (.inr hrest) ha heffect]

/-! ### The requests about alerts (R185, R186) -/

/-- A request that every station answers, and whose effect leaves the part at rest, is its own decision. -/
theorem event_request {s : State} (h : s.part.AtRest) {code : Nat} {decision : Part → Answer} {q : Part} {result : PanelResult}
    {body : List Byte} (hr : s.part.panel.response = none) (hd : decision s.part = ⟨q, result, body⟩)
    (hs : q.phase = s.part.phase ∧ q.job = s.part.job ∧ q.path = s.part.path ∧ q.config = s.part.config ∧
      q.permit = s.part.permit ∧ q.store = s.part.store ∧ q.journal = s.part.journal) :
    event s (fun p => p.request code true decision) = .next { s with part := (q.answering code result body).alert } := by
  obtain ⟨hphase, hjob, hpath, hconfig, hpermit, hstore, hjournal⟩ := hs
  have heffect : s.part.request code true decision = q.answering code result body := by
    rw [Part.request_allowed h.1 hr, hd]
  exact event_rest h heffect
    ⟨hphase, hjob, hpath, hconfig, hpermit, congrArg Store.work hstore, congrArg Store.pending hstore,
      congrArg Store.starting hstore⟩
    (Part.freeSlots_congr ⟨congrArg Store.stored hstore, congrArg Store.queue hstore, congrArg Store.pending hstore, hjournal⟩)

/-- The mask of CARD_REJECT picks bit 2 (section 11.2). -/
theorem cardReject_mask (flags : Byte) : (flags &&& Alert.cardReject.mask != 0) = flags.getLsbD 2 := by
  have hmask : Alert.cardReject.mask = BitVec.twoPow 8 2 := rfl
  rw [hmask, BitVec.and_twoPow]
  cases flags.getLsbD 2 <;> rfl

theorem Part.ackRequest_eq (p : Part) (flags : Byte) :
    p.ackRequest flags =
      ⟨{ p with
          panel :=
            { p.panel with
              flags := p.panel.flags &&& ~~~flags
              reject := if flags.getLsbD 2 then none else p.panel.reject } },
        .ok, [p.panel.flags &&& ~~~flags]⟩ := by
  unfold Part.ackRequest Panel.acknowledge
  rw [cardReject_mask]
  rfl

/-- Settles O27: each request moves panel fields alone, and ALERT is decided after it. -/
theorem alertRequestsSetFlagsAndEnables : Obligations.AlertRequestsSetFlagsAndEnables := by
  intro s flags h hr
  refine ⟨?ack, fun master hm => ?enable, fun master hm => ?range⟩
  case ack => exact event_request h hr (s.part.ackRequest_eq flags) ⟨rfl, rfl, rfl, rfl, rfl, rfl, rfl⟩
  case enable =>
    obtain rfl | rfl : master = 0 ∨ master = 1 := by omega
    · exact event_request h hr (q := { s.part with panel := s.part.panel.enable flags false }) rfl
        ⟨rfl, rfl, rfl, rfl, rfl, rfl, rfl⟩
    · exact event_request h hr (q := { s.part with panel := s.part.panel.enable flags true }) rfl
        ⟨rfl, rfl, rfl, rfl, rfl, rfl, rfl⟩
  case range =>
    have hrange : s.part.enableRequest flags master = ⟨s.part, .range, []⟩ := by
      obtain ⟨n, rfl⟩ : ∃ n, master = n + 2 := ⟨master - 2, by omega⟩
      rfl
    exact event_request h hr hrange ⟨rfl, rfl, rfl, rfl, rfl, rfl, rfl⟩

end Sys2Proof.Machine
end


section
/-! Proofs about the panel requests of the job controller: START, END and CANCEL (R26, R28, R34). -/

-- One theorem after another: many small theorems elaborated at once need more threads than the check allows.
set_option Elab.async false

namespace Sys2Proof.Machine

open Sys2Proof

/-! ### The rules that follow an event, by the state of the job -/

namespace Part

/-- A job that is not RUNNING, and has no drain to end, has no run-out wait and no PERMIT (R30, R35, R36). -/
theorem react_notRunning {p : Part} (hs : p.phase = .serving) (hrun : p.job.state ≠ .running)
    (hdrain : p.job.state = .draining → p.path.sheets ≠ []) :
    p.react = { p with job := { p.job with runOutDue := none }, permit := false } := by
  have hd : p.reactDrain = p := if_neg (by simpa using hdrain)
  have hf : p.reactFunds = p := reactFunds_same fun hout => absurd hout (by simp [outOfFunds, hrun])
  have hr : p.reactRunOut = { p with job := { p.job with runOutDue := none } } := if_neg (by simp [runOutHolds, hrun])
  have hp : ({ p with job := { p.job with runOutDue := none } } : Part).permitHolds = false := by simp [permitHolds, hrun]
  unfold react
  rw [if_pos (by simp [Part.serving, hs]), hd, hf, hr]
  simp only [hp]

/-- A RUNNING job that is funded for its next sheet, or has asked for more, or has its funds exhausted, asks for nothing (R31). -/
theorem react_funded {p : Part} (hs : p.phase = .serving) (hrun : p.job.state = .running)
    (hfunds : p.outOfFunds = true → p.job.topupOutstanding = true ∨ p.job.exhausted.isSome = true) :
    p.react =
      { p with
        job :=
          { p.job with
            runOutDue := if p.runOutHolds then some (p.job.runOutDue.getD (p.now + p.config.values.w1)) else none }
        permit := p.permitHolds } := by
  rw [react_running hs hrun, reactFunds_same hfunds, reactRunOut_eq]

/-- Only a RUNNING job has a run-out wait (R35). -/
theorem AtRest.runOutDue {p : Part} (h : p.AtRest) (hrun : p.job.state ≠ .running) : p.job.runOutDue = none := by
  obtain ⟨-, -, -, -, -, hdue, -⟩ := h
  simpa [runOutHolds, hrun] using hdue

/-- Only a RUNNING job has PERMIT (R30). -/
theorem AtRest.released {p : Part} (h : p.AtRest) (hrun : p.job.state ≠ .running) : p.permit = false := by
  obtain ⟨-, -, -, -, -, -, hpermit, -⟩ := h
  simpa [permitHolds, hrun] using hpermit

/-- The activity time decides nothing but the idle timeout. -/
theorem AtRest.touch {p : Part} (h : p.AtRest) : p.touchActivity.AtRest := h

/-- With no job RUNNING and no drain to end, a part with no work, nothing pending, and PERMIT and the run-out wait off is at rest. -/
theorem atRest_notRunning {p : Part} (hs : p.phase = .serving) (hw : p.store.work = []) (hp : p.store.pending = [])
    (hstart : p.store.starting = false) (hrun : p.job.state ≠ .running)
    (hdrain : p.job.state = .draining → p.path.sheets ≠ []) (hpermit : p.permit = false) (hdue : p.job.runOutDue = none) :
    p.AtRest :=
  ⟨hs, hw, hp, by simpa using hdrain, fun hout => absurd hout (by simp [outOfFunds, hrun]), by simp [runOutHolds, hrun, hdue],
    by simp [permitHolds, hrun, hpermit], hstart⟩

/-- JOURNAL_LOW is not raised while the free count does not fall (R175). -/
theorem journalLow_of_le {p before : Part} (h : before.freeSlots ≤ p.freeSlots) : p.journalLow before = p := by
  unfold journalLow
  rw [if_neg]
  simp only [Bool.and_eq_true, decide_eq_true_eq]
  omega

end Part

/-- A command that leaves the part at rest, the list of sheets as it was and the journal no fuller, is its own effect. -/
theorem event_atRest {s : State} {f : Part → Part} {q : Part} (hf : f s.part = q) (hq : q.AtRest)
    (hpath : q.path.sheets = s.part.path.sheets) (hfree : s.part.freeSlots ≤ q.freeSlots) :
    event s f = .next { s with part := q.alert } := by
  unfold event
  rw [Part.command_rest hf hq (Part.reactIdle_path hpath), Part.journalLow_of_le hfree]

/-- A command of the panel that leaves no job RUNNING, the path and the store as they were, and no drain to end, takes the run-out wait
and PERMIT away (R30, R35). -/
theorem event_notRunning {s : State} {f : Part → Part} {q : Part} (h : s.part.AtRest) (hf : f s.part = q)
    (hrun : q.job.state ≠ .running) (hdrain : q.job.state = .draining → q.path.sheets ≠ [])
    (hs : q.phase = s.part.phase ∧ q.path = s.part.path ∧ q.store = s.part.store ∧ q.journal = s.part.journal) :
    event s f =
      .next { s with part := ({ q with job := { q.job with runOutDue := none }, permit := false } : Part).alert } := by
  obtain ⟨hphase, hpath, hstore, hjournal⟩ := hs
  obtain ⟨hserving, hwork, hpending, -⟩ := h
  have hreact := Part.react_notRunning (hphase.trans hserving) hrun hdrain
  rw [event_react hf (hphase.trans hserving) hpath (by rw [hreact]; exact (congrArg Store.work hstore).trans hwork)
    ((congrArg Store.pending hstore).trans hpending) (Part.freeSlots_congr ?_), hreact]
  rw [hstore]
  exact ⟨rfl, rfl, rfl, hjournal⟩

/-! ### START (R28, R30) -/

/-- The fields of a plan that START accepts (R28). -/
theorem planOf_inRange {media colour sides originals copies collated : Nat} (hm : media ≤ 7) (hc : colour ≤ 1)
    (hs : sides = 1 ∨ sides = 2) (ho : 1 ≤ originals) (ho' : originals ≤ 999) (hk : 1 ≤ copies) (hk' : copies ≤ 999)
    (hcol : collated ≤ 1) :
    planOf media colour sides originals copies collated =
      some
        { media := media, colour := if colour = 0 then .mono else .colour, twoSided := decide (sides = 2)
          originals := originals, copies := copies, collated := decide (collated = 1) } := by
  have hink : colourOf colour = some (if colour = 0 then .mono else .colour) := by
    obtain rfl | rfl : colour = 0 ∨ colour = 1 := by omega
    · rfl
    · rfl
  have htwo : twoSidedOf sides = some (decide (sides = 2)) := by rcases hs with rfl | rfl <;> rfl
  have hord : yesNoOf collated = some (decide (collated = 1)) := by
    obtain rfl | rfl : collated = 0 ∨ collated = 1 := by omega
    · rfl
    · rfl
  unfold planOf
  rw [hink, htwo, hord]
  exact if_pos ⟨hm, ho, ho', hk, hk'⟩

theorem colourOf_isSome {code : Nat} (h : (colourOf code).isSome = true) : code ≤ 1 := by
  match code, h with
  | 0, _ => exact Nat.zero_le 1
  | 1, _ => exact le_refl 1

theorem twoSidedOf_isSome {sides : Nat} (h : (twoSidedOf sides).isSome = true) : sides = 1 ∨ sides = 2 := by
  match sides, h with
  | 1, _ => exact .inl rfl
  | 2, _ => exact .inr rfl

theorem yesNoOf_isSome {code : Nat} (h : (yesNoOf code).isSome = true) : code ≤ 1 := by
  match code, h with
  | 0, _ => exact Nat.zero_le 1
  | 1, _ => exact le_refl 1

/-- A plan is taken only with every field in its range (R28). -/
theorem planOf_isSome {media colour sides originals copies collated : Nat}
    (h : (planOf media colour sides originals copies collated).isSome = true) :
    media ≤ 7 ∧ colour ≤ 1 ∧ (sides = 1 ∨ sides = 2) ∧ 1 ≤ originals ∧ originals ≤ 999 ∧ 1 ≤ copies ∧ copies ≤ 999 ∧
      collated ≤ 1 := by
  unfold planOf at h
  split at h
  · next hc ht ho =>
    split at h
    · next hr =>
      obtain ⟨hm, horig, horig', hcop, hcop'⟩ := hr
      exact ⟨hm, colourOf_isSome (by simp [hc]), twoSidedOf_isSome (by simp [ht]), horig, horig', hcop, hcop',
        yesNoOf_isSome (by simp [ho])⟩
    · cases h
  · cases h

namespace Part

theorem touchOpen_atRest {p : Part} (h : p.AtRest) : p.touchOpen.AtRest := by
  unfold touchOpen
  split
  · exact h
  · exact h.touch

theorem touchOpen_eq (p : Part) :
    p.touchOpen = { p with job := if p.job.state = .idle then p.job else { p.job with lastActivity := p.now } } := by
  unfold touchOpen
  split <;> rfl

/-- At rest, in service and with the response store empty, a START is answered by its own decision. -/
theorem AtRest.requestWith {p : Part} (h : p.AtRest) (ho : p.config.outcome ≠ .bad) (hr : p.panel.response = none)
    (code : Nat) (allowed : Bool) (refused : Part → Part) (decision : Part → Answer) :
    p.requestWith code allowed refused decision =
      (decision p).part.answering code (decision p).result (decision p).body := by
  obtain ⟨hs, -⟩ := id h
  unfold Part.requestWith
  rw [if_neg (by simp [hs]), hr, h.turnedAway ho allowed]
  rfl

/-- The part with the plan of an accepted START, and START answered OK, before the rules that follow the event (R28). -/
def started (p : Part) (plan : Plan) : Part :=
  ({ p with
      job :=
        { p.job with
          state := .running, plan := some plan
          planReserve := fullReserve p.config.values plan.media plan.colour plan.twoSided
          assigned := 0, position := 0, lastActivity := p.now }
      panel := p.panel.raise .jobState } : Part).answering 2 .ok []

theorem startPlan_answering {p : Part} (h : p.job.state = .ready) (plan : Plan) :
    (p.startPlan plan).answering 2 .ok [] = p.started plan := by
  unfold startPlan setJobState
  rw [if_neg (by simp [h])]
  rfl

/-- A job just started on a clear path, with headroom, has PERMIT unless six sheets are in the path (R30, R31, R35). -/
theorem react_started {p : Part} (h : p.AtRest) (ho : p.config.outcome ≠ .bad) (hready : p.job.state = .ready)
    (hclear : p.path.jammed = false) (hfunds : p.job.exhausted = none) {plan : Plan} (hplan : 0 < plan.originals * plan.copies)
    (hroom : p.job.acc.gross + p.job.acc.reserved + fullReserve p.config.values plan.media plan.colour plan.twoSided ≤
      1000 * p.job.amount) :
    (p.started plan).react = { p.started plan with permit := decide (p.path.sheets.length < 6) } := by
  have hhead : (p.started plan).job.headroom = true := decide_eq_true hroom
  have hpositions : (p.started plan).job.positions = plan.originals * plan.copies := rfl
  have hnorun : (p.started plan).runOutHolds = false := by
    have hposition : (p.started plan).job.position = 0 := rfl
    have hexhausted : (p.started plan).job.exhausted = none := hfunds
    have hne : 0 ≠ plan.originals * plan.copies := by omega
    simp [runOutHolds, hposition, hpositions, hexhausted, hne]
  have hpermit : (p.started plan).permitHolds = decide (p.path.sheets.length < 6) := by
    have hserving : (p.started plan).serving = true := by simp [Part.serving, started, answering, h.1]
    have hservice : (p.started plan).outOfService = false := by simp [outOfService, started, answering, ho]
    have hassigned : (p.started plan).job.assigned = 0 := rfl
    have hrunning : (p.started plan).job.state = .running := rfl
    have hpath : (p.started plan).path = p.path := rfl
    simp [permitHolds, Config.pathPlaces, hserving, hservice, hrunning, hassigned, hpositions, hhead, hpath, hplan, hclear]
  have hdue : p.job.runOutDue = none := h.runOutDue (by simp [hready])
  rw [react_funded (p := p.started plan) h.1 rfl (by simp [outOfFunds, hhead]), hnorun, hpermit]
  simp only [Bool.false_eq_true, if_false, ← hdue]
  rfl

theorem startRequest_taken {p : Part} {media colour sides originals copies collated : Nat} {plan : Plan}
    (hplan : planOf media colour sides originals copies collated = some plan) (hready : p.job.state = .ready)
    (hclear : p.path.jammed = false) :
    p.startRequest media colour sides originals copies collated = (p.startPlan plan).ok [] := by
  unfold startRequest
  rw [hplan]
  exact if_pos ⟨hready, by simp [hclear]⟩

end Part

/-- An accepted START is the plan taken, PERMIT asserted unless six sheets are in the path (R28, R30). -/
theorem exec_start_taken {s : State} {media colour sides originals copies collated : Nat} {plan : Plan} (h : s.part.AtRest)
    (ho : s.part.config.outcome ≠ .bad) (hr : s.part.panel.response = none) (hready : s.part.job.state = .ready)
    (hclear : s.part.path.jammed = false) (hfunds : s.part.job.exhausted = none)
    (hplan : planOf media colour sides originals copies collated = some plan) (hpositive : 0 < plan.originals * plan.copies)
    (hroom : s.part.job.acc.gross + s.part.job.acc.reserved +
      fullReserve s.part.config.values plan.media plan.colour plan.twoSided ≤ 1000 * s.part.job.amount) :
    exec (.start media colour sides originals copies collated) s =
      .next
        { s with
          part := ({ s.part.started plan with permit := decide (s.part.path.sheets.length < 6) } : Part).alert } := by
  have heffect := h.requestWith ho hr 2 false Part.touchOpen fun q =>
    q.startRequest media colour sides originals copies collated
  rw [Part.startRequest_taken hplan hready hclear] at heffect
  have hreact := Part.react_started h ho hready hclear hfunds hpositive hroom
  simp only [exec, execStart]
  rw [event_react (q := s.part.started plan) (heffect.trans (Part.startPlan_answering hready _)) h.1 rfl (by rw [hreact]; exact h.2.1) h.2.2.1
    (Part.freeSlots_congr ⟨rfl, rfl, rfl, rfl⟩), hreact]

/-- Settles O28: the plan taken is followed by the rules of RUNNING, which find headroom and a position left; a refusal sets the
activity time alone. -/
theorem startBeginsThePlanOrIsRefused : Obligations.StartBeginsThePlanOrIsRefused := by
  refine ⟨?taken, ?refused⟩
  case taken =>
    intro s media colour sides originals copies collated h ho hr hready hclear hfunds hm hc hsides horig horig' hcop hcop' hcol
    intro ink reserve hroom
    have hplan := planOf_inRange hm hc hsides horig horig' hcop hcop' hcol
    exact exec_start_taken h ho hr hready hclear hfunds hplan (Nat.mul_pos horig hcop) hroom
  case refused =>
    intro s media colour sides originals copies collated h ho hr inRange hbad
    have hdecision : s.part.startRequest media colour sides originals copies collated =
        s.part.touchOpen.refuse (if inRange then .busy else .range) := by
      unfold Part.startRequest
      by_cases hin : inRange
      · obtain ⟨hm, hc, hsides, horig, horig', hcop, hcop', hcol⟩ := id hin
        rw [if_pos hin, planOf_inRange hm hc hsides horig horig' hcop hcop' hcol]
        refine if_neg ?_
        rintro ⟨hready, hclear⟩
        rcases hbad with hne | hne | hjam
        · exact hne hin
        · exact hne hready
        · simp [hjam] at hclear
      · rw [if_neg hin]
        cases hplan : planOf media colour sides originals copies collated with
        | none => rfl
        | some plan => exact absurd (planOf_isSome (by rw [hplan]; rfl)) hin
    have heffect := h.requestWith ho hr 2 false Part.touchOpen fun q =>
      q.startRequest media colour sides originals copies collated
    rw [hdecision] at heffect
    have hrest : (s.part.touchOpen.answering 2 (if inRange then .busy else .range) []).AtRest :=
      (Part.touchOpen_atRest h).same ⟨rfl, rfl, rfl, rfl, rfl, rfl, rfl, rfl⟩
    have hsame := s.part.touchOpen_eq
    simp only [exec, execStart]
    rw [event_atRest heffect hrest (by rw [hsame]; rfl) (le_of_eq (Part.freeSlots_congr (by rw [hsame]; exact ⟨rfl, rfl, rfl, rfl⟩)).symm)]
    rw [hsame]

/-! ### END and CANCEL (R26, R34) -/

namespace Part

/-- A job ended with sheets in the path drains (R34). -/
theorem endJob_sheets {p : Part} (h : p.path.sheets ≠ []) (hstate : p.job.state ≠ .draining) (r : EndReason) :
    p.endJob r =
      { p with
        job := { p.job with endReason := some (p.job.endReason.getD r), runOutDue := none, state := .draining }
        panel := p.panel.raise .jobState } := by
  unfold endJob
  dsimp only
  rw [if_neg (by simpa using h), setJobState, if_neg (by simpa [Job.endWith] using hstate)]
  rfl

theorem markDrain_touched (p : Part) (r : EndReason) :
    p.touchActivity.markDrain r =
      { p with
        job := { p.job with endReason := some (p.job.endReason.getD r), drainMark := true, lastActivity := p.now } } :=
  rfl

theorem endRequest_drains {p : Part} (h : p.job.state = .ready ∨ p.job.state = .running ∨ p.job.state = .paused)
    (r : EndReason) : p.endRequest r = (p.touchActivity.endJob r).ok [] := by
  unfold endRequest
  rcases h with h | h | h <;> rw [h]

theorem endRequest_jammed {p : Part} (h : p.job.state = .jammed) (r : EndReason) :
    p.endRequest r = (p.touchActivity.markDrain r).ok [] := by
  unfold endRequest
  rw [h]

theorem endRequest_draining {p : Part} (h : p.job.state = .draining) (r : EndReason) :
    p.endRequest r = p.touchActivity.ok [] := by
  unfold endRequest
  rw [h]

theorem endRequest_refused {p : Part} (h : p.job.state = .idle ∨ p.job.state = .authorize ∨ p.job.state = .settling)
    (r : EndReason) : p.endRequest r = p.refuse .busy := by
  unfold endRequest
  rcases h with h | h | h <;> rw [h]

end Part

/-- END, and CANCEL of a job that is not in AUTHORIZE, are one request under two codes (R34). -/
theorem exec_endRequest {s : State} {c : Instr} {code : Nat} {r : EndReason}
    (hc : (c = .endJob ∧ code = 4 ∧ r = .panelEnd) ∨ (c = .cancel ∧ code = 5 ∧ r = .panelCancel))
    (hstate : c = .cancel → s.part.job.state ≠ .authorize) :
    ∃ f : Part → Part, exec c s = event s f ∧
      (s.part.AtRest → s.part.config.outcome ≠ .bad → s.part.panel.response = none →
        f s.part =
          (s.part.endRequest r).part.answering code (s.part.endRequest r).result (s.part.endRequest r).body) := by
  rcases hc with ⟨rfl, rfl, rfl⟩ | ⟨rfl, rfl, rfl⟩
  · exact ⟨_, rfl, fun h ho hr => h.request ho hr 4 false _⟩
  · refine ⟨_, rfl, fun h ho hr => ?_⟩
    have hcancel : s.part.cancelRequest = s.part.endRequest .panelCancel := if_neg (hstate rfl)
    rw [h.request ho hr, hcancel]

/-- Settles O30: by the state of the job; DRAINING is entered with a sheet left, so no rule that follows ends the job. -/
theorem endAndCancelDrainTheJob : Obligations.EndAndCancelDrainTheJob := by
  intro s c code r hc h ho hr
  obtain ⟨hs, hwork, hpending, hdrain, -, -, -, hstart⟩ := id h
  refine ⟨fun hstate hsheets => ?drains, fun hstate => ?jammed, fun hstate => ?draining, fun hstate => ?refused⟩
  case drains =>
    obtain ⟨f, hexec, heffect⟩ := exec_endRequest hc (s := s) fun _ hauth => by simp [hauth] at hstate
    have hnot : s.part.job.state ≠ .draining := fun hd => by simp [hd] at hstate
    replace heffect := heffect h ho hr
    have hended := Part.endJob_sheets (p := s.part.touchActivity) hsheets hnot r
    rw [Part.endRequest_drains hstate, Part.ok, hended] at heffect
    rw [hexec, event_notRunning h heffect JobState.noConfusion (fun _ => hsheets) ⟨rfl, rfl, rfl, rfl⟩]
    rfl
  case jammed =>
    obtain ⟨f, hexec, heffect⟩ := exec_endRequest hc (s := s) fun _ hauth => by simp [hauth] at hstate
    replace heffect := heffect h ho hr
    rw [Part.endRequest_jammed hstate, Part.ok, Part.markDrain_touched] at heffect
    rw [hexec, event_atRest heffect ?_ rfl (le_of_eq (Part.freeSlots_congr ⟨rfl, rfl, rfl, rfl⟩).symm)]
    have hjam : s.part.job.state ≠ .running := by simp [hstate]
    have hnot : s.part.job.state ≠ .draining := by simp [hstate]
    exact Part.atRest_notRunning hs hwork hpending hstart hjam (fun hd => absurd hd hnot) (h.released hjam) (h.runOutDue hjam)
  case draining =>
    obtain ⟨f, hexec, heffect⟩ := exec_endRequest hc (s := s) fun _ hauth => by simp [hauth] at hstate
    replace heffect := heffect h ho hr
    rw [Part.endRequest_draining hstate] at heffect
    rw [hexec, event_atRest heffect (h.touch.same ⟨rfl, rfl, rfl, rfl, rfl, rfl, rfl, rfl⟩) rfl
      (le_of_eq (Part.freeSlots_congr ⟨rfl, rfl, rfl, rfl⟩).symm)]
    rfl
  case refused =>
    obtain ⟨f, hexec, heffect⟩ := exec_endRequest hc (s := s) fun hcancel hauth => by simp [hauth, hcancel] at hstate
    replace heffect := heffect h ho hr
    rw [Part.endRequest_refused (hstate.imp id fun hrest => hrest.symm.imp And.left id)] at heffect
    rw [hexec, event_rest h heffect ⟨rfl, rfl, rfl, rfl, rfl, rfl, rfl, rfl⟩ (Part.freeSlots_congr ⟨rfl, rfl, rfl, rfl⟩)]
    rfl

/-- Settles O31: the record returns to IDLE, where no rule acts, and the journal's reservation given back lets its free count rise. -/
theorem cancelOfAnAskKeepsARecord : Obligations.CancelOfAnAskKeepsARecord := by
  intro s h ho hr hstate hnone
  obtain ⟨hs, hwork, hpending, -, -, -, -, hstart⟩ := id h
  have hasked : s.part.cancelAsk =
      { s.part with
        job := {}
        settlement :=
          { s.part.settlement with
            cancelled :=
              some
                { job := s.part.job.number, home := s.part.job.home.getD 0, account := s.part.job.payer
                  due := if s.part.job.funding = some .accountRemote then s.part.job.askDue else none
                  frame := s.part.job.askFrame } }
        journal := { s.part.journal with reserved := s.part.journal.reserved - 1 }
        panel := s.part.panel.raise .jobState } := by
    unfold Part.cancelAsk
    simp only [hnone, Option.isSome_none, Bool.false_eq_true, if_false]
    rfl
  have heffect : s.part.request 5 false Part.cancelRequest = s.part.cancelAsk.answering 5 .ok [] := by
    have hcancel : s.part.cancelRequest = s.part.cancelAsk.ok [] := if_pos hstate
    rw [h.request ho hr, hcancel]
    rfl
  rw [hasked] at heffect
  have hfree : s.part.freeSlots ≤ (s.part.request 5 false Part.cancelRequest).freeSlots := by
    rw [heffect]
    simp only [Part.freeSlots, Part.answering, Part.ledger, journalFree]
    omega
  simp only [exec, execCancel]
  refine event_atRest heffect ?_ rfl (by rw [← heffect]; exact hfree)
  refine Part.atRest_notRunning hs hwork hpending hstart (fun hd => by cases hd) (fun hd => by cases hd) ?_ rfl
  exact h.released (by simp [hstate])

end Sys2Proof.Machine
end


section
/-! Proofs about the path monitor: what it only records, how a sheet moves, and what jams the path (R45, R48, R52 to R57, R61, R63). -/

-- One theorem after another: many small theorems elaborated at once need more threads than the check allows.
set_option Elab.async false

namespace Sys2Proof.Machine

open Sys2Proof

/-! ### An event of the path at rest -/

namespace Part

/-- Being at rest rests on the path's state and on how many sheets are in its list, not on where they are. -/
theorem AtRest.onPath {p : Part} (h : p.AtRest) {path : PathMonitor} (hjam : path.jammed = p.path.jammed)
    (hlength : path.sheets.length = p.path.sheets.length) : ({ p with path := path } : Part).AtRest := by
  have hempty : path.sheets.isEmpty = p.path.sheets.isEmpty := by
    rw [Bool.eq_iff_iff, List.isEmpty_iff_length_eq_zero, List.isEmpty_iff_length_eq_zero, hlength]
  obtain ⟨hs, hwork, hpending, hdrain, hfunds, hrun, hpermit, hstart⟩ := h
  refine ⟨hs, hwork, hpending, ?_, ?_, ?_, ?_, hstart⟩
  · rw [hempty]
    exact hdrain
  · simpa [outOfFunds, hjam, hlength] using hfunds
  · simpa [runOutHolds, hempty] using hrun
  · rw [hpermit]
    simp [permitHolds, Part.serving, outOfService, hjam, hlength]

/-- The idle timeout does not fall due with a list as long as before. -/
theorem reactIdle_length {p before : Part} (h : p.path.sheets.length = before.path.sheets.length) :
    p.reactIdle before = p := by
  by_cases hempty : before.path.sheets = []
  · exact reactIdle_empty hempty
  · refine reactIdle_sheets fun hp => hempty ?_
    rw [hp] at h
    exact List.eq_nil_of_length_eq_zero h.symm

end Part

/-- An event that changes the path monitor alone, and neither its state nor the length of its list, is its own effect. -/
theorem event_path {s : State} {f : Part → Part} {path : PathMonitor} (h : s.part.AtRest)
    (hf : f s.part = { s.part with path := path }) (hjam : path.jammed = s.part.path.jammed)
    (hlength : path.sheets.length = s.part.path.sheets.length) :
    event s f = .next { s with part := ({ s.part with path := path } : Part).alert } := by
  have hfree : ({ s.part with path := path } : Part).freeSlots = s.part.freeSlots := Part.freeSlots_congr ⟨rfl, rfl, rfl, rfl⟩
  unfold event
  rw [Part.command_rest hf (h.onPath hjam hlength) (Part.reactIdle_length hlength), Part.journalLow_same hfree]

theorem inService_serving {p : Part} (h : p.phase = .serving) (f : Part → Part) : inService f p = f p :=
  if_pos (by simp [Part.serving, h])

@[simp] theorem sensorOf_code (x : Sensor) : sensorOf x.code = some x := by cases x <;> rfl

theorem sensorMessage_code (x : Sensor) (act : Part → Sensor → Part) (p : Part) :
    Part.sensorMessage x.code act p = act p x := by
  unfold Part.sensorMessage
  rw [sensorOf_code]

/-- Covering a sensor leaves all else of the path monitor alone. -/
@[simp] theorem PathMonitor.cover_frame (m : PathMonitor) (x : Sensor) (b : Bool) :
    (m.cover x b).jammed = m.jammed ∧ (m.cover x b).sheets = m.sheets ∧ (m.cover x b).log = m.log ∧
      (m.cover x b).doorOpen = m.doorOpen := by
  cases x <;> exact ⟨rfl, rfl, rfl, rfl⟩

/-! ### A sheet that moves (R52, R53) -/

/-- The first sheet that passes the test changes where it stands. -/
theorem changeFirst_append {test : Sheet → Bool} {sheet : Sheet} (hsheet : test sheet = true) (ahead behind : List Sheet)
    (hahead : ∀ y ∈ ahead, test y = false) (change : Sheet → Sheet) :
    changeFirst (ahead ++ sheet :: behind) test change = ahead ++ change sheet :: behind := by
  induction ahead with
  | nil => exact if_pos hsheet
  | cons y ahead ih =>
    have hy : ¬test y = true := by simp [hahead y (by simp)]
    rw [List.cons_append, changeFirst, if_neg hy, ih fun z hz => hahead z (by simp [hz])]
    rfl

theorem find?_append_cons {test : Sheet → Bool} {sheet : Sheet} (hsheet : test sheet = true) (ahead behind : List Sheet)
    (hahead : ∀ y ∈ ahead, test y = false) : (ahead ++ sheet :: behind).find? test = some sheet := by
  rw [List.find?_append, List.find?_eq_none.mpr fun y hy => by simp [hahead y hy]]
  simp [hsheet]

theorem Sensor.stageBefore_rank (x : Sensor) : x.stageBefore.rank < x.stage.rank := by cases x <;> decide

theorem Sensor.stageBefore_ne (x : Sensor) : x.stageBefore ≠ x.stage := by cases x <;> decide

namespace Part

/-- A sensor covered by the oldest sheet not yet at it, from the stage just before (R52). -/
theorem sensorOn_moves {p : Part} {x : Sensor} {ahead behind : List Sheet} {sheet : Sheet} (hclear : p.path.jammed = false)
    (hsheets : p.path.sheets = ahead ++ sheet :: behind) (hahead : ∀ y ∈ ahead, x.stage.rank < y.stage.rank)
    (hstage : sheet.stage = x.stageBefore) (hbehind : ∀ y ∈ behind, y.stage ≠ x.stage) :
    p.sensorOn x =
      { p with
        path :=
          { p.path.cover x true with
            sheets :=
              ahead ++
                { sheet with stage := x.stage, deadline := p.now + p.config.values.dwell.getD sheet.media 0 } :: behind } } := by
  obtain ⟨hjam, hsame, -, -⟩ := p.path.cover_frame x true
  have hfirst : sheet.isBefore x.stage = true := by simp [Sheet.isBefore, hstage, x.stageBefore_rank]
  have hnot : ∀ y ∈ ahead, y.isBefore x.stage = false := fun y hy => by
    simpa [Sheet.isBefore] using (hahead y hy).le
  have hfree : (ahead ++ sheet :: behind).any (fun y => y.isAt x.stage) = false := by
    rw [List.any_eq_false]
    intro y hy
    simp only [Sheet.isAt, decide_eq_true_eq]
    rcases List.mem_append.mp hy with hy | hy
    · exact fun he => absurd (hahead y hy) (by rw [he]; exact lt_irrefl _)
    · rcases List.mem_cons.mp hy with rfl | hy
      · rw [hstage]
        exact x.stageBefore_ne
      · exact hbehind y hy
  unfold sensorOn withPath
  dsimp only
  rw [if_neg (by rw [hjam]; simp [hclear])]
  unfold matchOn
  dsimp only
  rw [hsame, hsheets, if_neg (by simp [hfree]), find?_append_cons hfirst ahead behind hnot]
  dsimp only
  rw [if_pos hstage, changeFirst_append hfirst ahead behind hnot]
  rfl

/-- A sensor uncovered by the sheet on it, which moves on (R53). -/
theorem sensorOff_moves {p : Part} {x : Sensor} {ahead behind : List Sheet} {sheet : Sheet} (hclear : p.path.jammed = false)
    (hsheets : p.path.sheets = ahead ++ sheet :: behind) (hahead : ∀ y ∈ ahead, y.stage ≠ x.stage)
    (hstage : sheet.stage = x.stage) (hx : x ≠ .exit) :
    p.sensorOff x =
      { p with
        path :=
          { p.path.cover x false with
            sheets :=
              ahead ++
                { sheet with
                    stage := if x = .reg then .toFuse else .toExit
                    deadline := p.now + (if x = .reg then p.config.values.w2 else p.config.values.w3) } ::
                  behind } } := by
  have hon : sheet.isAt x.stage = true := by simp [Sheet.isAt, hstage]
  have hnot : ∀ y ∈ ahead, y.isAt x.stage = false := fun y hy => by simpa [Sheet.isAt] using hahead y hy
  have hany : (ahead ++ sheet :: behind).any (fun y => y.isAt x.stage) = true :=
    List.any_eq_true.mpr ⟨sheet, by simp, hon⟩
  obtain ⟨hjam, hsame, -, -⟩ := p.path.cover_frame x false
  have moves (next : Stage) (window : Nat) :
      (p.withPath (p.path.cover x false)).moveOn x next window =
        { p with
          path :=
            { p.path.cover x false with
              sheets := ahead ++ { sheet with stage := next, deadline := p.now + window } :: behind } } := by
    unfold moveOn withPath
    dsimp only
    rw [hsame, hsheets, if_pos hany, changeFirst_append hon ahead behind hnot]
    rfl
  unfold sensorOff
  dsimp only
  rw [if_neg (by show ¬(p.path.cover x false).jammed = true; rw [hjam]; simp [hclear])]
  cases x with
  | reg => exact moves _ _
  | fuse => exact moves _ _
  | exit => exact absurd rfl hx

theorem clearTest_blocked {p : Part} (h : p.path.isClear = false) : p.clearTest = p := if_neg (by simp [h])

end Part

/-- Settles O39: each event's effect is a change of the path monitor alone, and its list stays as long as it was. -/
theorem sensorsMoveTheirSheetOrAreRecorded : Obligations.SensorsMoveTheirSheetOrAreRecorded := by
  refine ⟨fun s x ahead behind sheet h hclear hsheets => ⟨fun hahead hstage hbehind => ?on, fun hahead hstage hx => ?off⟩,
    fun s h => ?records⟩
  case on =>
    have heffect := Part.sensorOn_moves hclear hsheets hahead hstage hbehind
    refine event_path h ((inService_serving h.1 _).trans ((sensorMessage_code x _ _).trans heffect)) (by simp) ?_
    simp [hsheets]
  case off =>
    have heffect := Part.sensorOff_moves hclear hsheets hahead hstage hx
    refine event_path h ((inService_serving h.1 _).trans ((sensorMessage_code x _ _).trans heffect)) (by simp) ?_
    simp [hsheets]
  case records =>
    have same {f : Part → Part} {path : PathMonitor} (hf : f s.part = { s.part with path := path })
        (hjam : path.jammed = s.part.path.jammed) (hs : path.sheets = s.part.path.sheets) :
        event s (inService f) = .next { s with part := ({ s.part with path := path } : Part).alert } :=
      event_path h ((inService_serving h.1 f).trans hf) hjam (by rw [hs])
    have covers (x : Sensor) (b : Bool) := s.part.path.cover_frame x b
    refine ⟨fun hjam => ⟨fun x => ?_, ?_, fun code => ?_, ?_, fun x hblocked => ?_, fun hcovered => ?_⟩,
      fun hclear => ⟨?_, fun hempty hnot => ?_⟩, fun place hdue => ?_⟩
    · obtain ⟨hsame, hsheets, -, -⟩ := covers x true
      refine same ((sensorMessage_code x _ _).trans ?_) hsame hsheets
      exact if_pos (hsame.trans hjam)
    · refine same (f := Part.openDoor) ?_ rfl rfl
      exact if_neg (by simp [Part.withPath, hjam])
    · exact same (if_pos hjam) rfl rfl
    · exact same (if_pos hjam) rfl rfl
    · obtain ⟨hsame, hsheets, -, -⟩ := covers x false
      refine same ((sensorMessage_code x _ _).trans ?_) hsame hsheets
      exact (if_pos (hsame.trans hjam)).trans (Part.clearTest_blocked hblocked)
    · refine same (f := Part.closeDoor) ?_ rfl rfl
      refine (if_pos hjam).trans (Part.clearTest_blocked ?_)
      rcases hcovered with hc | hc | hc <;> simp [PathMonitor.isClear, Part.withPath, hc]
    · refine same (f := Part.closeDoor) ?_ rfl rfl
      exact if_neg (by simp [Part.withPath, hclear])
    · refine same (f := Part.openDoor) ?_ rfl rfl
      exact if_neg (by simp [Part.withPath, hempty, hnot])
    · refine same (f := fun q => q.deadline place) ?_ rfl rfl
      dsimp only
      unfold Part.deadline
      cases hplace : s.part.path.sheets[place]? with
      | none => rfl
      | some sheet => exact if_pos (by simp [hdue sheet hplace])

/-! ### What jams the path (R45, R52 to R57, R59) -/

/-- The first index of a list, with its copy and page by the plan (R29, R59). -/
theorem Part.firstIndex_facts (p : Part) (sheets : List Sheet) :
    (sheets.findSome? Sheet.index = none → p.firstIndex sheets = none) ∧
      ∀ plan, p.job.plan = some plan →
        p.firstIndex sheets =
          (sheets.findSome? Sheet.index).map
            (fun i =>
              if plan.collated then (i, i / plan.originals + 1, i % plan.originals + 1)
              else (i, i % plan.copies + 1, i / plan.copies + 1)) := by
  unfold Part.firstIndex
  refine ⟨fun hnone => by rw [hnone], fun plan hplan => ?_⟩
  cases sheets.findSome? Sheet.index with
  | none => rfl
  | some i =>
    simp only [hplan, Option.map_some, Plan.place]
    split <;> rfl

theorem JobState.ownsFeeds_iff (st : JobState) :
    st.ownsFeeds = true ↔ st = .ready ∨ st = .running ∨ st = .paused ∨ st = .draining := by
  cases st <;> simp [JobState.ownsFeeds]

namespace Part

theorem spoilPath_log_frame (p : Part) (fed : Option Nat) :
    (p.spoilPath.spoilCause fed).path = { p.path with jammed := true, sheets := [] } := by
  rw [(spoilCause_frame _ fed).2, spoilPath_path]

@[simp] theorem jobJam_path (p : Part) : p.jobJam.path = p.path := by
  unfold jobJam
  split <;> simp

/-- A jam empties the list and logs its entry (R57, R59). -/
theorem declareJam_entry (p : Part) (kind : JamKind) (sensor : Option Sensor) (code fed : Option Nat) :
    (p.declareJam kind sensor code fed).path =
      { p.path with
        jammed := true, sheets := [], log := writeJam p.path.log (p.jamEntry kind sensor code fed) } := by
  rw [declareJam_eq, raise_frame _ _ |>.2.2.2.2.2.2.1, jobJam_path, spoilPath_log_frame]

theorem declareJam_phase (p : Part) (kind : JamKind) (sensor : Option Sensor) (code fed : Option Nat) :
    (p.declareJam kind sensor code fed).phase = p.phase := by simp

/-- A command whose effect is in service stays in service. -/
theorem command_serving {p : Part} {f : Part → Part} (hs : (f p).phase = .serving) : (p.command f).phase = .serving := by
  have hfollow : ((f p).follow p).phase = .serving := by
    unfold follow
    rw [hs]
    exact (goes_goOn _).serving (by simp [hs])
  simpa [command] using hfollow

/-- A command in service whose effect leaves the path jammed leaves PERMIT released (R30). -/
theorem command_jammed {p : Part} {f : Part → Part} (hs : (f p).phase = .serving) (hjam : (f p).path.jammed = true) :
    (p.command f).path = (f p).path ∧ (p.command f).permit = false := by
  obtain ⟨hpath, -⟩ := command_path (p := p) (f := f) (by simp [hs])
  have hsafe := command_permitSafe (f := f) (p := p) (by simp [Released, hs])
  refine ⟨hpath, (hsafe.1 (command_serving hs)).trans ?_⟩
  simp [permitHolds, hpath, hjam]

end Part

/-- An event in service whose effect declares a jam leaves the jam's entry and PERMIT released (R57, R59). -/
theorem event_jams {s : State} {f : Part → Part} {q : Part} {kind : JamKind} {sensor : Option Sensor} {code fed : Option Nat}
    (hf : f s.part = q.declareJam kind sensor code fed) (hs : q.phase = .serving) :
    ∃ t, event s f = .next t ∧
      t.part.path =
        { q.path with
          jammed := true, sheets := [], log := writeJam q.path.log (q.jamEntry kind sensor code fed) } ∧
      t.part.permit = false := by
  have hentry := q.declareJam_entry kind sensor code fed
  obtain ⟨hpath, hpermit⟩ := Part.command_jammed (p := s.part) (f := f) (by rw [hf, Part.declareJam_phase, hs])
    (by rw [hf, hentry])
  exact ⟨_, rfl, hpath.trans (by rw [hf, hentry]), hpermit⟩

namespace Part

theorem sensorOn_stray {p : Part} {x : Sensor} (hclear : p.path.jammed = false)
    (h : p.path.sheets.any (fun sheet => sheet.stage = x.stage) = true ∨
      (p.path.sheets.find? (fun sheet => decide (sheet.stage.rank < x.stage.rank))).map Sheet.stage ≠ some x.stageBefore) :
    p.sensorOn x = (p.withPath (p.path.cover x true)).stray x := by
  obtain ⟨hjam, hsame, -, -⟩ := p.path.cover_frame x true
  unfold sensorOn
  dsimp only
  rw [if_neg (by show ¬(p.path.cover x true).jammed = true; rw [hjam]; simp [hclear])]
  have hsheets : (p.withPath (p.path.cover x true)).path.sheets = p.path.sheets := hsame
  unfold matchOn
  dsimp only
  rw [hsheets]
  split
  · rfl
  · next hfree =>
    split
    · rfl
    · next sheet hfind =>
      refine if_neg fun hstage => ?_
      rcases h with hany | hnext
      · exact hfree hany
      · unfold Sheet.isBefore at hfind
        rw [hfind] at hnext
        exact hnext (congrArg some hstage)

theorem sensorOff_stray {p : Part} {x : Sensor} (hclear : p.path.jammed = false)
    (h : ∀ sheet ∈ p.path.sheets, sheet.stage ≠ x.stage) :
    p.sensorOff x = (p.withPath (p.path.cover x false)).stray x := by
  obtain ⟨hjam, hsame, -, -⟩ := p.path.cover_frame x false
  have hsheets : (p.withPath (p.path.cover x false)).path.sheets = p.path.sheets := hsame
  have hnone : ¬(p.withPath (p.path.cover x false)).path.sheets.any (fun sheet => sheet.isAt x.stage) = true := by
    rw [hsheets]
    simpa [Sheet.isAt] using h
  unfold sensorOff
  dsimp only
  rw [if_neg (by show ¬(p.path.cover x false).jammed = true; rw [hjam]; simp [hclear])]
  cases x with
  | reg => exact if_neg hnone
  | fuse => exact if_neg hnone
  | exit =>
    have hfind : (p.withPath (p.path.cover .exit false)).path.sheets.find? (fun sheet => sheet.isAt .atExit) = none := by
      rw [List.find?_eq_none]
      intro sheet hsheet hat
      exact hnone (List.any_eq_true.mpr ⟨sheet, hsheet, hat⟩)
    unfold matchOff deliver
    rw [hfind]

theorem openDoor_jams {p : Part} (hclear : p.path.jammed = false) (h : p.path.sheets ≠ [] ∨ p.job.state = .running) :
    p.openDoor = (p.withPath { p.path with doorOpen := true }).declareJam .door none none none := by
  refine if_pos ?_
  simpa [withPath, hclear] using h

theorem engineStop_jams {p : Part} (hclear : p.path.jammed = false) (code : Option Nat) :
    p.engineStop code = p.declareJam .engine none code none := if_neg (by simp [hclear])

theorem deadline_jams {p : Part} {place : Nat} {sheet : Sheet} (hclear : p.path.jammed = false)
    (hplace : p.path.sheets[place]? = some sheet) (hdue : sheet.deadline ≤ p.now) :
    p.deadline place = p.declareJam sheet.stage.expiry.1 (some sheet.stage.expiry.2) none none := by
  unfold deadline
  rw [hplace]
  exact if_neg (by simp [hclear, hdue])

end Part

/-- Settles O37: each cause declares its jam, whose entry is written before any rule that follows; those leave the path alone. -/
theorem jamsStopThePath : Obligations.JamsStopThePath := by
  intro s hs hclear p owns ofJob jams
  have declared {c : Instr} {f : Part → Part} {path : PathMonitor} {kind : JamKind} {sensor : Option Sensor} {code : Option Nat}
      (hexec : exec c s = event s (inService f))
      (hf : f s.part = (s.part.withPath path).declareJam kind sensor code none) (hsheets : path.sheets = p.sheets)
      (hlog : path.log = p.log) : jams c path kind sensor code := by
    obtain ⟨t, ht, hpath, hpermit⟩ := event_jams ((inService_serving hs f).trans hf) hs
    refine ⟨t, _, hexec.trans ht, by rw [hpath, ← hlog]; rfl, rfl, rfl, rfl, ?_, rfl, hpermit, ?_, ?_⟩
    · show path.sheets.length + 0 = p.sheets.length
      rw [hsheets, Nat.add_zero]
    · show (if s.part.job.state.ownsFeeds then some s.part.job.number else none) = _
      simp only [JobState.ownsFeeds_iff]
      rfl
    · have hfirst := s.part.firstIndex_facts p.sheets
      rw [← hsheets] at hfirst ⊢
      exact hfirst
  have covers (x : Sensor) (b : Bool) := p.cover_frame x b
  refine ⟨fun code hcode => ?fault, ?garbled, fun hdoor => ?door, fun x hx => ?on, fun x hx => ?off,
    fun place sheet hplace hdue => ?deadline⟩
  case fault =>
    refine declared (f := fun q => q.engineStop (if code ≤ 255 then some code else none)) rfl ?_ rfl rfl
    rw [if_pos hcode]
    exact Part.engineStop_jams hclear _
  case garbled => exact declared (f := fun q => q.engineStop none) rfl (Part.engineStop_jams hclear _) rfl rfl
  case door => exact declared (f := Part.openDoor) rfl (Part.openDoor_jams hclear hdoor) rfl rfl
  case on =>
    obtain ⟨-, hsheets, hlog, -⟩ := covers x true
    exact declared rfl ((sensorMessage_code x _ _).trans (Part.sensorOn_stray hclear hx)) hsheets hlog
  case off =>
    obtain ⟨-, hsheets, hlog, -⟩ := covers x false
    exact declared rfl ((sensorMessage_code x _ _).trans (Part.sensorOff_stray hclear hx)) hsheets hlog
  case deadline =>
    have hjam := Part.deadline_jams hclear hplace hdue
    cases hstage : sheet.stage <;> rw [hstage] at hjam <;> exact declared (f := fun q => q.deadline place) rfl hjam rfl rfl

end Sys2Proof.Machine
end


section
/-! Proofs about posts of running records that join the queue, and about feeds (R8, R29, R49 to R51, R57, R58, R62, R162, R178). -/

-- One theorem after another: many small theorems elaborated at once need more threads than the check allows.
set_option Elab.async false

namespace Sys2Proof.Machine

open Sys2Proof

/-! ### Posts that join the tail (R161, R162, R163) -/

theorem Store.waiting_subset (s : Store) {post : Post} (h : post ∈ s.waiting) : post ∈ s.queue := by
  rw [← s.programming_append_waiting]
  exact List.mem_append_right _ h

/-- A post of a record that no queued post names joins the tail (R162). -/
theorem Store.post_joins {s : Store} {w : Write} (h : ∀ post ∈ s.queue, post.write.name ≠ w.name) (notes : List Note) :
    s.post w notes = { s with queue := s.queue ++ [{ write := w, notes := notes }] } := by
  refine if_neg ?_
  unfold Store.merges
  simp only [Bool.and_eq_true, List.any_eq_true, decide_eq_true_eq, not_and, not_exists]
  exact fun _ post hpost => h post (s.waiting_subset hpost)

theorem Store.postRunning_joins {s : Store} {w : Write} (hplace : s.queue.length < 8)
    (h : ∀ post ∈ s.queue, post.write.name ≠ w.name) :
    s.postRunning w = { s with queue := s.queue ++ [{ write := w, notes := [] }] } := by
  have hfree : s.hasPlace w = true := by simp [Store.hasPlace, Config.queuePlaces, hplace]
  rw [Store.postRunning, if_pos hfree, Store.post_joins h]

/-- With nothing pending, the newest values after a post at the tail are the newest before it with the post programmed (R163). -/
theorem Store.newest_joined {s : Store} (hpending : s.pending = []) (post : Post) :
    ({ s with queue := s.queue ++ [post] } : Store).newest = program s.newest post.write := by
  simp [Store.newest, hpending]

theorem countGet_countSet_pos {n : Nat} (hn : n ≠ 0) (t : Table Nat) (k j : Nat) :
    countGet (countSet t k n) j = if k = j then n else countGet t j := by
  unfold countGet countSet
  rw [if_neg hn, tableGet_put]
  split <;> rfl

namespace Part

/-- A part with posts joined to the tail of its queue. -/
def joined (p : Part) (posts : List Post) : Part := { p with store := { p.store with queue := p.store.queue ++ posts } }

theorem joined_joined (p : Part) (posts more : List Post) : (p.joined posts).joined more = p.joined (posts ++ more) := by
  simp [joined, List.append_assoc]

@[simp] theorem joined_nil (p : Part) : p.joined [] = p := by simp [joined]

/-- The post that raises a meter of a part (R178). -/
def meterPost (p : Part) (index count : Nat) : Post where
  write := .meter index (min 4294967295 (countGet p.ledger.meters index + count))
  notes := []

theorem raiseMeter_joins {p : Part} {index : Nat} (hplace : p.store.queue.length < 8)
    (h : ∀ post ∈ p.store.queue, post.write.name ≠ .meter index) (count : Nat) :
    p.raiseMeter index count = p.joined [p.meterPost index count] := by
  have hjoins := Store.postRunning_joins (w := (p.meterPost index count).write) hplace h
  exact congrArg (fun store => { p with store := store }) hjoins

/-- A post of one meter leaves the newest value of another (R163). -/
theorem meterPost_joined {p : Part} (hpending : p.store.pending = []) {index other : Nat} (hne : other ≠ index)
    {count : Nat} (hcount : count ≠ 0) (index' count' : Nat) (h : index' = index) :
    (p.joined [p.meterPost other count]).meterPost index' count' = p.meterPost index' count' := by
  subst h
  have hledger : (p.joined [p.meterPost other count]).ledger = program p.ledger (p.meterPost other count).write :=
    Store.newest_joined hpending _
  have hpositive : min 4294967295 (countGet p.ledger.meters other + count) ≠ 0 := by omega
  unfold meterPost at hledger ⊢
  rw [hledger]
  simp only [program, countGet_countSet_pos hpositive, if_neg hne]

/-! ### Feeds (R49, R50, R62) -/

theorem feedMessage_feed {media colour sides : Nat} (hm : media ≤ 7) (hc : colour ≤ 1) (hs : sides = 1 ∨ sides = 2) (p : Part) :
    Part.feedMessage media colour sides p = p.feed media (if colour = 0 then .mono else .colour) (decide (sides = 2)) := by
  have hink : colourOf colour = some (if colour = 0 then .mono else .colour) := by
    obtain rfl | rfl : colour = 0 ∨ colour = 1 := by omega
    · rfl
    · rfl
  have htwo : twoSidedOf sides = some (decide (sides = 2)) := by rcases hs with rfl | rfl <;> rfl
  unfold feedMessage
  rw [hink, htwo]
  exact if_pos hm

/-- A feed counted, and the activity time set when it is the job's on a clear path (R41, R51). -/
def fedBase (p : Part) : Part := if !p.path.jammed && p.job.state.ownsFeeds then p.countFeed.touchActivity else p.countFeed

theorem fedBase_job (p : Part) :
    p.fedBase.job =
      if !p.path.jammed && p.job.state.ownsFeeds then { p.job with lastActivity := p.now } else p.job := by
  unfold fedBase
  split
  · show { p.countFeed.job with lastActivity := p.countFeed.now } = _
    rw [(countFeed_core p).1, p.countFeed_frame.2.2.1]
  · exact (countFeed_core p).1

theorem fedBase_same (p : Part) :
    p.fedBase.phase = p.phase ∧ p.fedBase.now = p.now ∧ p.fedBase.config = p.config ∧ p.fedBase.path = p.path := by
  unfold fedBase
  split <;> simp [touchActivity]

/-- The activity time apart, a feed leaves the job as it was. -/
theorem fedBase_terms (p : Part) :
    p.fedBase.job.state = p.job.state ∧ p.fedBase.job.number = p.job.number ∧ p.fedBase.job.plan = p.job.plan ∧
      p.fedBase.job.limit = p.job.limit ∧ p.fedBase.job.acc = p.job.acc ∧ p.fedBase.job.assigned = p.job.assigned := by
  rw [fedBase_job]
  split <;> exact ⟨rfl, rfl, rfl, rfl, rfl, rfl⟩

theorem feed_eq (p : Part) (media : Nat) (c : Colour) (twoSided : Bool) :
    p.feed media c twoSided =
      if p.fedBase.path.jammed then p.fedBase.spoilFed media p.fedBase.job.state.losesJammedFeeds
      else if p.fedBase.path.doorOpen then p.fedBase.declareJam .door none none (some media)
      else if Config.pathPlaces ≤ p.fedBase.path.sheets.length then p.fedBase.declareJam .overfeed none none (some media)
      else if p.fedBase.job.state.ownsFeeds then p.fedBase.trackOwned media c twoSided
      else p.fedBase.trackUnowned media c twoSided :=
  rfl

/-- The sheet that a feed adds to the list of a CLEAR path (R8, R29, R49, R50). -/
def joiningSheet (p : Part) (media : Nat) (c : Colour) (twoSided : Bool) : Sheet :=
  let owned := p.job.state = .ready ∨ p.job.state = .running ∨ p.job.state = .paused ∨ p.job.state = .draining
  { owner := if owned then some p.job.number else none
    index := if p.job.state = .running ∧ p.job.assigned < p.job.positions then some p.job.assigned else none
    media := media, colour := c, twoSided := twoSided
    reserve :=
      if owned then
        min (fullReserve p.config.values media c twoSided) (1000 * p.job.amount - p.job.acc.gross - p.job.acc.reserved)
      else 0
    stage := .fed, deadline := p.now + p.config.values.w1 }

theorem feed_joins {p : Part} (hclear : p.path.jammed = false) (hdoor : p.path.doorOpen = false)
    (hplace : p.path.sheets.length < 6) (media : Nat) (c : Colour) (twoSided : Bool) :
    (p.feed media c twoSided).phase = p.phase ∧
      (p.feed media c twoSided).path =
        { p.path with sheets := p.path.sheets ++ [p.joiningSheet media c twoSided] } := by
  obtain ⟨hphase, hnow, hconfig, hpath⟩ := p.fedBase_same
  obtain ⟨hstate, hnumber, hplan, hlimit, hacc, hassigned⟩ := p.fedBase_terms
  have hpositions : p.fedBase.job.positions = p.job.positions := by simp [Job.positions, hplan]
  have hamount : p.fedBase.job.amount = p.job.amount := by simp [Job.amount, hlimit]
  rw [feed_eq]
  generalize p.fedBase = q at *
  rw [if_neg (by rw [hpath, hclear]; exact Bool.false_ne_true), if_neg (by rw [hpath, hdoor]; exact Bool.false_ne_true),
    if_neg (by rw [hpath]; exact Nat.not_le.mpr hplace)]
  by_cases howns : p.job.state.ownsFeeds = true
  · have hown := (JobState.ownsFeeds_iff _).mp howns
    have hsheet : q.fedSheet media c twoSided = p.joiningSheet media c twoSided := by
      simp only [fedSheet, joiningSheet, if_pos hown, room, hstate, hnumber, hpositions, hamount, hacc, hassigned, hnow, hconfig,
        Bool.and_eq_true, decide_eq_true_eq]
    rw [hstate, if_pos howns]
    refine ⟨hphase, ?_⟩
    show { q.path with sheets := q.path.sheets ++ [q.fedSheet media c twoSided] } = _
    rw [hpath, hsheet]
  · have hown := mt (JobState.ownsFeeds_iff p.job.state).mpr howns
    have hnot : p.job.state ≠ .running := fun h => hown (.inr (.inl h))
    have hsheet : p.joiningSheet media c twoSided =
        { owner := none, index := none, media := media, colour := c, twoSided := twoSided, reserve := 0, stage := .fed
          deadline := q.now + q.config.values.w1 } := by
      have hindex : ¬(p.job.state = .running ∧ p.job.assigned < p.job.positions) := fun h => hnot h.1
      unfold joiningSheet
      rw [if_neg hindex, hnow, hconfig]
      simp only [if_neg hown]
    rw [hstate, if_neg howns]
    refine ⟨hphase, ?_⟩
    rw [hsheet, ← hpath]
    rfl

/-- A feed with the door open, or with no place in the list, declares its jam (R56, R57). -/
theorem feed_jams {p : Part} (hclear : p.path.jammed = false) (h : p.path.doorOpen = true ∨ 6 ≤ p.path.sheets.length)
    (media : Nat) (c : Colour) (twoSided : Bool) :
    p.feed media c twoSided =
      p.fedBase.declareJam (if p.path.doorOpen then .door else .overfeed) none none (some media) := by
  obtain ⟨-, -, -, hpath⟩ := p.fedBase_same
  rw [feed_eq, hpath, if_neg (by simp [hclear])]
  by_cases hdoor : p.path.doorOpen = true
  · rw [if_pos hdoor, if_pos hdoor]
  · have hfull : Config.pathPlaces ≤ p.path.sheets.length := h.resolve_left hdoor
    rw [if_neg hdoor, if_neg hdoor, if_pos hfull]

end Part

end Sys2Proof.Machine
end


section
/-! Proofs about feeds: what joins the list, what jams the path, and what is spoiled against a jam (R8, R29, R49 to R51, R57 to R59, R62). -/

-- One theorem after another: many small theorems elaborated at once need more threads than the check allows.
set_option Elab.async false

namespace Sys2Proof.Machine

open Sys2Proof

namespace Part

/-- With an empty queue and nothing pending, a feed outside PERMIT posts the unpermitted-feed counter, and the unowned-sheet counter
where no job can own a sheet (R51). -/
theorem countFeed_posts {p : Part} (hpermit : p.permit = false) (hqueue : p.store.queue = []) (hpending : p.store.pending = []) :
    p.countFeed = p.joined (p.meterPost 24 1 :: if p.job.state.unowned then [p.meterPost 25 1] else []) := by
  have hfirst : p.raiseMeter 24 1 = p.joined [p.meterPost 24 1] :=
    raiseMeter_joins (by simp [hqueue]) (by simp [hqueue]) 1
  have hnames : ∀ post ∈ (p.joined [p.meterPost 24 1]).store.queue, post.write.name ≠ .meter 25 := by
    simp [joined, hqueue, meterPost, Write.name]
  have hcounted : (if p.permit then p else p.raiseMeter 24 1) = p.joined [p.meterPost 24 1] := by
    rw [if_neg (by rw [hpermit]; exact Bool.false_ne_true), hfirst]
  unfold countFeed
  dsimp only
  rw [hcounted]
  split
  · rw [raiseMeter_joins (by simp [joined, hqueue]) hnames,
      meterPost_joined hpending (index := 25) (by decide) (by decide) 25 1 rfl, joined_joined]
    rfl
  · rfl

/-- The queue after a feed's counters has room for its spoiled-sheet meter, and no post of it (R58, R178). -/
theorem spoilMeter_joins {p : Part} {posts : List Post} (hqueue : p.store.queue = []) (hlength : posts.length ≤ 2) {media : Nat}
    (hm : media ≤ 7) (hposts : ∀ post ∈ posts, post.write.name = .meter 24 ∨ post.write.name = .meter 25) :
    (p.joined posts).raiseMeter (16 + media) 1 = p.joined (posts ++ [(p.joined posts).meterPost (16 + media) 1]) := by
  have hnames : ∀ post ∈ (p.joined posts).store.queue, post.write.name ≠ .meter (16 + media) := by
    intro post hpost
    replace hpost : post ∈ p.store.queue ++ posts := hpost
    rw [hqueue, List.nil_append] at hpost
    rcases hposts post hpost with h | h <;> rw [h] <;> simp only [ne_eq, RecordName.meter.injEq] <;> omega
  rw [raiseMeter_joins (by simp [joined, hqueue]; omega) hnames, joined_joined]

/-- The counters of a feed leave the spoiled-sheet meters as they were (R163). -/
theorem meterPost_counted {p : Part} (hpending : p.store.pending = []) {media : Nat} (hm : media ≤ 7) (unowned : Bool) :
    (p.joined (p.meterPost 24 1 :: if unowned then [p.meterPost 25 1] else [])).meterPost (16 + media) 1 =
      p.meterPost (16 + media) 1 := by
  have hfirst := meterPost_joined hpending (index := 16 + media) (other := 24) (count := 1) (by omega) (by decide) _ 1 rfl
  cases unowned with
  | false => exact hfirst
  | true =>
    have hsecond := meterPost_joined (p := p.joined [p.meterPost 24 1]) hpending (index := 16 + media) (other := 25) (count := 1)
      (by omega) (by decide) _ 1 rfl
    rw [meterPost_joined hpending (index := 25) (by decide) (by decide) 25 1 rfl, joined_joined, hfirst] at hsecond
    exact hsecond

end Part

/-- The states in which no job can own a fed sheet (R51). -/
theorem JobState.unowned_iff (st : JobState) : st.unowned = true ↔ st = .idle ∨ st = .authorize ∨ st = .settling := by
  cases st <;> simp [JobState.unowned]

theorem JobState.losesJammedFeeds_iff (st : JobState) :
    st.losesJammedFeeds = true ↔ st = .ready ∨ st = .jammed ∨ st = .paused ∨ st = .draining := by
  cases st <;> simp [JobState.losesJammedFeeds]

namespace Part

/-- A jammed path holds no RUNNING job's PERMIT (R30). -/
theorem AtRest.released_jammed {p : Part} (h : p.AtRest) (hjam : p.path.jammed = true) : p.permit = false := by
  obtain ⟨-, -, -, -, -, -, hpermit, -⟩ := h
  rw [hpermit]
  simp [permitHolds, hjam]

/-- A sheet fed against a jam is counted, and spoiled (R51, R62). -/
theorem feed_spoiled {p : Part} (h : p.AtRest) (hjam : p.path.jammed = true) (hqueue : p.store.queue = []) {media : Nat}
    (hm : media ≤ 7) (c : Colour) (twoSided : Bool) :
    p.feed media c twoSided =
      ({ p with
          job := if p.job.state.losesJammedFeeds then { p.job with spoiled := p.job.spoiled + 1 } else p.job } : Part).joined
        ((p.meterPost 24 1 :: if p.job.state.unowned then [p.meterPost 25 1] else []) ++ [p.meterPost (16 + media) 1]) := by
  obtain ⟨-, -, hpending, -⟩ := id h
  obtain ⟨-, -, -, hpath⟩ := p.fedBase_same
  have hbase : p.fedBase = p.countFeed := if_neg (by simp [hjam])
  have hcount := countFeed_posts (h.released_jammed hjam) hqueue hpending
  rw [feed_eq, hpath, if_pos hjam, hbase, hcount]
  have hposts : ∀ post ∈ (p.meterPost 24 1 :: if p.job.state.unowned then [p.meterPost 25 1] else [] : List Post),
      post.write.name = .meter 24 ∨ post.write.name = .meter 25 := by
    split <;> simp [meterPost, Write.name]
  have hlength : (p.meterPost 24 1 :: if p.job.state.unowned then [p.meterPost 25 1] else [] : List Post).length ≤ 2 := by
    split <;> simp
  have hmeter := meterPost_counted hpending hm p.job.state.unowned
  have hspoil := fun job : Job => spoilMeter_joins (p := { p with job := job }) hqueue hlength hm hposts
  unfold spoilFed
  dsimp only
  generalize (p.meterPost 24 1 :: if p.job.state.unowned then [p.meterPost 25 1] else [] : List Post) = posts at *
  have hstate : (p.joined posts).job.state = p.job.state := rfl
  rw [hstate]
  cases p.job.state.losesJammedFeeds with
  | true => exact (hspoil { p.job with spoiled := p.job.spoiled + 1 }).trans (congrArg (fun m => Part.joined _ (posts ++ [m])) hmeter)
  | false => exact (hspoil p.job).trans (congrArg (fun m => Part.joined _ (posts ++ [m])) hmeter)

/-- A READY or PAUSED job counts a jam, and A is set to D (R29, R39). -/
theorem jobJam_kept {p : Part} (h : p.job.state = .ready ∨ p.job.state = .paused) :
    p.jobJam = { p with job := p.job.countJam false } := by
  unfold jobJam
  rcases h with h | h <;> rw [h]

/-- A sheet fed with the door open, to a READY or PAUSED job with an empty list, is spoiled with the jam that it causes (R39, R57, R58). -/
theorem feed_doorJam {p : Part} (h : p.AtRest) (hclear : p.path.jammed = false) (hdoor : p.path.doorOpen = true)
    (hsheets : p.path.sheets = []) (hstate : p.job.state = .ready ∨ p.job.state = .paused) (hqueue : p.store.queue = [])
    {media : Nat} (hm : media ≤ 7) (c : Colour) (twoSided : Bool) :
    p.feed media c twoSided =
      { p with
        permit := false
        job :=
          { p.job with
            jams := p.job.jams + 1, assigned := p.job.position, spoiled := p.job.spoiled + 1, lastActivity := p.now }
        path :=
          { p.path with
            jammed := true
            log :=
              writeJam p.path.log
                { kind := .door, sensor := none, code := none, job := some p.job.number, first := none, spoiled := 1
                  time := p.now / 1000 } }
        store := { p.store with queue := [p.meterPost 24 1, p.meterPost (16 + media) 1] }
        panel := p.panel.raise .jam } := by
  obtain ⟨-, -, hpending, -⟩ := id h
  have hrun : p.job.state ≠ .running := by rcases hstate with hs | hs <;> simp [hs]
  have howns : p.job.state.ownsFeeds = true := by rcases hstate with hs | hs <;> simp [hs, JobState.ownsFeeds]
  have hunowned : p.job.state.unowned = false := by rcases hstate with hs | hs <;> simp [hs, JobState.unowned]
  have hloses : p.job.state.losesFeeds = true := by rcases hstate with hs | hs <;> simp [hs, JobState.losesFeeds]
  have hcount := countFeed_posts (h.released hrun) hqueue hpending
  rw [hunowned] at hcount
  have hbase : p.fedBase =
      ({ p with job := { p.job with lastActivity := p.now } } : Part).joined [p.meterPost 24 1] := by
    unfold fedBase
    rw [if_pos (by simp [hclear, howns]), hcount]
    rfl
  have hmeter := meterPost_counted hpending hm false
  let q : Part :=
    { p with
      permit := false, job := { p.job with lastActivity := p.now, spoiled := p.job.spoiled + 1 }
      path := { p.path with jammed := true, sheets := [] } }
  have hraised := spoilMeter_joins (p := q) (posts := [p.meterPost 24 1]) hqueue (by simp) hm (by simp [meterPost, Write.name])
  have hspoiled : (p.fedBase.spoilPath.spoilCause (some media)) =
      q.joined [p.meterPost 24 1, p.meterPost (16 + media) 1] := by
    have hpath : p.fedBase.spoilPath =
        { p.fedBase with permit := false, path := { p.fedBase.path with jammed := true, sheets := [] } } := by
      unfold spoilPath
      rw [p.fedBase_same.2.2.2, hsheets]
      rfl
    have hstate' : p.fedBase.spoilPath.job.state = p.job.state := by
      rw [hpath]
      exact p.fedBase_terms.1
    unfold spoilCause spoilFed
    dsimp only
    rw [hstate', hloses, if_pos rfl, hpath, hbase]
    exact hraised.trans (congrArg (fun m => q.joined [p.meterPost 24 1, m]) hmeter)
  have hentry : p.fedBase.jamEntry .door none none (some media) =
      { kind := .door, sensor := none, code := none, job := some p.job.number, first := none, spoiled := 1
        time := p.now / 1000 } := by
    obtain ⟨hstate', hnumber, -⟩ := p.fedBase_terms
    obtain ⟨-, hnow, -, hpath⟩ := p.fedBase_same
    unfold jamEntry
    rw [hstate', hnumber, hpath, hsheets, if_pos howns]
    simp only [Part.seconds, hnow]
    rfl
  rw [feed_jams hclear (.inl hdoor), if_pos hdoor, declareJam_eq, hspoiled, hentry, jobJam_kept (by exact hstate)]
  simp only [joined, q, hqueue, hsheets, List.nil_append]
  rfl

end Part

/-- The command of a feed of the engine (R49). -/
theorem exec_sheetFed {s : State} (hs : s.part.phase = .serving) {media colour sides : Nat} (hm : media ≤ 7) (hc : colour ≤ 1)
    (hsides : sides = 1 ∨ sides = 2) :
    ∃ f : Part → Part, exec (.sheetFed media colour sides) s = event s f ∧
      f s.part = s.part.feed media (if colour = 0 then .mono else .colour) (decide (sides = 2)) :=
  ⟨_, rfl, (inService_serving hs _).trans (Part.feedMessage_feed hm hc hsides _)⟩

theorem newestFree_joined {p : Part} (hpending : p.store.pending = []) (post : Post) :
    (p.joined [post]).ledger = program p.ledger post.write := Store.newest_joined hpending post

/-- Posts of meters leave the journal's free count as it was (R173). -/
theorem freeSlots_joined_meters {p : Part} (hpending : p.store.pending = []) (posts : List Post)
    (h : ∀ post ∈ posts, ∃ i v, post.write = .meter i v) : (p.joined posts).freeSlots = p.freeSlots := by
  induction posts generalizing p with
  | nil => rw [Part.joined_nil]
  | cons post posts ih =>
    obtain ⟨i, v, hpost⟩ := h post (by simp)
    have hone : (p.joined [post]).freeSlots = p.freeSlots := by
      unfold Part.freeSlots
      rw [newestFree_joined hpending, hpost]
      rfl
    have hall : p.joined (post :: posts) = (p.joined [post]).joined posts := (Part.joined_joined p [post] posts).symm
    rw [hall, ih (p := p.joined [post]) hpending fun q hq => h q (by simp [hq]), hone]

/-- Settles O35: the path after a feed is what joining or the jam makes of it; the two clauses with no job RUNNING are the feed's effect,
with no rule to follow. -/
theorem feedsJoinJamOrAreSpoiled : Obligations.FeedsJoinJamOrAreSpoiled := by
  refine ⟨fun s media colour sides hs hclear hm hc hsides => ⟨fun hdoor hplace => ?joins, fun hjam => ?jams⟩,
    fun s media colour sides h hclear hdoor hsheets hstate hqueue hm hc hsides => ?doorJam,
    fun s media colour sides h hjam hqueue hm hc hsides => ?spoiled⟩
  case joins =>
    obtain ⟨f, hexec, heffect⟩ := exec_sheetFed hs hm hc hsides
    obtain ⟨-, hpath⟩ := Part.feed_joins hclear hdoor hplace media (if colour = 0 then .mono else .colour) (decide (sides = 2))
    have hdrain : ∀ load, (f s.part).phase ≠ .draining load := by simp [heffect, hs]
    exact ⟨_, hexec, (Part.command_path hdrain).1.trans (by rw [heffect, hpath]; rfl)⟩
  case jams =>
    obtain ⟨f, hexec, heffect⟩ := exec_sheetFed hs hm hc hsides
    obtain ⟨hphase, hnow, -, hpath⟩ := s.part.fedBase_same
    obtain ⟨hstate, hnumber, hplan, -⟩ := s.part.fedBase_terms
    have hfirst := s.part.fedBase.firstIndex_facts s.part.path.sheets
    obtain ⟨t, ht, htpath, hpermit⟩ := event_jams (heffect.trans (Part.feed_jams hclear hjam _ _ _)) (hphase.trans hs)
    refine ⟨t, _, hexec.trans ht, htpath.trans (by rw [hpath]), rfl, rfl, rfl, ?_, ?_, hpermit, ?_, ?_, ?_⟩
    · show s.part.fedBase.path.sheets.length + 1 = _
      rw [hpath]
    · show s.part.fedBase.now / 1000 = _
      rw [hnow]
    · show (if s.part.fedBase.job.state.ownsFeeds then some s.part.fedBase.job.number else none) = _
      simp only [JobState.ownsFeeds_iff, hstate, hnumber]
    · show _ → s.part.fedBase.firstIndex s.part.fedBase.path.sheets = none
      rw [hpath]
      exact hfirst.1
    · show ∀ plan, _ → s.part.fedBase.firstIndex s.part.fedBase.path.sheets = _
      rw [hpath, ← hplan]
      exact hfirst.2
  case doorJam =>
    obtain ⟨f, hexec, heffect⟩ := exec_sheetFed h.1 hm hc hsides
    have hrun : s.part.job.state ≠ .running := by rcases hstate with hst | hst <;> simp [hst]
    have hnot : s.part.job.state ≠ .draining := by rcases hstate with hst | hst <;> simp [hst]
    rw [Part.feed_doorJam h hclear hdoor hsheets hstate hqueue hm] at heffect
    rw [hexec]
    obtain ⟨hs, hwork, hpending, -, -, -, -, hstart⟩ := id h
    refine event_atRest heffect ?_ rfl (le_of_eq ?_)
    · exact Part.atRest_notRunning hs hwork hpending hstart hrun (fun hd => absurd hd hnot) rfl (h.runOutDue hrun)
    · have hfree := freeSlots_joined_meters hpending [s.part.meterPost 24 1, s.part.meterPost (16 + media) 1] (by simp [Part.meterPost])
      exact hfree.symm.trans (Part.freeSlots_congr ⟨rfl, by show s.part.store.queue ++ _ = _; rw [hqueue]; rfl, rfl, rfl⟩)
  case spoiled =>
    obtain ⟨f, hexec, heffect⟩ := exec_sheetFed h.1 hm hc hsides
    rw [Part.feed_spoiled h hjam hqueue hm] at heffect
    have hmeters : ∀ post ∈ ((s.part.meterPost 24 1 :: if s.part.job.state.unowned then [s.part.meterPost 25 1] else []) ++
        [s.part.meterPost (16 + media) 1] : List Post), ∃ i v, post.write = .meter i v := by
      split <;> simp [Part.meterPost]
    let q : Part :=
      { s.part with
        job :=
          if s.part.job.state.losesJammedFeeds then { s.part.job with spoiled := s.part.job.spoiled + 1 } else s.part.job }
    have hq : q.AtRest := by
      unfold q
      split <;> exact h
    have hfree : q.freeSlots = s.part.freeSlots := Part.freeSlots_congr ⟨rfl, rfl, rfl, rfl⟩
    rw [hexec, event_atRest heffect (hq.same ⟨rfl, rfl, rfl, rfl, rfl, rfl, rfl, rfl⟩) rfl
      (le_of_eq (hfree.symm.trans (freeSlots_joined_meters (p := q) h.2.2.1 _ hmeters).symm))]
    simp only [Part.joined, hqueue, List.nil_append, JobState.losesJammedFeeds_iff, JobState.unowned_iff]
    rfl

end Sys2Proof.Machine
end


section
/-! Proofs about work that goes on alone: the steps of one owner, one after another, until none is left (R164). -/

-- One theorem after another: many small theorems elaborated at once need more threads than the check allows.
set_option Elab.async false

namespace Sys2Proof.Machine

open Sys2Proof

/-! ### One work and no other (R164, R172) -/

theorem ownerFree_single (w : Work) : ownerFree [w] w = true := by
  unfold ownerFree
  cases hb : w.begun <;> cases ho : w.occupies w.owner <;> simp [hb, ho]

/-- A work that is alone may always take its next step. -/
theorem canRun_single (w : Work) : canRun [w] w = true := by
  have hholder : holder [w] w.block = some w := by
    unfold holder
    simp only [List.find?_cons, List.find?_nil, ownerFree_single, decide_true, Bool.and_true]
    cases w.begun && decide (w.owner = w.block) <;> cases w.occupies w.block <;> rfl
  simp [canRun, hholder, ownerFree_single]

@[simp] theorem Part.withWork_withWork (p : Part) (a b : List Work) : (p.withWork a).withWork b = p.withWork b := rfl

theorem Part.withWork_nil {p : Part} (h : p.store.work = []) : p.withWork [] = p := by
  unfold Part.withWork
  rw [← h]

theorem Part.assign_alone {p : Part} (h : p.store.work = []) (owner : Owner) (tasks : List Task) :
    p.assign owner tasks = p.withWork [{ owner := owner, tasks := tasks }] := by
  unfold Part.assign
  rw [h]
  rfl

/-- The works of an owner with some steps left, and of no other. -/
def worksOf (owner : Owner) (tasks : List Task) (begun : Bool) : List Work :=
  match tasks with
  | [] => []
  | t :: ts => [{ owner := owner, tasks := t :: ts, begun := begun }]

theorem putBack_nil (owner : Owner) (tasks : List Task) :
    putBack [] { owner := owner, tasks := tasks, begun := true, since := none } = worksOf owner tasks true := by
  cases tasks <;> rfl

namespace Part

/-- A step that a task takes at once: not a post, or a post that finds a place. -/
def Ready (p : Part) (t : Task) : Prop := p.store.queue.length < 8 ∨ ∀ work, t.write (p.withWork work) = none

theorem markWait_alone {p : Part} {w : Work} {t : Task} {tasks : List Task} (hw : w.tasks = t :: tasks) (hr : p.Ready t) :
    (p.withWork [w]).markWait = none := by
  have hmarks : (p.withWork [w]).marksWait w = false := by
    unfold marksWait
    rw [hw]
    simp only [Bool.and_eq_false_iff]
    right
    rcases hr with hplace | hwrite
    · cases t.write (p.withWork [w]) with
      | none => rfl
      | some post =>
        have hqueue : (p.withWork [w]).store.queue = p.store.queue := rfl
        simp [Store.hasPlace, Config.queuePlaces, hqueue, hplace]
    · rw [hwrite]
  unfold markWait
  have hwork : (p.withWork [w]).store.work = [w] := rfl
  rw [hwork, List.find?_cons_of_neg (by simp [hmarks]), List.find?_nil]
  rfl

theorem advanceFirst_runs {p q : Part} {w : Work} {before after : List Work} (hrun : canRun p.store.work w = true)
    (h : p.advance w (before ++ after) = some q) : p.advanceFirst before (w :: after) = some q := by
  unfold advanceFirst
  rw [if_pos hrun, h]

/-- With nothing pending and no wait that begins, the pump goes on with the first work that can take a step. -/
theorem pump_advances {p q : Part} (hpending : p.store.pending = []) (hmark : p.markWait = none)
    (h : p.advanceFirst [] p.store.work = some q) (fuel : Nat) : p.pump (fuel + 1) = q.react.pump fuel := by
  conv_lhs => unfold pump
  simp only [fill_empty hpending, hmark, h]

/-- A work that is alone takes its next step, and the rules that follow it act. -/
theorem pump_step {p q : Part} {owner : Owner} {t : Task} {tasks more : List Task} {begun : Bool} (hpending : p.store.pending = [])
    (hwork : p.store.work = []) (hstep : t.step p = some (q, more)) (hq : q.store.work = []) (hr : p.Ready t) (fuel : Nat) :
    (p.withWork (worksOf owner (t :: tasks) begun)).pump (fuel + 1) =
      (q.withWork (worksOf owner (more ++ tasks) true)).react.pump fuel := by
  have hmark := markWait_alone (p := p) (w := { owner := owner, tasks := t :: tasks, begun := begun }) rfl hr
  refine pump_advances (p := p.withWork (worksOf owner (t :: tasks) begun)) hpending hmark
    (advanceFirst_runs (canRun_single _) ?_) fuel
  unfold advance
  simp only [List.append_nil, withWork_withWork, withWork_nil hwork, hstep, Option.map_some, hq, putBack_nil]

/-- Steps of one owner's work, each made at once with the rules that follow it, until none is left: how many, from which part, to
which. -/
inductive Works : Nat → Part → List Task → Part → Prop
  | done (p : Part) : Works 0 p [] p
  | step {n : Nat} {p q after r : Part} {t : Task} {tasks more : List Task} (hstep : t.step p = some (q, more))
      (hready : p.Ready t) (hwork : q.store.work = []) (hpending : q.store.pending = [])
      (hreact : ∀ work, (q.withWork work).react = after.withWork work) (hsame : after.store = q.store)
      (hrest : Works n after (more ++ tasks) r) : Works (n + 1) p (t :: tasks) r

/-- The rules that follow a step of work leave a calm part alone. -/
theorem Calm.react_withWork {p : Part} (h : p.Calm) (work : List Work) : (p.withWork work).react = p.withWork work :=
  (h.same (q := p.withWork work) ⟨rfl, rfl, rfl, rfl, rfl⟩).react

/-- A step that leaves the part calm. -/
theorem Works.calm {n : Nat} {p q r : Part} {t : Task} {tasks more : List Task} (hstep : t.step p = some (q, more))
    (hready : p.Ready t) (hwork : q.store.work = []) (hpending : q.store.pending = []) (hcalm : q.Calm)
    (hrest : Works n q (more ++ tasks) r) : Works (n + 1) p (t :: tasks) r :=
  .step hstep hready hwork hpending hcalm.react_withWork rfl hrest

/-- The pump carries one owner's work to its end. -/
theorem pump_works {n : Nat} {p q : Part} {tasks : List Task} (h : Works n p tasks q) (owner : Owner) :
    ∀ (begun : Bool) (fuel : Nat), n ≤ fuel → p.store.work = [] → p.store.pending = [] →
      (p.withWork (worksOf owner tasks begun)).pump fuel = q := by
  induction h with
  | done p =>
    intro begun fuel _ hwork hpending
    have hnone : p.withWork (worksOf owner [] begun) = p := withWork_nil hwork
    rw [hnone, pump_rest hwork hpending]
  | step hstep hready hwork hpending hreact hsame hrest ih =>
    intro begun fuel hfuel hpwork hppending
    obtain ⟨fuel, rfl⟩ : ∃ f, fuel = f + 1 := ⟨fuel - 1, by omega⟩
    rw [pump_step hppending hpwork hstep hwork hready, hreact]
    exact ih true fuel (by omega) (by rw [hsame, hwork]) (by rw [hsame, hpending])

end Part

/-- A command after whose rules one owner's work alone is left, which goes on to its end. -/
theorem event_pumps {s : State} {f : Part → Part} {p after q : Part} {owner : Owner} {tasks : List Task} {n : Nat}
    (hf : (f s.part).reactIdle s.part = p) (hs : (f s.part).phase = .serving)
    (hrules : p.react = after.withWork (worksOf owner tasks false)) (hwork : after.store.work = [])
    (hpending : after.store.pending = []) (h : after.Works n tasks q) (hn : n ≤ 4096) :
    event s f = .next { s with part := (q.journalLow s.part).alert } := by
  have hfollow : (f s.part).follow s.part = q := by
    have hphase : p.react.phase = .serving := by
      rw [← hf]
      simpa using hs
    unfold Part.follow
    rw [hs]
    dsimp only
    rw [hf, Part.goOn_serving hphase, hrules]
    exact Part.pump_works h owner false 4096 hn hwork hpending
  unfold event Part.command
  rw [hfollow]

/-- A command whose effect hands one owner work, which goes on to its end after the rules that follow the effect. -/
theorem event_works {s : State} {f : Part → Part} {p after q : Part} {owner : Owner} {tasks : List Task} {n : Nat}
    (hf : f s.part = p.assign owner tasks) (hs : p.phase = .serving) (hwork : p.store.work = []) (hpending : p.store.pending = [])
    (htasks : tasks ≠ []) (hidle : (p.assign owner tasks).reactIdle s.part = p.assign owner tasks)
    (hreact : ∀ work, (p.withWork work).react = after.withWork work) (hsame : after.store = p.store)
    (h : after.Works n tasks q) (hn : n ≤ 4096) : event s f = .next { s with part := (q.journalLow s.part).alert } := by
  have hworks : p.assign owner tasks = p.withWork (worksOf owner tasks false) := by
    cases tasks with
    | nil => exact absurd rfl htasks
    | cons t ts => exact Part.assign_alone hwork owner (t :: ts)
  exact event_pumps (p := p.assign owner tasks) (by rw [hf, hidle]) (by rw [hf, hworks]; exact hs) (by rw [hworks, hreact])
    (by rw [hsame, hwork]) (by rw [hsame, hpending]) h hn

end Sys2Proof.Machine
end


section
/-! Proofs about a feed under PERMIT, and what it asks for when the next sheet has no headroom (R8, R9, R29 to R31, R94). -/

-- One theorem after another: many small theorems elaborated at once need more threads than the check allows.
set_option Elab.async false

namespace Sys2Proof.Machine

open Sys2Proof

namespace Part

/-- PERMIT at rest says that the conditions of R30 hold. -/
theorem AtRest.permitted {p : Part} (h : p.AtRest) (hpermit : p.permit = true) :
    p.config.outcome ≠ .bad ∧ p.job.state = .running ∧ p.path.jammed = false ∧ p.path.sheets.length < 6 ∧
      p.job.assigned < p.job.positions := by
  obtain ⟨-, -, -, -, -, -, hholds, -⟩ := h
  replace hholds := hholds.symm.trans hpermit
  simp only [permitHolds, outOfService, Config.pathPlaces, Bool.and_eq_true, Bool.not_eq_true', decide_eq_true_eq,
    decide_eq_false_iff_not] at hholds
  obtain ⟨⟨⟨⟨⟨⟨-, hservice⟩, hrun⟩, hclear⟩, hplace⟩, hleft⟩, -⟩ := hholds
  exact ⟨hservice, hrun, hclear, of_decide_eq_true hplace, hleft⟩

/-- What a feed under PERMIT makes of the job and the list (R8, R29, R50). -/
def fedPermitted (p : Part) (media : Nat) (c : Colour) (twoSided : Bool) : Part :=
  let reserve :=
    min (fullReserve p.config.values media c twoSided) (1000 * p.job.amount - p.job.acc.gross - p.job.acc.reserved)
  { p with
    job :=
      { p.job with
        acc := { p.job.acc with reserved := p.job.acc.reserved + reserve }, assigned := p.job.assigned + 1
        lastActivity := p.now }
    path :=
      { p.path with
        sheets :=
          p.path.sheets ++
            [{ owner := some p.job.number, index := some p.job.assigned, media := media, colour := c, twoSided := twoSided
               reserve := reserve, stage := .fed, deadline := p.now + p.config.values.w1 }] } }

theorem feed_permitted {p : Part} (h : p.AtRest) (hpermit : p.permit = true) (hdoor : p.path.doorOpen = false) (media : Nat)
    (c : Colour) (twoSided : Bool) : p.feed media c twoSided = p.fedPermitted media c twoSided := by
  obtain ⟨-, hrun, hclear, hplace, hleft⟩ := h.permitted hpermit
  have howns : p.job.state.ownsFeeds = true := by rw [hrun]; rfl
  have hcount : p.countFeed = p := by
    unfold countFeed
    rw [if_pos hpermit, hrun]
    rfl
  have hbase : p.fedBase = p.touchActivity := by
    unfold fedBase
    rw [if_pos (by simp [hclear, howns]), hcount]
  rw [feed_eq, hbase]
  have hpath : p.touchActivity.path = p.path := rfl
  have hstate : p.touchActivity.job.state = p.job.state := rfl
  rw [hpath, hstate, if_neg (by simp [hclear]), if_neg (by simp [hdoor]), if_neg (by simpa [Config.pathPlaces] using hplace),
    if_pos howns]
  have hindexed : (decide (p.touchActivity.job.state = .running) &&
      decide (p.touchActivity.job.assigned < p.touchActivity.job.positions)) = true := by
    simp only [Bool.and_eq_true, decide_eq_true_eq]
    exact ⟨hrun, hleft⟩
  unfold trackOwned
  simp only [hindexed, if_true]
  rfl

/-- The headroom left after a feed under PERMIT (R9). -/
theorem fedPermitted_headroom (p : Part) (media : Nat) (c : Colour) (twoSided : Bool) :
    (p.fedPermitted media c twoSided).job.headroom =
      decide (p.job.acc.gross +
        (p.job.acc.reserved + min (fullReserve p.config.values media c twoSided)
          (1000 * p.job.amount - p.job.acc.gross - p.job.acc.reserved)) + p.job.planReserve ≤ 1000 * p.job.amount) :=
  rfl

theorem fedPermitted_permitHolds {p : Part} (h : p.AtRest) (hpermit : p.permit = true) (media : Nat) (c : Colour)
    (twoSided : Bool) :
    (p.fedPermitted media c twoSided).permitHolds =
      (decide (p.path.sheets.length + 1 < 6) && decide (p.job.assigned + 1 < p.job.positions) &&
        (p.fedPermitted media c twoSided).job.headroom) := by
  obtain ⟨hservice, hrun, hclear, -, -⟩ := h.permitted hpermit
  have hserving : (p.fedPermitted media c twoSided).serving = true := by simp [Part.serving, fedPermitted, h.1]
  have hout : (p.fedPermitted media c twoSided).outOfService = false := by simp [outOfService, fedPermitted, hservice]
  have hstate : (p.fedPermitted media c twoSided).job.state = .running := hrun
  have hjam : (p.fedPermitted media c twoSided).path.jammed = false := hclear
  have hlength : (p.fedPermitted media c twoSided).path.sheets.length = p.path.sheets.length + 1 := by simp [fedPermitted]
  have hassigned : (p.fedPermitted media c twoSided).job.assigned = p.job.assigned + 1 := rfl
  have hpositions : (p.fedPermitted media c twoSided).job.positions = p.job.positions := rfl
  unfold permitHolds
  rw [hserving, hout, hstate, hjam, hlength, hassigned, hpositions]
  rfl

/-- With a sheet in the list no run-out wait stands (R35). -/
theorem reactRunOut_sheets {p : Part} (h : p.path.sheets ≠ []) :
    p.reactRunOut = { p with job := { p.job with runOutDue := none } } := if_neg (by simp [runOutHolds, h])

/-- The rules that follow a feed under PERMIT (R30, R31, R35). -/
theorem react_fedPermitted {p : Part} (h : p.AtRest) (hpermit : p.permit = true) (media : Nat) (c : Colour) (twoSided : Bool) :
    (p.fedPermitted media c twoSided).react =
      { (p.fedPermitted media c twoSided).reactFunds with
        job := { (p.fedPermitted media c twoSided).reactFunds.job with runOutDue := none }
        permit := (p.fedPermitted media c twoSided).permitHolds } := by
  obtain ⟨-, hrun, -⟩ := h.permitted hpermit
  have hpath : (p.fedPermitted media c twoSided).reactFunds.path = (p.fedPermitted media c twoSided).path := by simp
  rw [react_running (p := p.fedPermitted media c twoSided) h.1 hrun, reactRunOut_sheets (by rw [hpath]; simp [fedPermitted])]

theorem reactIdle_fedPermitted (p before : Part) (media : Nat) (c : Colour) (twoSided : Bool) :
    (p.fedPermitted media c twoSided).reactIdle before = p.fedPermitted media c twoSided :=
  reactIdle_sheets (by simp [fedPermitted])

end Part

/-- A feed under PERMIT that hands out no work is the sheet joined and the rules that follow it. -/
theorem exec_fedPermitted {s : State} (h : s.part.AtRest) (hpermit : s.part.permit = true) (hdoor : s.part.path.doorOpen = false)
    {media colour sides : Nat} (hm : media ≤ 7) (hc : colour ≤ 1) (hsides : sides = 1 ∨ sides = 2)
    {c : Colour} (hcolour : (if colour = 0 then .mono else .colour) = c) {twoSided : Bool} (htwo : decide (sides = 2) = twoSided)
    {q : Part} (hq : (s.part.fedPermitted media c twoSided).reactFunds = q) (hwork : q.store.work = []) :
    exec (.sheetFed media colour sides) s =
      .next
        { s with
          part :=
            ({ q with
                job := { q.job with runOutDue := none }
                permit := (s.part.fedPermitted media c twoSided).permitHolds } : Part).alert } := by
  obtain ⟨f, hexec, heffect⟩ := exec_sheetFed h.1 hm hc hsides
  rw [hcolour, htwo, Part.feed_permitted h hpermit hdoor] at heffect
  have hreact := Part.react_fedPermitted h hpermit media c twoSided
  rw [hq] at hreact
  have hfree : (s.part.fedPermitted media c twoSided).react.freeSlots = s.part.freeSlots :=
    Part.freeSlots_congr (by simp [Part.fedPermitted])
  rw [hexec]
  unfold event
  rw [Part.command_noWork heffect h.1 (Part.reactIdle_fedPermitted ..) rfl (by rw [hreact]; exact hwork)
    (by simpa [Part.fedPermitted] using h.2.2.1), Part.journalLow_same hfree, hreact]

namespace Part

/-- A FED sheet asks for nothing while its next is funded, no position is left, no place is free, or more is asked for or refused (R31). -/
theorem reactFunds_fedPermitted {p : Part} {media : Nat} {c : Colour} {twoSided : Bool}
    (h : p.path.sheets.length + 1 = 6 ∨ p.job.assigned + 1 = p.job.positions ∨
      (p.fedPermitted media c twoSided).job.headroom = true ∨ p.job.topupOutstanding = true ∨ p.job.exhausted.isSome = true) :
    (p.fedPermitted media c twoSided).reactFunds = p.fedPermitted media c twoSided := by
  have hlength : (p.fedPermitted media c twoSided).path.sheets.length = p.path.sheets.length + 1 := by simp [fedPermitted]
  have hassigned : (p.fedPermitted media c twoSided).job.assigned = p.job.assigned + 1 := rfl
  have hpositions : (p.fedPermitted media c twoSided).job.positions = p.job.positions := rfl
  refine reactFunds_same fun hout => ?_
  simp only [outOfFunds, hlength, hassigned, hpositions, Config.pathPlaces, Bool.and_eq_true, decide_eq_true_eq,
    Bool.not_eq_true'] at hout
  obtain ⟨⟨⟨-, hplace⟩, hleft⟩, hroom⟩ := hout
  rcases h with hfull | hlast | hhead | hasked
  · omega
  · omega
  · simp [hhead] at hroom
  · exact hasked

/-- A FED sheet after which nothing is left for the next makes the job act on it once (R31). -/
theorem reactFunds_fedPermitted_short {p : Part} (h : p.AtRest) (hpermit : p.permit = true) {media : Nat} {c : Colour}
    {twoSided : Bool} (hplace : p.path.sheets.length + 1 < 6) (hleft : p.job.assigned + 1 < p.job.positions)
    (hroom : (p.fedPermitted media c twoSided).job.headroom = false) (htopup : p.job.topupOutstanding = false)
    (hexhausted : p.job.exhausted = none) :
    (p.fedPermitted media c twoSided).reactFunds =
      if p.job.accountFunded && decide (p.job.amount < 100000) then
        if p.job.funding = some .accountRemote then (p.fedPermitted media c twoSided).topupAttempt
        else (p.fedPermitted media c twoSided).topupLocal
      else (p.fedPermitted media c twoSided).exhaust .funds := by
  obtain ⟨-, hrun, hclear, -, -⟩ := h.permitted hpermit
  have hstate : (p.fedPermitted media c twoSided).job.state = .running := hrun
  have hjam : (p.fedPermitted media c twoSided).path.jammed = false := hclear
  have hlength : (p.fedPermitted media c twoSided).path.sheets.length = p.path.sheets.length + 1 := by simp [fedPermitted]
  have hassigned : (p.fedPermitted media c twoSided).job.assigned = p.job.assigned + 1 := rfl
  have hpositions : (p.fedPermitted media c twoSided).job.positions = p.job.positions := rfl
  have hout : (p.fedPermitted media c twoSided).outOfFunds = true := by
    simp [outOfFunds, hstate, hjam, hlength, hassigned, hpositions, hroom, hleft, Config.pathPlaces, hplace]
  have htopup' : (p.fedPermitted media c twoSided).job.topupOutstanding = false := htopup
  have hexhausted' : (p.fedPermitted media c twoSided).job.exhausted = none := hexhausted
  unfold reactFunds
  rw [if_pos (by simp [hout, htopup', hexhausted'])]
  rfl

/-- Whether a frame is refused, and what queueing it makes of the line, rest on the line and the station alone (R146). -/
theorem enqueue_congr {p q : Part} (hline : q.line = p.line) (hconfig : q.config = p.config) (dest : Nat) (m : Message) :
    q.refusesFrame dest = p.refusesFrame dest ∧ (q.sendFrame dest m).line = (p.sendFrame dest m).line := by
  have hrefuses : q.refusesFrame dest = p.refusesFrame dest := by
    unfold refusesFrame Part.station
    rw [hline, hconfig]
  refine ⟨hrefuses, ?_⟩
  unfold sendFrame enqueue
  rw [hrefuses, hline]
  split
  · exact hline
  · rfl

/-- A frame handed over: the line takes it, and its ticket is the next one unless it is refused (R146). -/
theorem enqueue_eq (p : Part) (dest : Nat) (m : Message) :
    p.enqueue dest m =
      ({ p with line := (p.sendFrame dest m).line },
        if p.refusesFrame dest then none else some p.line.nextTicket) := by
  unfold sendFrame enqueue
  split <;> rfl

/-- A top-up attempt for a remote home (R31). -/
theorem topupAttempt_eq (p : Part) :
    p.topupAttempt =
      { p with
        job :=
          { p.job with
            topupOutstanding := true, topupAttempts := p.job.topupAttempts + 1, topupDue := some (p.now + 400)
            topupFrame := if p.refusesFrame (p.job.home.getD 0) then none else some p.line.nextTicket }
        line :=
          (p.sendFrame (p.job.home.getD 0)
            (.holdMore (p.job.holdId.getD 0) p.job.number (min p.config.values.holdStep (100000 - p.job.amount)))).line } := by
  unfold topupAttempt
  rw [enqueue_eq]
  rfl

/-- With the next sheet's funds gone, PERMIT is released (R30). -/
theorem fedPermitted_released {p : Part} (h : p.AtRest) (hpermit : p.permit = true) {media : Nat} {c : Colour} {twoSided : Bool}
    (hroom : (p.fedPermitted media c twoSided).job.headroom = false) :
    (p.fedPermitted media c twoSided).permitHolds = false := by
  rw [fedPermitted_permitHolds h hpermit, hroom, Bool.and_false]

end Part

/-! ### More for a hold of the own table (R94, R102) -/

/-- What a change of one hold record makes of the held amounts (R86). -/
def heldChange (held : Table Nat) (old new : Option HoldRecord) : Table Nat :=
  let left := old.elim held fun r => countSet held r.account (countGet held r.account - activeAmount r)
  new.elim left fun r => countSet left r.account (countGet left r.account + activeAmount r)

theorem countGet_heldChange {held : Table Nat} (h : Rising held) (old new : Option HoldRecord) (account : Nat) :
    countGet (heldChange held old new) account = countGet held account - optionShare account old + optionShare account new := by
  have left (old : Option HoldRecord) :
      let t := old.elim held fun r => countSet held r.account (countGet held r.account - activeAmount r)
      Rising t ∧ countGet t account = countGet held account - optionShare account old := by
    cases old with
    | none => exact ⟨h, rfl⟩
    | some r =>
      refine ⟨h.countSet _ _, ?_⟩
      simp only [Option.elim_some, countGet_countSet h, optionShare, holdShare]
      split
      · next ha => rw [ha]
      · rfl
  obtain ⟨hrising, hleft⟩ := left old
  unfold heldChange
  cases new with
  | none => exact hleft
  | some r =>
    simp only [Option.elim_some, countGet_countSet hrising, optionShare, holdShare]
    split
    · next ha => rw [ha, hleft]; rfl
    · exact hleft

namespace Part

/-- A request for more of an ACTIVE record that is granted is one post, with the grant's answer for its write-done (R94). -/
theorem takeMore_granted {p : Part} {source holdId job increment slot : Nat} {r : HoldRecord} (hjob : job ≠ 0)
    (hown : ownHold p.ledger source holdId job = some (slot, r)) (hstate : r.state = .active)
    (hblocked : p.isBlocked r.account = false)
    (hmin : p.config.values.minGrant ≤ min (min increment (p.availableOf r.account)) (100000 - r.amount)) :
    p.takeMore source holdId job increment =
      (p,
        [.putHold slot
            { r with
              amount := r.amount + min (min increment (p.availableOf r.account)) (100000 - r.amount), touched := p.seconds }
            [.grant source slot r.id r.job]]) := by
  unfold takeMore
  rw [if_neg hjob, hown]
  dsimp only
  split
  · unfold decideMore
    dsimp only
    rw [if_neg (by simp [hblocked])]
    exact if_neg (Nat.not_lt.mpr hmin)
  · next hs => cases hstate.symm.trans hs
  · next hs => cases hstate.symm.trans hs

theorem rehold_unhold (p : Part) (old new : Option HoldRecord) :
    (p.unhold old).rehold new = { p with accounts := { p.accounts with held := heldChange p.accounts.held old new } } := by
  cases old <;> cases new <;> rfl

/-- A change of a hold record that finds a place is one post at the tail (R86, R162). -/
theorem changeHold_joins {p : Part} (hplace : p.store.queue.length < 8) (slot : Nat) (value : Option HoldRecord)
    (notes : List Note) :
    p.changeHold slot value notes =
      some
        { p.joined [{ write := .hold slot value, notes := notes }] with
          accounts := { p.accounts with held := heldChange p.accounts.held (tableGet p.ledger.holds slot) value } } := by
  have hfree : p.store.hasPlace (.hold slot value) = true := by simp [Store.hasPlace, Config.queuePlaces, hplace]
  have hpost : p.store.post (.hold slot value) notes =
      { p.store with queue := p.store.queue ++ [{ write := .hold slot value, notes := notes }] } :=
    if_neg (by simp [Store.merges, coalesces])
  unfold changeHold tryPost
  rw [if_pos hfree, Option.map_some, rehold_unhold, hpost]
  rfl

/-- A part with a post of a hold record at its tail has the journal's free count that it had (R173). -/
theorem freeSlots_joined_hold {p : Part} (hpending : p.store.pending = []) (slot : Nat) (value : Option HoldRecord)
    (notes : List Note) : (p.joined [{ write := .hold slot value, notes := notes }]).freeSlots = p.freeSlots := by
  unfold freeSlots
  rw [newestFree_joined hpending]
  rfl

end Part

/-- An ACTIVE record that grows by a grant adds the grant to its account's held amount (R86). -/
theorem optionShare_grown {r : HoldRecord} (hstate : r.state = .active) (grant touched account : Nat) (held : Nat)
    (hle : r.account = account → r.amount ≤ held) :
    held - optionShare account (some r) +
        optionShare account (some { r with amount := r.amount + grant, touched := touched }) =
      held + if account = r.account then grant else 0 := by
  simp only [optionShare, Option.elim_some, holdShare, activeAmount, hstate, if_true]
  by_cases ha : r.account = account
  · have := hle ha
    rw [if_pos ha, if_pos ha, if_pos ha.symm]
    omega
  · rw [if_neg ha, if_neg ha, if_neg (Ne.symm ha)]
    omega

/-- Settles O36: the feed joins the list, and the job acts on the headroom that is left, by what funds it. -/
theorem permittedFeedTakesItsReserve : Obligations.PermittedFeedTakesItsReserve := by
  refine ⟨?funded, ?short⟩
  case funded =>
    intro s media colour sides h hpermit hdoor hm hc hsides j ink reserve headroom hfunds
    have hsame := Part.reactFunds_fedPermitted (p := s.part) (media := media) (c := ink) (twoSided := decide (sides = 2))
      (.inr (hfunds.imp id .inl))
    rw [exec_fedPermitted h hpermit hdoor hm hc hsides rfl rfl hsame h.2.1, Part.fedPermitted_permitHolds h hpermit]
    rfl
  case short =>
    intro s media colour sides h hpermit hdoor hm hc hsides j v ink reserve increment fed becomes hleft hshort
    have hroom : (s.part.fedPermitted media ink (decide (sides = 2))).job.headroom = false :=
      decide_eq_false (Nat.not_le.mpr hshort)
    have hreleased := Part.fedPermitted_released h hpermit hroom
    refine ⟨fun hasked => ?same, fun hplace htopup hexhausted => ⟨fun hfunding => ?exhausts, fun home hhome hfunding hamount => ?remote,
      fun slot r hown hfunding hamount hnumber hactive => ?own⟩⟩
    case same =>
      have hsame := Part.reactFunds_fedPermitted (p := s.part) (media := media) (c := ink) (twoSided := decide (sides = 2))
        (hasked.imp id fun ha => .inr (.inr ha))
      show exec _ _ = _
      rw [exec_fedPermitted h hpermit hdoor hm hc hsides rfl rfl hsame h.2.1, hreleased]
      rfl
    case exhausts =>
      have hacts := Part.reactFunds_fedPermitted_short h hpermit hplace hleft hroom htopup hexhausted
      have hnot : ¬(s.part.job.accountFunded && decide (s.part.job.amount < 100000)) = true := by
        rcases hfunding with hf | hf | hf
        · have : s.part.job.funding = some .value := hf
          simp [Job.accountFunded, this]
        · have : s.part.job.funding = some .float := hf
          simp [Job.accountFunded, this]
        · have : ¬s.part.job.amount < 100000 := Nat.not_lt.mpr hf
          simp [this]
      rw [if_neg hnot] at hacts
      show exec _ _ = _
      rw [exec_fedPermitted h hpermit hdoor hm hc hsides rfl rfl hacts h.2.1, hreleased]
      rfl
    case remote =>
      have hacts := Part.reactFunds_fedPermitted_short h hpermit hplace hleft hroom htopup hexhausted
      have hf : s.part.job.funding = some .accountRemote := hfunding
      have ha : s.part.job.amount < 100000 := hamount
      have hh : (s.part.fedPermitted media ink (decide (sides = 2))).job.home.getD 0 = home := by
        show s.part.job.home.getD 0 = home
        have : s.part.job.home = some home := hhome
        rw [this]
        rfl
      rw [if_pos (by simp [Job.accountFunded, hf, ha]), if_pos hf, Part.topupAttempt_eq, hh] at hacts
      obtain ⟨hrefuses, hline⟩ := Part.enqueue_congr (p := s.part) (q := s.part.fedPermitted media ink (decide (sides = 2))) rfl rfl
        home (.holdMore (j.holdId.getD 0) j.number increment)
      rw [hrefuses] at hacts
      show exec _ _ = _
      rw [exec_fedPermitted h hpermit hdoor hm hc hsides rfl rfl hacts h.2.1, hreleased]
      rw [← hline]
      rfl
    case own =>
      intro grant hblocked hmin hqueue
      have hf : s.part.job.funding = some .accountLocal := hfunding
      have ha : s.part.job.amount < 100000 := hamount
      have hacts := Part.reactFunds_fedPermitted_short h hpermit hplace hleft hroom htopup hexhausted
      rw [if_pos (by simp [Job.accountFunded, hf, ha]), if_neg (by simp [hf])] at hacts
      obtain ⟨hs, hwork, hpending, -⟩ := id h
      obtain ⟨-, hrun, -⟩ := h.permitted hpermit
      obtain ⟨f, hexec, heffect⟩ := exec_sheetFed hs hm hc hsides
      rw [Part.feed_permitted h hpermit hdoor] at heffect
      let asked : Part := { fed with job := { fed.job with topupOutstanding := true } }
      let task : Task := .more v.station (j.holdId.getD 0) j.number increment
      have hcalm : asked.Calm := by
        refine ⟨hs, fun hd => ?_, fun _ => .inl rfl, ?_, ?_⟩
        · exact absurd (hrun.symm.trans hd.1) (by decide)
        · have hsheets : asked.path.sheets ≠ [] := by simp [asked, fed]
          simp [Part.runOutHolds, hsheets, asked, fed]
        · exact hreleased.symm
      have hrules : (s.part.fedPermitted media ink (decide (sides = 2))).react = asked.withWork (worksOf .hold [task] false) := by
        rw [Part.react_fedPermitted h hpermit, hacts, hreleased]
        unfold Part.topupLocal
        rw [Part.assign_alone (by exact hwork)]
        rfl
      have htake := Part.takeMore_granted (p := asked) (increment := increment) hnumber hown hactive hblocked hmin
      have hchange := Part.changeHold_joins (p := asked) (by show s.part.store.queue.length < 8; simp [hqueue]) slot
        (some { r with amount := r.amount + grant, touched := s.part.now / 1000 }) [.grant v.station slot r.id r.job]
      let done : Part :=
        { asked.joined
            [{ write := .hold slot (some { r with amount := r.amount + grant, touched := s.part.now / 1000 })
               notes := [.grant v.station slot r.id r.job] }] with
          accounts :=
            { asked.accounts with
              held :=
                heldChange asked.accounts.held (tableGet asked.ledger.holds slot)
                  (some { r with amount := r.amount + grant, touched := s.part.now / 1000 }) } }
      have hworks : asked.Works 2 [task] done := by
        have hready (t : Task) : asked.Ready t := .inl (by show s.part.store.queue.length < 8; simp [hqueue])
        refine .calm (congrArg some htake) (hready _) hwork hpending hcalm ?_
        refine .calm (q := done) (more := []) ?_ (hready _) hwork hpending (hcalm.same ⟨rfl, rfl, rfl, rfl, rfl⟩) (.done _)
        exact congrArg (Option.map fun q => (q, [])) hchange
      have hfree : done.freeSlots = s.part.freeSlots :=
        (Part.freeSlots_congr ⟨rfl, rfl, rfl, rfl⟩).trans (Part.freeSlots_joined_hold (p := s.part) hpending _ _ _)
      have hrun' := event_pumps (s := s) (f := f) (by rw [heffect]; exact Part.reactIdle_fedPermitted ..) (by rw [heffect]; exact hs)
        hrules hwork hpending hworks (by decide)
      rw [Part.journalLow_same hfree] at hrun'
      refine ⟨_, hexec.trans hrun', ?_, fun hslot hle hrising n => ?_⟩
      · simp only [done, Part.joined, asked, fed, hqueue]
        rfl
      · have hheld := countGet_heldChange (held := asked.accounts.held) hrising (tableGet asked.ledger.holds slot)
          (some { r with amount := r.amount + grant, touched := s.part.now / 1000 }) n
        have hsame : tableGet asked.ledger.holds slot = some r := hslot
        rw [hsame] at hheld
        show countGet done.accounts.held n = countGet s.part.accounts.held n + _
        simp only [done, hsame]
        exact hheld.trans (optionShare_grown hactive grant _ n _ fun hn => by rw [← hn]; exact hle)

end Sys2Proof.Machine
end


section
/-! Proofs about deliveries (R11, R29, R35, R54), and the jam of a sheet whose meter stands twice in the queue (R58, R162). -/

-- One theorem after another: many small theorems elaborated at once need more threads than the check allows.
set_option Elab.async false

namespace Sys2Proof.Machine

open Sys2Proof

/-! ### The rules that follow an event that hands out no work -/

namespace Part

/-- With no drain to end, and nothing to ask for, the rules that follow an event decide the run-out wait and PERMIT (R30, R35). -/
theorem react_funds_same {p : Part} (hs : p.phase = .serving) (hdrain : p.job.state = .draining → p.path.sheets ≠ [])
    (hfunds : p.outOfFunds = true → p.job.topupOutstanding = true ∨ p.job.exhausted.isSome = true) :
    p.react =
      { p with
        job :=
          { p.job with
            runOutDue := if p.runOutHolds then some (p.job.runOutDue.getD (p.now + p.config.values.w1)) else none }
        permit := p.permitHolds } := by
  have hd : p.reactDrain = p := if_neg (by simpa using hdrain)
  unfold react
  rw [if_pos (by simp [Part.serving, hs]), hd, reactFunds_same hfunds, reactRunOut_eq]
  rfl

/-- Posts of records that the journal's free count does not read leave it as it was (R173). -/
theorem freeSlots_joined {p : Part} (hpending : p.store.pending = []) (posts : List Post)
    (h : ∀ post ∈ posts, ∀ l, (program l post.write).journalSequence = l.journalSequence ∧
      (program l post.write).releaseMark = l.releaseMark) : (p.joined posts).freeSlots = p.freeSlots := by
  induction posts generalizing p with
  | nil => rw [joined_nil]
  | cons post posts ih =>
    have hone : (p.joined [post]).freeSlots = p.freeSlots := by
      obtain ⟨hsequence, hmark⟩ := h post (by simp) p.ledger
      unfold freeSlots journalFree
      rw [newestFree_joined hpending, hsequence, hmark]
      rfl
    have hall : p.joined (post :: posts) = (p.joined [post]).joined posts := (joined_joined p [post] posts).symm
    rw [hall, ih (p := p.joined [post]) hpending fun q hq => h q (by simp [hq]), hone]

end Part

/-- A command that hands out no work, before and after the rules that follow it. -/
theorem event_noWork {s : State} {f : Part → Part} {q r : Part} (hf : f s.part = q) (hs : q.phase = .serving)
    (hidle : q.reactIdle s.part = q) (hreact : q.react = r) (hwork : r.store.work = []) (hpending : r.store.pending = [])
    (hfree : s.part.freeSlots ≤ r.freeSlots) : event s f = .next { s with part := r.alert } := by
  unfold event
  rw [Part.command_noWork hf hs hidle hreact hwork hpending, Part.journalLow_of_le hfree]

/-! ### Deliveries (R11, R29, R54) -/

namespace Part

/-- The job after one of its sheets is delivered, or any other (R11, R29). -/
def deliveredJob (p : Part) (sheet : Sheet) : Job :=
  if sheet.owner = some p.job.number then
    { p.job with
      acc := chargeSheet p.config.values p.job.acc sheet
      position := if sheet.index.isSome then p.job.position + 1 else p.job.position
      consecutiveJams := if sheet.index.isSome then 0 else p.job.consecutiveJams
      lastActivity := p.now }
  else p.job

/-- The posts of a delivery: the checkpoint of the job's sheet, and the meter of its impressions (R11, R168, R178). -/
def deliveryPosts (p : Part) (sheet : Sheet) : List Post :=
  (if sheet.owner = some p.job.number then
      (p.deliveredJob sheet).checkpoint.toList.map (fun c => { write := .checkpoint (some c), notes := [] })
    else []) ++
    [p.meterPost (2 * sheet.media + (if sheet.colour = .mono then 0 else 1)) (if sheet.twoSided then 2 else 1)]

theorem postCheckpoint_joins {p : Part} (hqueue : p.store.queue = []) :
    p.postCheckpoint = p.joined (p.job.checkpoint.toList.map fun c => { write := .checkpoint (some c), notes := [] }) := by
  unfold postCheckpoint
  cases p.job.checkpoint with
  | none => simp
  | some c =>
    have hjoins := Store.postRunning_joins (s := p.store) (w := .checkpoint (some c)) (by simp [hqueue]) (by simp [hqueue])
    exact congrArg (fun store => { p with store := store }) hjoins

/-- A checkpoint in the queue leaves the meters as they were (R163). -/
theorem meterPost_checkpoint {p : Part} (hpending : p.store.pending = []) (c : Option Checkpoint) (index count : Nat) :
    (p.joined (c.toList.map fun c => { write := .checkpoint (some c), notes := [] })).meterPost index count =
      p.meterPost index count := by
  cases c with
  | none => simp
  | some c =>
    unfold meterPost
    have hledger := newestFree_joined hpending { write := .checkpoint (some c), notes := [] }
    simp only [Option.toList_some, List.map_cons, List.map_nil, hledger]
    rfl

theorem jobDelivery_eq (p : Part) (sheet : Sheet) (h : sheet.owner = some p.job.number) :
    p.jobDelivery sheet = ({ p with job := p.deliveredJob sheet } : Part).postCheckpoint := by
  unfold jobDelivery deliveredJob
  rw [if_pos h]
  cases sheet.index <;> rfl

/-- SENSOR_OFF(EXIT) takes the sheet at EXIT off the head of the list, charges it, and posts (R11, R54). -/
theorem sensorOff_delivers {p : Part} (h : p.AtRest) (hclear : p.path.jammed = false) (hqueue : p.store.queue = []) {sheet : Sheet}
    {behind : List Sheet} (hsheets : p.path.sheets = sheet :: behind) (hstage : sheet.stage = .atExit) :
    p.sensorOff .exit =
      ({ p with job := p.deliveredJob sheet, path := { p.path.cover .exit false with sheets := behind } } : Part).joined
        (p.deliveryPosts sheet) := by
  obtain ⟨-, -, hpending, -⟩ := id h
  obtain ⟨hjam, hsame, -, -⟩ := p.path.cover_frame .exit false
  have hat : sheet.isAt .atExit = true := by simp [Sheet.isAt, hstage]
  let q : Part := { p with path := { p.path.cover .exit false with sheets := behind } }
  have hdeliver : p.sensorOff .exit =
      (if q.owns sheet then q.jobDelivery sheet else q).raiseMeter (2 * sheet.media + colourBit sheet.colour)
        (sheetImpressions sheet.twoSided) := by
    unfold sensorOff
    dsimp only
    rw [if_neg (by show ¬(p.path.cover .exit false).jammed = true; rw [hjam]; simp [hclear])]
    unfold matchOff deliver
    have hlist : (p.withPath (p.path.cover .exit false)).path.sheets = sheet :: behind := hsame.trans hsheets
    have hfind : (sheet :: behind).find? (fun x => x.isAt .atExit) = some sheet := List.find?_cons_of_pos hat
    have herase : (sheet :: behind).eraseP (fun x => x.isAt .atExit) = behind := List.eraseP_cons_of_pos hat
    rw [hlist, hfind, herase]
    rfl
  have hcolour : colourBit sheet.colour = if sheet.colour = .mono then 0 else 1 := by cases sheet.colour <;> rfl
  have hcount : sheetImpressions sheet.twoSided = if sheet.twoSided then 2 else 1 := by cases sheet.twoSided <;> rfl
  rw [hdeliver, hcolour, hcount]
  unfold deliveryPosts
  by_cases hown : sheet.owner = some p.job.number
  · have howns : q.owns sheet = true := decide_eq_true hown
    rw [if_pos howns, jobDelivery_eq q sheet hown, postCheckpoint_joins (p := { q with job := q.deliveredJob sheet }) hqueue,
      if_pos hown]
    have hmeter := meterPost_checkpoint (p := { q with job := q.deliveredJob sheet }) hpending (q.deliveredJob sheet).checkpoint
      (2 * sheet.media + (if sheet.colour = .mono then 0 else 1)) (if sheet.twoSided then 2 else 1)
    rw [raiseMeter_joins, joined_joined, hmeter]
    · rfl
    · cases (q.deliveredJob sheet).checkpoint <;> simp [joined, q, hqueue]
    · cases (q.deliveredJob sheet).checkpoint <;> simp [joined, q, hqueue, Write.name]
  · have howns : ¬q.owns sheet = true := by simpa [owns] using hown
    rw [if_neg howns, if_neg hown, raiseMeter_joins (by simp [q, hqueue]) (by simp [q, hqueue])]
    unfold deliveredJob
    rw [if_neg hown]
    rfl

end Part

/-- Settles O41: the delivery charges the job's own sheet, and leaves the rules that follow the run-out wait and PERMIT to decide. -/
theorem deliveryChargesTheSheet : Obligations.DeliveryChargesTheSheet := by
  intro s sheet behind h hclear hqueue hsheets hstage htimeout j own index meter charged hstates hdraining hfunds hidle
  obtain ⟨hs, hwork, hpending, -⟩ := id h
  have hcharged : charged = s.part.deliveredJob sheet := rfl
  let q : Part :=
    ({ s.part with job := charged, path := { s.part.path.cover .exit false with sheets := behind } } : Part).joined
      (s.part.deliveryPosts sheet)
  have heffect : inService (Part.sensorMessage 2 Part.sensorOff) s.part = q :=
    (inService_serving hs _).trans (Part.sensorOff_delivers h hclear hqueue hsheets hstage)
  have hstate : q.job.state = j.state := by
    show charged.state = _
    simp only [charged]
    split <;> rfl
  obtain ⟨htopup, hexhausted, hdue⟩ : q.job.topupOutstanding = j.topupOutstanding ∧ q.job.exhausted = j.exhausted ∧
      q.job.runOutDue = j.runOutDue := by
    show charged.topupOutstanding = _ ∧ charged.exhausted = _ ∧ charged.runOutDue = _
    simp only [charged]
    split <;> exact ⟨rfl, rfl, rfl⟩
  have hsheetsq : q.path.sheets = behind := rfl
  have hjam : q.path.jammed = false := (PathMonitor.cover_frame _ .exit false).1.trans hclear
  have hnone : j.runOutDue = none := by
    obtain ⟨-, -, -, -, -, hrun, -⟩ := h
    have hnot : s.part.runOutHolds = false := by simp [Part.runOutHolds, hsheets]
    rw [hnot] at hrun
    simpa using hrun.symm
  have hidle' : q.reactIdle s.part = q := by
    by_cases hown : own
    · refine Part.reactIdle_touched ?_
      have hlast : q.job.lastActivity = s.part.now := by
        show charged.lastActivity = _
        simp only [charged, if_pos hown]
      rw [hlast]
      show s.part.now - s.part.now < s.part.config.values.idleTimeout * 1000
      omega
    · have hlast : q.job.lastActivity = j.lastActivity := by
        show charged.lastActivity = _
        simp only [charged, if_neg hown]
      by_cases hruns : j.state = .ready ∨ j.state = .running ∨ j.state = .paused
      · rcases hidle hown hruns with hleft | hearly
        · exact Part.reactIdle_sheets (by rw [hsheetsq]; exact hleft)
        · exact Part.reactIdle_touched (by rw [hlast]; exact hearly)
      · have hnot : j.state ≠ .ready ∧ j.state ≠ .paused ∧ j.state ≠ .running :=
          ⟨fun hst => hruns (.inl hst), fun hst => hruns (.inr (.inr hst)), fun hst => hruns (.inr (.inl hst))⟩
        exact Part.reactIdle_state (by rw [hstate]; exact hnot.1) (by rw [hstate]; exact hnot.2.1) (by rw [hstate]; exact hnot.2.2)
  have hreact := Part.react_funds_same (p := q) hs (fun hd => by rw [hsheetsq]; exact hdraining (hstate.symm.trans hd)) (by
    intro hout
    rw [htopup, hexhausted]
    simp only [Part.outOfFunds, Bool.and_eq_true, decide_eq_true_eq, Bool.not_eq_true'] at hout
    obtain ⟨⟨⟨⟨hrun, -⟩, -⟩, -⟩, hroom⟩ := hout
    refine (hfunds (hstate.symm.trans hrun)).resolve_left fun hhead => ?_
    have hfalse : charged.headroom = false := hroom
    simp [hfalse] at hhead)
  have hrunout : q.runOutHolds = true ↔ j.state = .running ∧ behind = [] ∧
      (charged.position = charged.positions ∨ (j.exhausted = some .funds ∧ j.topupOutstanding = false)) := by
    unfold Part.runOutHolds
    rw [hstate, hexhausted, htopup, hsheetsq]
    simp only [Bool.and_eq_true, Bool.or_eq_true, decide_eq_true_eq, List.isEmpty_iff, Bool.not_eq_true', and_assoc]
    rfl
  have hpermit : q.permitHolds =
      (decide (j.state = .running) && decide (s.part.config.outcome ≠ .bad) && decide (behind.length < 6) &&
        decide (charged.assigned < charged.positions) && charged.headroom) := by
    have hserving : q.serving = true := decide_eq_true hs
    unfold Part.permitHolds
    rw [hserving, hstate, hjam, hsheetsq]
    have hservice : (!q.outOfService) = decide (s.part.config.outcome ≠ .bad) := by
      show (!decide (s.part.config.outcome = .bad)) = _
      simp
    rw [hservice, Bool.true_and, Bool.not_false, Bool.and_true,
      Bool.and_comm (decide (s.part.config.outcome ≠ .bad)) (decide (j.state = .running))]
    rfl
  have hfree : q.freeSlots = s.part.freeSlots := by
    refine (Part.freeSlots_joined (p := { s.part with job := charged, path := _ }) hpending _ ?_).trans
      (Part.freeSlots_congr ⟨rfl, rfl, rfl, rfl⟩)
    intro post hpost l
    rcases List.mem_append.mp hpost with hp | hp
    · split at hp
      · obtain ⟨c, -, rfl⟩ := List.mem_map.mp hp
        exact ⟨rfl, rfl⟩
      · cases hp
    · obtain rfl := List.mem_singleton.mp hp
      exact ⟨rfl, rfl⟩
  rw [hdue, hnone, hpermit] at hreact
  simp only [hrunout] at hreact
  show event s (inService (Part.sensorMessage 2 Part.sensorOff)) = _
  rw [event_noWork heffect hs hidle' hreact hwork hpending (le_of_eq ((Part.freeSlots_congr ⟨rfl, rfl, rfl, rfl⟩).trans hfree).symm)]
  simp only [q, Part.joined, hqueue, List.nil_append]
  rfl

/-! ### A meter with two waiting posts (R58, R162) -/

/-- A part at rest with a sheet of media 0 in its path, and two waiting posts of that media's spoiled-sheet meter. -/
def twicePosted : Part :=
  { State.reset.part with
    phase := .serving
    path :=
      { sheets :=
          [{ owner := none, index := none, media := 0, colour := .mono, twoSided := false, reserve := 0, stage := .fed
             deadline := 0 }] }
    store :=
      { queue :=
          [{ write := .meter 0 1, notes := [] }, { write := .meter 16 5, notes := [] }, { write := .meter 16 7, notes := [] }] } }

/-- The jam's post of 8 replaces the first of the two waiting posts, and the second, of 7, stays the newest value. -/
theorem twicePosted_jam : countGet (Instr.result .engineMessageGarbled twicePosted).ledger.meters 16 = 7 := by decide +kernel

/-- Refutes O38: the hypotheses allow a queue with two waiting posts of one meter. The post of a spoiled sheet then replaces the first
of them, the second stays the newest value, and the meter does not rise. -/
theorem not_jamSpoilsTheJobsSheets : ¬Obligations.JamSpoilsTheJobsSheets := by
  intro h
  have hrest : twicePosted.AtRest := by decide +kernel
  have hcanonical : twicePosted.Canonical := by decide +kernel
  obtain ⟨t, ht, -, -, -, -, hmeters⟩ := h { pending := [], part := twicePosted } .engineMessageGarbled hrest rfl
    (.inr (.inl rfl)) (fun hst => absurd hst (by decide)) hcanonical
  have hmeter := hmeters 16
  rw [exec_part ht] at hmeter
  have hspoilt : countGet twicePosted.ledger.meters 16 = 7 := by decide +kernel
  have hcount : twicePosted.path.sheets.countP (fun sheet => decide (16 + sheet.media = 16)) = 1 := by decide
  simp only [twicePosted_jam, hspoilt, hcount] at hmeter
  exact absurd hmeter (by decide)

end Sys2Proof.Machine
end


section
/-! Proofs about the end of a job of ACCOUNT_REMOTE or FLOAT funding on an empty path (R34 to R37, R41 to R43, R123, R125). -/

-- One theorem after another: many small theorems elaborated at once need more threads than the check allows.
set_option Elab.async false

namespace Sys2Proof.Machine

open Sys2Proof

namespace Part

/-! ### Entry to SETTLING (R43) -/

/-- A job that has settled, before its charge is handed off (R42, R43). -/
def settling (p : Part) (r : EndReason) : Part :=
  { p with
    permit := false
    job :=
      { p.job with
        state := .settling, endReason := some (p.job.endReason.getD r)
        charge := some (finalCharge p.config.values p.job.acc.gross p.job.acc.delivered p.job.cls (p.job.limit.getD 0))
        keepDue := none, runOutDue := none, topupOutstanding := false, topupAttempts := 0, topupDue := none, topupFrame := none }
    panel := p.panel.raise .jobState }

theorem stopJob_endWith {p : Part} (h : p.job.state ≠ .settling) (r : EndReason) :
    ({ p with job := p.job.endWith r } : Part).stopJob ({ p with job := p.job.endWith r } : Part).jobCharge = p.settling r := by
  unfold stopJob setJobState
  rw [if_neg (by simpa [Job.clearTopup, Job.endWith] using h)]
  rfl

/-- A job that has settled leaves the rules that follow an event nothing to do. -/
theorem settling_calm {p : Part} (hs : p.phase = .serving) (r : EndReason) : (p.settling r).Calm := by
  refine ⟨hs, fun hd => ?_, fun hout => ?_, ?_, ?_⟩
  · exact absurd hd.1 (by simp [settling])
  · simp [outOfFunds, settling] at hout
  · simp [runOutHolds, settling]
  · simp [permitHolds, settling]

/-- A job ended on an empty path settles (R34). -/
theorem endJob_empty {p : Part} (h : p.path.sheets = []) (r : EndReason) :
    p.endJob r = ({ p with job := p.job.endWith r } : Part).enterSettling := by
  unfold endJob
  exact if_pos (by simp [h])

/-! ### The deferred entry of a settled job (R123, R125) -/

/-- The step that writes the entry of a remote or FLOAT job (R123, R125). -/
def entryTask (p : Part) : Task :=
  .putEntry (p.job.home.getD 0) (if p.job.funding = some .float then 0 else p.job.holdId.getD 0) p.job.payer p.job.number
    (finalCharge p.config.values p.job.acc.gross p.job.acc.delivered p.job.cls (p.job.limit.getD 0))
    (saturate Config.max24 p.job.acc.delivered) true true
    (if p.job.funding = some .float then some (p.job.limit.getD 0) else none)

theorem enterSettling_remote {p : Part} (h : p.job.state ≠ .settling)
    (hfunding : p.job.funding = some .accountRemote ∨ p.job.funding = some .float) (r : EndReason) :
    ({ p with job := p.job.endWith r } : Part).enterSettling = (p.settling r).assign .settlement [p.entryTask] := by
  rw [enterSettling_eq, stopJob_endWith h]
  have hfund : (p.settling r).job.funding = p.job.funding := rfl
  unfold handOff entryTask
  dsimp only
  rw [hfund]
  rcases hfunding with hf | hf
  · rw [hf]
    rfl
  · rw [hf]
    rfl

/-- No queued post names a slot that is not in use (R124). -/
theorem deferredSlot_unnamed {p : Part} {slot : Nat} (h : p.deferredSlot = some slot) :
    ∀ post ∈ p.store.queue, post.write.name ≠ .deferred slot := by
  have hfree := List.find?_some h
  simp only [deferredInUse, Bool.not_or, Bool.and_eq_true, Bool.not_eq_true', List.any_eq_false, decide_eq_true_eq] at hfree
  exact hfree.2

/-- The entry takes the lowest free slot, under the job's reservation (R124, R125). -/
theorem entryTask_works {p : Part} (hs : p.phase = .serving) (hwork : p.store.work = []) (hpending : p.store.pending = [])
    {slot : Nat} (hslot : p.deferredSlot = some slot) (hplace : p.store.queue.length < 8) (r : EndReason) :
    (p.settling r).Works 1 [p.entryTask] (p.settledRemote r slot) := by
  have hslot' : (p.settling r).deferredSlot = some slot := hslot
  have hstep : p.entryTask.step (p.settling r) = some (p.settledRemote r slot, []) := by
    unfold entryTask Task.step stepPutEntry
    simp only [hslot']
    have hfree (w : Write) : (p.settling r).store.hasPlace w = true := by
      have hqueue : (p.settling r).store.queue = p.store.queue := rfl
      simp [Store.hasPlace, Config.queuePlaces, hqueue, hplace]
    have hpost (value : Option DeferredEntry) (notes : List Note) : (p.settling r).store.post (.deferred slot value) notes =
        { p.store with queue := p.store.queue ++ [{ write := .deferred slot value, notes := notes }] } :=
      Store.post_joins (s := p.store) (w := .deferred slot value) (deferredSlot_unnamed hslot) notes
    unfold tryPost
    rw [if_pos (hfree _), hpost]
    unfold settledRemote floatAfterEntry
    dsimp only
    by_cases hf : p.job.funding = some .float
    · simp only [if_pos hf, Option.map_some]
      rfl
    · simp only [if_neg hf, Option.map_some]
      rfl
  refine .calm hstep (.inl hplace) hwork hpending ?_ (.done _)
  exact (settling_calm hs r).same ⟨rfl, rfl, rfl, rfl, rfl⟩

/-- The post of a deferred entry leaves the journal's free count as it was (R173). -/
theorem settledRemote_freeSlots {p : Part} (hpending : p.store.pending = []) (r : EndReason) (slot : Nat) :
    (p.settledRemote r slot).freeSlots = p.freeSlots := by
  let entry : Post :=
    { write :=
        .deferred slot
          (some
            { number := nextEntryNumber p.ledger, home := p.job.home.getD 0
              holdId := if p.job.funding = some .float then 0 else p.job.holdId.getD 0, account := p.job.payer
              job := p.job.number
              charge := finalCharge p.config.values p.job.acc.gross p.job.acc.delivered p.job.cls (p.job.limit.getD 0)
              impressions := min 16777215 p.job.acc.delivered, attempts := 0 })
      notes := [.entryStored (nextEntryNumber p.ledger) true] }
  exact (freeSlots_congr (p := p.joined [entry]) ⟨rfl, rfl, rfl, rfl⟩).trans
    (freeSlots_joined hpending [entry] fun post hpost l => by rw [List.mem_singleton.mp hpost]; exact ⟨rfl, rfl⟩)

end Part

/-- An event whose effect ends a remote or FLOAT job on an empty path leaves the job SETTLING with its entry posted. -/
theorem event_settledRemote {s : State} {f : Part → Part} {p : Part} {r : EndReason} {slot : Nat}
    (hf : f s.part = ({ p with job := p.job.endWith r } : Part).enterSettling) (hs : p.phase = .serving)
    (hstate : p.job.state ≠ .settling) (hfunding : p.job.funding = some .accountRemote ∨ p.job.funding = some .float)
    (hwork : p.store.work = []) (hpending : p.store.pending = []) (hslot : p.deferredSlot = some slot)
    (hplace : p.store.queue.length < 8) (hfree : p.freeSlots = s.part.freeSlots) :
    event s f = .next { s with part := (p.settledRemote r slot).alert } := by
  have hassigned := hf.trans (Part.enterSettling_remote hstate hfunding r)
  have hidle : ((p.settling r).assign .settlement [p.entryTask]).reactIdle s.part =
      (p.settling r).assign .settlement [p.entryTask] := by
    have hsettling : ((p.settling r).assign .settlement [p.entryTask]).job.state = .settling := rfl
    exact Part.reactIdle_state (by rw [hsettling]; decide) (by rw [hsettling]; decide) (by rw [hsettling]; decide)
  rw [event_works hassigned hs hwork hpending (by simp) hidle (Part.settling_calm hs r).react_withWork rfl
    (Part.entryTask_works hs hwork hpending hslot hplace r) (by decide),
    Part.journalLow_same ((Part.settledRemote_freeSlots hpending r slot).trans hfree)]

/-! ### The ends of a job on an empty path (R34 to R37, R41) -/

namespace Part

/-- The reason of a job that ends by itself (R35). -/
theorem runOutReason_cases {p : Part} (h : p.runOutHolds = true) :
    p.job.runOutReason p.now = .done ∧ p.job.position = p.job.positions ∨
      p.job.runOutReason p.now = .funds ∧ p.job.exhausted = some .funds ∧ p.job.topupOutstanding = false := by
  simp only [runOutHolds, Bool.and_eq_true, Bool.or_eq_true, decide_eq_true_eq, Bool.not_eq_true'] at h
  obtain ⟨-, hcase⟩ := h
  unfold Job.runOutReason
  split_ifs with hposition hfunds
  · simp only [Bool.not_eq_true'] at hfunds
    obtain ⟨hexhausted, htopup, -⟩ := hfunds
    exact .inr ⟨rfl, hexhausted, htopup⟩
  · exact .inl ⟨rfl, hposition⟩
  · exact .inr ⟨rfl, hcase.resolve_left hposition⟩

theorem jobGone_ends {p : Part} {holdId : Nat} (hid : p.job.holdId = some holdId)
    (hstate : p.job.state = .ready ∨ p.job.state = .running ∨ p.job.state = .paused) :
    p.jobGone holdId = (({ p with job := p.job.clearTopup } : Part).exhaust .holdLost).endJob .holdLost := by
  unfold jobGone
  rw [if_neg (by simp [hid])]
  rcases hstate with hs | hs | hs <;> simp only [hs]

theorem takeGone_job {p : Part} {source holdId : Nat} (hhome : p.job.home = some source) (hstate : p.job.state ≠ .idle) :
    p.takeGone source holdId p.job.number = p.jobGone holdId := by
  unfold takeGone answersJob
  exact if_pos (by simp [hhome, hstate])

/-- The rules that follow an event end a DRAINING job whose list is empty (R36). -/
theorem react_drains {p : Part} (hs : p.phase = .serving) (hstate : p.job.state = .draining) (hsheets : p.path.sheets = [])
    (hfunding : p.job.funding = some .accountRemote ∨ p.job.funding = some .float) {r : EndReason}
    (hreason : p.job.endReason = some r) (hwork : p.store.work = []) :
    p.react = (p.settling r).withWork (worksOf .settlement [p.entryTask] false) := by
  have hsame : ({ p with job := p.job.endWith r } : Part) = p := by
    have hjob : p.job.endWith r = p.job := by
      unfold Job.endWith
      rw [hreason, Option.getD_some, ← hreason]
    rw [hjob]
  have hsettles := enterSettling_remote (p := p) (by simp [hstate]) hfunding r
  rw [hsame, assign_alone (by exact hwork)] at hsettles
  have hdrain : p.reactDrain = (p.settling r).withWork (worksOf .settlement [p.entryTask] false) :=
    (if_pos ⟨hstate, by simp [hsheets]⟩).trans hsettles
  have hcalm := (settling_calm hs r).react_withWork (worksOf .settlement [p.entryTask] false)
  have hafter : ((p.settling r).withWork (worksOf .settlement [p.entryTask] false)).reactDrain =
      (p.settling r).withWork (worksOf .settlement [p.entryTask] false) :=
    if_neg fun hd => absurd hd.1 (by simp [settling, withWork])
  have hserving : (p.settling r).phase = .serving := hs
  unfold react at hcalm ⊢
  rw [if_pos (by simp [Part.serving, hs])]
  rw [if_pos (by simp [Part.serving, withWork, hserving]), hafter] at hcalm
  rw [hdrain, hcalm]

/-- Posts of other regions leave the slots of the deferred list as they were (R124). -/
theorem deferredSlot_joined {p : Part} {posts : List Post} (h : ∀ post ∈ posts, ∀ slot, post.write.name ≠ .deferred slot) :
    (p.joined posts).deferredSlot = p.deferredSlot := by
  have hinUse : (p.joined posts).deferredInUse = p.deferredInUse := by
    funext slot
    have hnone : posts.any (fun post => decide (post.write.name = .deferred slot)) = false := by
      simpa using fun post hpost => h post hpost slot
    unfold deferredInUse joined
    dsimp only
    rw [List.any_append, hnone, Bool.or_false]
  unfold deferredSlot
  rw [hinUse]

theorem deliveryPosts_write {p : Part} {sheet : Sheet} {post : Post} (h : post ∈ p.deliveryPosts sheet) :
    (∃ c, post.write = .checkpoint c) ∨ ∃ i v, post.write = .meter i v := by
  rcases List.mem_append.mp h with hp | hp
  · split at hp
    · obtain ⟨c, -, rfl⟩ := List.mem_map.mp hp
      exact .inl ⟨_, rfl⟩
    · cases hp
  · obtain rfl := List.mem_singleton.mp hp
    exact .inr ⟨_, _, rfl⟩

theorem deliveryPosts_length (p : Part) (sheet : Sheet) : (p.deliveryPosts sheet).length ≤ 2 := by
  unfold deliveryPosts
  split
  · cases (p.deliveredJob sheet).checkpoint <;> simp
  · simp

end Part

/-- Settles O32: each end is the job's entry to SETTLING on an empty path, and its deferred entry is one post under its reservation. -/
theorem endedRemoteJobSettles : Obligations.EndedRemoteJobSettles := by
  refine ⟨?ends, ?delivery⟩
  case ends =>
    intro s slot h ho hsheets hfunding hslot hplace touched lost open'
    obtain ⟨hs, hwork, hpending, -⟩ := id h
    refine ⟨fun hr hopen => ?request, fun due hdue hcome => ?runOut, fun hopen hidle => ?idle,
      fun source holdId hremote hhome hid hopen => ?gone⟩
    case request =>
      have hdrains (r : EndReason) : s.part.endRequest r = (touched.endJob r).ok [] := Part.endRequest_drains hopen r
      have hnot : s.part.job.state ≠ .settling := by rcases hopen with hst | hst | hst <;> simp [hst]
      have hauth : s.part.job.state ≠ .authorize := by rcases hopen with hst | hst | hst <;> simp [hst]
      have ends (r : EndReason) (code : Nat) {f : Part → Part}
          (hf : f s.part = (s.part.endRequest r).part.answering code (s.part.endRequest r).result (s.part.endRequest r).body) :
          event s f = .next { s with part := ((touched.settledRemote r slot).answering code .ok []).alert } := by
        have hassigned := Part.enterSettling_remote (p := touched) hnot hfunding r
        have hf' : f s.part =
            ({ touched.answering code .ok [] with job := (touched.answering code .ok []).job.endWith r } : Part).enterSettling := by
          rw [hf, hdrains, Part.ok, Part.endJob_empty (p := touched) hsheets, hassigned,
            Part.enterSettling_remote (p := touched.answering code .ok []) hnot hfunding r]
          rfl
        exact event_settledRemote (p := touched.answering code .ok []) hf' hs hnot hfunding hwork hpending hslot hplace
          (Part.freeSlots_congr ⟨rfl, rfl, rfl, rfl⟩)
      obtain ⟨f, hexec, heffect⟩ := exec_endRequest (s := s) (.inl ⟨rfl, rfl, rfl⟩) fun hc => by cases hc
      obtain ⟨g, hexec', heffect'⟩ := exec_endRequest (s := s) (.inr ⟨rfl, rfl, rfl⟩) fun _ => hauth
      exact ⟨hexec.trans (ends .panelEnd 4 (heffect h ho hr)), hexec'.trans (ends .panelCancel 5 (heffect' h ho hr))⟩
    case runOut =>
      obtain ⟨-, -, -, -, -, hrun, -⟩ := id h
      have hholds : s.part.runOutHolds = true := by rw [hrun, hdue]; rfl
      have hrunning : s.part.job.state = .running := by
        simp only [Part.runOutHolds, Bool.and_eq_true, decide_eq_true_eq] at hholds
        exact hholds.1.1
      refine ⟨_, ?_, Part.runOutReason_cases hholds⟩
      have heffect : inService Part.runOutTimer s.part =
          ({ s.part with job := s.part.job.endWith (s.part.job.runOutReason s.part.now) } : Part).enterSettling := by
        rw [inService_serving hs]
        exact if_pos ⟨by simp [isDue, hdue, hcome], hholds⟩
      exact event_settledRemote heffect hs (by simp [hrunning]) hfunding hwork hpending hslot hplace rfl
    case idle =>
      have hnot : s.part.job.state ≠ .settling := by rcases hopen with hst | hst | hst <;> simp [hst]
      have hreached : s.part.idleReached = true := by
        unfold Part.idleReached
        rw [hsheets, decide_eq_true hidle]
        rcases hopen with hst | hst | hst <;> simp [hst]
      have heffect : inService (fun p => if p.idleReached then p.idleEnd else p) s.part =
          ({ s.part with job := s.part.job.endWith .idleTimeout } : Part).enterSettling := by
        rw [inService_serving hs]
        exact if_pos hreached
      exact event_settledRemote heffect hs hnot hfunding hwork hpending hslot hplace rfl
    case gone =>
      have hnot : s.part.job.state ≠ .settling := by rcases hopen with hst | hst | hst <;> simp [hst]
      have hidle : s.part.job.state ≠ .idle := by rcases hopen with hst | hst | hst <;> simp [hst]
      let cleared : Part := ({ s.part with job := s.part.job.clearTopup } : Part).exhaust .holdLost
      have heffect : inService (fun p => p.takeGone source holdId s.part.job.number) s.part =
          ({ cleared with job := cleared.job.endWith .holdLost } : Part).enterSettling := by
        rw [inService_serving hs, Part.takeGone_job hhome hidle, Part.jobGone_ends hid hopen]
        exact Part.endJob_empty (p := cleared) hsheets _
      exact event_settledRemote (p := cleared) heffect hs hnot hfunding hwork hpending hslot hplace
        (Part.freeSlots_congr ⟨rfl, rfl, rfl, rfl⟩)
  case delivery =>
    intro s slot sheet r h hclear hsheets hstage hstate hreason hfunding hslot hqueue j index meter charged delivered
    obtain ⟨hs, hwork, hpending, -⟩ := id h
    let base : Part :=
      { s.part with job := s.part.deliveredJob sheet, path := { s.part.path.cover .exit false with sheets := [] } }
    let q : Part := base.joined (s.part.deliveryPosts sheet)
    have heffect : inService (Part.sensorMessage 2 Part.sensorOff) s.part = q :=
      (inService_serving hs _).trans (Part.sensorOff_delivers h hclear hqueue hsheets hstage)
    have hjob : q.job.state = s.part.job.state ∧ q.job.funding = s.part.job.funding ∧
        q.job.endReason = s.part.job.endReason := by
      show (s.part.deliveredJob sheet).state = _ ∧ (s.part.deliveredJob sheet).funding = _ ∧
        (s.part.deliveredJob sheet).endReason = _
      unfold Part.deliveredJob
      split <;> exact ⟨rfl, rfl, rfl⟩
    obtain ⟨hqstate, hqfunding, hqreason⟩ := hjob
    have hqdrain : q.job.state = .draining := hqstate.trans hstate
    have hqslot : q.deferredSlot = some slot := by
      refine (Part.deferredSlot_joined (p := base) fun post hpost k => ?_).trans hslot
      rcases Part.deliveryPosts_write hpost with ⟨c, hw⟩ | ⟨i, v, hw⟩ <;> rw [hw] <;> exact RecordName.noConfusion
    have hqplace : q.store.queue.length < 8 := by
      have := s.part.deliveryPosts_length sheet
      show (s.part.store.queue ++ s.part.deliveryPosts sheet).length < 8
      rw [hqueue, List.nil_append]
      omega
    have hqfree : q.freeSlots = s.part.freeSlots := by
      refine (Part.freeSlots_joined (p := base) hpending _ fun post hpost l => ?_).trans (Part.freeSlots_congr ⟨rfl, rfl, rfl, rfl⟩)
      rcases Part.deliveryPosts_write hpost with ⟨c, hw⟩ | ⟨i, v, hw⟩ <;> rw [hw] <;> exact ⟨rfl, rfl⟩
    have hidle : q.reactIdle s.part = q :=
      Part.reactIdle_state (by simp [hqdrain]) (by simp [hqdrain]) (by simp [hqdrain])
    have hreact := Part.react_drains (p := q) hs hqdrain rfl (by rw [hqfunding]; exact hfunding) (hqreason.trans hreason) hwork
    have hdelivered : q = delivered := by
      simp only [q, Part.joined, base, hqueue, List.nil_append]
      rfl
    show event s (inService (Part.sensorMessage 2 Part.sensorOff)) = _
    rw [event_pumps (by rw [heffect]; exact hidle) (by rw [heffect]; exact hs) hreact hwork hpending
      (Part.entryTask_works (p := q) hs hwork hpending hqslot hqplace r) (by decide),
      Part.journalLow_same ((Part.settledRemote_freeSlots (p := q) hpending r slot).trans hqfree), hdelivered]

end Sys2Proof.Machine
end


section
/-! Proofs about the clear of a jammed path (R39, R64, R65). -/

-- One theorem after another: many small theorems elaborated at once need more threads than the check allows.
set_option Elab.async false

namespace Sys2Proof.Machine

open Sys2Proof

namespace Part

theorem clearTest_clears {p : Part} (h : p.path.isClear = true) :
    p.clearTest = ({ p with path := { p.path with jammed := false } } : Part).jobClear := if_pos h

/-- A JAMMED job with positions left, fewer than three jams in a row and no drain mark pauses (R39). -/
theorem jobClear_pauses {p : Part} (hstate : p.job.state = .jammed) (hdrain : p.job.drainMark = false)
    (hjams : p.job.consecutiveJams ≠ 3) (hleft : p.job.position ≠ p.job.positions) :
    p.jobClear =
      { p with job := { p.job with state := .paused, lastActivity := p.now }, panel := p.panel.raise .jobState } := by
  unfold jobClear setJobState
  rw [if_pos hstate, if_neg hjams, if_neg (by simp [hdrain]), if_neg hleft, if_neg (by simp [hstate])]
  rfl

theorem jobClear_other {p : Part} (hstate : p.job.state ≠ .jammed) : p.jobClear = p := if_neg hstate

/-- A JAMMED job that does not pause settles, for its third jam in a row, its drain mark, or its plan complete (R39). -/
theorem jobClear_settles {p : Part} {r : EndReason} (hstate : p.job.state = .jammed)
    (h : p.job.consecutiveJams = 3 ∧ r = .jamLimit ∨
      p.job.consecutiveJams ≠ 3 ∧ p.job.drainMark = true ∧ p.job.endReason = some r ∨
      p.job.consecutiveJams ≠ 3 ∧ p.job.drainMark = false ∧ p.job.position = p.job.positions ∧ r = .done) :
    p.jobClear = ({ p with job := p.job.endWith r } : Part).enterSettling := by
  unfold jobClear
  rw [if_pos hstate]
  rcases h with ⟨hjams, rfl⟩ | ⟨hjams, hdrain, hreason⟩ | ⟨hjams, hdrain, hdone, rfl⟩
  · rw [if_pos hjams]
  · have hsame : p.job.endWith r = p.job := by
      unfold Job.endWith
      rw [hreason, Option.getD_some, ← hreason]
    rw [if_neg hjams, if_pos hdrain, hsame]
  · rw [if_neg hjams, if_neg (by simp [hdrain]), if_pos hdone]

end Part

/-- The events that may clear a jammed path are one: the path as the event leaves it, and the clear test (R64). -/
theorem exec_clears {s : State} {c : Instr} {path : PathMonitor} (hs : s.part.phase = .serving) (hjam : s.part.path.jammed = true)
    (hc : (c = .doorClosed ∧ path = { s.part.path with doorOpen := false }) ∨
      ∃ x : Sensor, c = .sensorOff x.code ∧ path = s.part.path.cover x false)
    (hclear : path.isClear = true) :
    (∃ f : Part → Part, exec c s = event s f ∧
      f s.part = ({ s.part with path := { path with jammed := false } } : Part).jobClear) ∧
      path.sheets = s.part.path.sheets := by
  rcases hc with ⟨rfl, rfl⟩ | ⟨x, rfl, rfl⟩
  · refine ⟨⟨_, rfl, (inService_serving hs _).trans ((if_pos hjam).trans ?_)⟩, rfl⟩
    exact Part.clearTest_clears hclear
  · obtain ⟨hsame, hsheets, -, -⟩ := s.part.path.cover_frame x false
    refine ⟨⟨_, rfl, (inService_serving hs _).trans ((sensorMessage_code x _ _).trans ?_)⟩, hsheets⟩
    exact (if_pos (hsame.trans hjam)).trans (Part.clearTest_clears hclear)

/-- Settles O40: the clear test passes, and the job takes the clear by its state. -/
theorem clearPausesTheJob : Obligations.ClearPausesTheJob := by
  intro s c path h hjam hc hreg hfuse hexit hdoor
  obtain ⟨hs, hwork, hpending, -, -, -, -, hstart⟩ := id h
  have hclear : path.isClear = true := by simp [PathMonitor.isClear, hreg, hfuse, hexit, hdoor]
  obtain ⟨⟨f, hexec, heffect⟩, hsheets⟩ := exec_clears hs hjam hc hclear
  have hfree (job : Job) (panel : Panel) :
      ({ s.part with job := job, path := { path with jammed := false }, panel := panel } : Part).freeSlots = s.part.freeSlots :=
    Part.freeSlots_congr ⟨rfl, rfl, rfl, rfl⟩
  refine ⟨fun hstate hdrain hjams hleft => ?pauses, fun hstate => ?other,
    fun slot hstate hfunding hslot hplace => ?settles⟩
  case pauses =>
    have hpauses := Part.jobClear_pauses (p := { s.part with path := { path with jammed := false } }) hstate hdrain hjams hleft
    have hrun : s.part.job.state ≠ .running := by simp [hstate]
    rw [hexec]
    refine event_atRest (heffect.trans hpauses) ?_ hsheets (le_of_eq (hfree _ _).symm)
    exact Part.atRest_notRunning hs hwork hpending hstart JobState.noConfusion JobState.noConfusion (h.released hrun)
      (h.runOutDue hrun)
  case other =>
    have hnot : s.part.job.state ≠ .jammed ∧ s.part.job.state ≠ .running ∧ s.part.job.state ≠ .draining := by
      rcases hstate with hst | hst | hst | hst | hst <;> simp [hst]
    obtain ⟨hjammed, hrun, hdrain⟩ := hnot
    have hsame := Part.jobClear_other (p := { s.part with path := { path with jammed := false } }) hjammed
    rw [hexec]
    refine event_atRest (heffect.trans hsame) ?_ hsheets (le_of_eq (hfree _ _).symm)
    exact Part.atRest_notRunning hs hwork hpending hstart hrun (fun hd => absurd hd hdrain) (h.released hrun) (h.runOutDue hrun)
  case settles =>
    intro cleared
    have hnot : cleared.job.state ≠ .settling := by
      show s.part.job.state ≠ .settling
      simp [hstate]
    have settles {r : EndReason} (hr : cleared.jobClear = ({ cleared with job := cleared.job.endWith r } : Part).enterSettling) :
        exec c s = .next { s with part := (cleared.settledRemote r slot).alert } :=
      hexec.trans (event_settledRemote (p := cleared) (heffect.trans hr) hs hnot hfunding hwork hpending hslot hplace (hfree _ _))
    exact ⟨fun hjams => settles (Part.jobClear_settles hstate (.inl ⟨hjams, rfl⟩)),
      fun hjams hmark r hr => settles (Part.jobClear_settles hstate (.inr (.inl ⟨hjams, hmark, hr⟩))),
      fun hjams hmark hdone => settles (Part.jobClear_settles hstate (.inr (.inr ⟨hjams, hmark, hdone, rfl⟩)))⟩

end Sys2Proof.Machine
end


section
/-! Proofs about the hand-off of a job: its JOB record, its TALLY and the cleared checkpoint (R43, R75, R78, R123, R172, R180). -/

-- One theorem after another: many small theorems elaborated at once need more threads than the check allows.
set_option Elab.async false

namespace Sys2Proof.Machine

open Sys2Proof

namespace Part

/-! ### Posts that join the queue as steps of work (R161, R164) -/

theorem tryPost_joins {p : Part} {w : Write} (hplace : p.store.queue.length < 8)
    (hname : ∀ post ∈ p.store.queue, post.write.name ≠ w.name) (notes : List Note) :
    p.tryPost w notes = some (p.joined [{ write := w, notes := notes }]) := by
  unfold tryPost
  rw [if_pos (by simp [Store.hasPlace, Config.queuePlaces, hplace]), Store.post_joins hname]
  rfl

theorem Calm.joined {p : Part} (h : p.Calm) (posts : List Post) : (p.joined posts).Calm := h.same ⟨rfl, rfl, rfl, rfl, rfl⟩

/-- A step that is one post, taken by a calm part whose queue has a place. -/
theorem Works.post {n : Nat} {p r : Part} {t : Task} {w : Write} {notes : List Note} {tasks : List Task} (hcalm : p.Calm)
    (hwork : p.store.work = []) (hpending : p.store.pending = []) (hstep : t.step p = p.justPost w notes)
    (hplace : p.store.queue.length < 8) (hname : ∀ post ∈ p.store.queue, post.write.name ≠ w.name)
    (hrest : Works n (p.joined [{ write := w, notes := notes }]) tasks r) : Works (n + 1) p (t :: tasks) r :=
  .calm (q := p.joined [{ write := w, notes := notes }]) (more := [])
    (by rw [hstep, justPost, tryPost_joins hplace hname]; rfl) (.inl hplace) hwork hpending (hcalm.joined _) hrest

/-- A step that changes neither the store nor what the rules that follow look at. -/
theorem Works.aside {n : Nat} {p q r : Part} {t : Task} {tasks more : List Task} (hcalm : p.Calm) (hwork : p.store.work = [])
    (hpending : p.store.pending = []) (hstep : t.step p = some (q, more)) (hstore : q.store = p.store) (hready : p.Ready t)
    (hsame : q.phase = p.phase ∧ q.job = p.job ∧ q.path = p.path ∧ q.config = p.config ∧ q.permit = p.permit)
    (hrest : Works n q (more ++ tasks) r) : Works (n + 1) p (t :: tasks) r :=
  .calm hstep hready (hstore ▸ hwork) (hstore ▸ hpending) (hcalm.same hsame) hrest

/-! ### The hand-off (R123, R180) -/

/-- The post of the sequence that the next journal record takes (R172). -/
def sequencePost (p : Part) : Post where
  write := .counter .journalSequence (p.ledger.journalSequence + 1)
  notes := []

/-- The post of the open job's JOB record, to its ring position (R171, R172). -/
def recordPost (p : Part) (status : JournalStatus) : Post where
  write := journalWrite (p.ledger.journalSequence + 1) (.job (p.job.journalEntry status))
  notes := []

/-- A job that has been handed off, with no other post queued: the JOB record under its reservation, the TALLY handed to the line, the
checkpoint cleared, the record IDLE (R123, R180). -/
def handedOver (p : Part) (status : JournalStatus) : Part :=
  { p with
    job := {}
    journal := { p.journal with reserved := p.journal.reserved - 1 }
    line := (p.sendFrame 0 p.job.tallyMessage).line
    store := { p.store with queue := [p.sequencePost, p.recordPost status, { write := .checkpoint none, notes := [] }] }
    panel := p.panel.raise .jobState }

/-- The steps of a hand-off (R123, R180). -/
def handOffTasks (p : Part) (status : JournalStatus) : List Task :=
  [.journal (.job (p.job.journalEntry status)), .tally p.job.tallyMessage, .handedOff]

/-- Clearing the checkpoint behind posts of other records (R162). -/
theorem clearCheckpoint_joins {s : Store} (hpending : s.pending = []) (hplace : s.queue.length < 8)
    (hname : ∀ post ∈ s.queue, post.write.name ≠ .checkpoint) :
    s.clearCheckpoint = { s with queue := s.queue ++ [{ write := .checkpoint none, notes := [] }] } := by
  have hkept : ∀ posts : List Post, (∀ post ∈ posts, post.write.name ≠ .checkpoint) →
      posts.filter (fun post => !setsCheckpoint post) = posts := by
    intro posts h
    refine List.filter_eq_self.mpr fun post hpost => ?_
    have hne := h post hpost
    unfold setsCheckpoint
    split
    next heq => exact absurd (by rw [heq]; rfl) hne
    · rfl
  unfold Store.clearCheckpoint
  rw [Store.postRunning_joins (w := .checkpoint none) hplace hname]
  have hall : ({ s with queue := s.queue ++ [{ write := .checkpoint none, notes := [] }] } : Store).programming ++
      (({ s with queue := s.queue ++ [{ write := .checkpoint none, notes := [] }] } : Store).waiting).filter
        (fun post => !setsCheckpoint post) = s.queue ++ [{ write := .checkpoint none, notes := [] }] := by
    unfold Store.programming Store.waiting
    cases hqueue : s.queue with
    | nil => cases s.starting <;> rfl
    | cons post rest =>
      rw [hqueue] at hname
      have hrest := hkept rest fun x hx => hname x (List.mem_cons_of_mem _ hx)
      have hfirst := hkept (post :: rest) hname
      cases s.starting
      · show [post] ++ (rest ++ [({ write := .checkpoint none, notes := [] } : Post)]).filter (fun post => !setsCheckpoint post) = _
        rw [List.filter_append, hrest]
        rfl
      · simp only [if_true, List.nil_append, List.filter_append, hfirst]
        rfl
  dsimp only
  rw [hall]
  unfold Store.fill
  simp [hpending, joinPending]

theorem handedOver_calm {p : Part} (hs : p.phase = .serving) (hpermit : p.permit = false) (status : JournalStatus) :
    (p.handedOver status).Calm := by
  refine ⟨hs, fun hd => absurd hd.1 (by simp [handedOver]), fun hout => ?_, ?_, ?_⟩
  · simp [outOfFunds, handedOver] at hout
  · simp [runOutHolds, handedOver]
  · simp [permitHolds, handedOver, hpermit]

/-- The part whose JOB record has taken its sequence and its reservation (R172). -/
def jobCounted (p : Part) : Part :=
  { p with
    journal := { p.journal with reserved := p.journal.reserved - 1 }
    store := { p.store with queue := [p.sequencePost] } }

/-- The part whose JOB record is posted (R172). -/
def jobRecorded (p : Part) (status : JournalStatus) : Part := p.jobCounted.joined [p.recordPost status]

/-- The part whose TALLY has been handed to the line (R180). -/
def jobTold (p : Part) (status : JournalStatus) : Part :=
  { p.jobRecorded status with line := ((p.jobRecorded status).sendFrame 0 p.job.tallyMessage).line }

theorem step_journalCount {p : Part} (hqueue : p.store.queue = []) (status : JournalStatus) :
    (Task.journalCount (.job (p.job.journalEntry status))).step p =
      some (p.jobCounted, [.journalPut (p.ledger.journalSequence + 1) (.job (p.job.journalEntry status))]) := by
  have hjoins := tryPost_joins (p := p) (w := .counter .journalSequence (p.ledger.journalSequence + 1)) (by simp [hqueue])
    (by simp [hqueue]) []
  show p.stepJournalCount _ = _
  unfold stepJournalCount
  dsimp only
  rw [hjoins]
  simp only [Option.map_some, joined, hqueue, List.nil_append]
  rfl

theorem step_tally (p : Part) (status : JournalStatus) :
    (Task.tally p.job.tallyMessage).step (p.jobRecorded status) = some (p.jobTold status, []) := by
  show some ((p.jobRecorded status).sendFrame 0 p.job.tallyMessage, []) = _
  unfold sendFrame
  rw [enqueue_eq]
  rfl

theorem step_handedOff {p : Part} (hpending : p.store.pending = []) (status : JournalStatus) :
    (Task.handedOff).step (p.jobTold status) = some (p.handedOver status, []) := by
  have hline : (p.jobTold status).line = (p.sendFrame 0 p.job.tallyMessage).line :=
    (enqueue_congr (p := p) (q := p.jobRecorded status) rfl rfl _ _).2
  show some ((p.jobTold status).handedOff, []) = _
  unfold handedOff
  rw [clearCheckpoint_joins (s := (p.jobTold status).store) hpending (by show 2 < 8; decide) ?names]
  case names =>
    intro post hpost
    have hpost' : post ∈ [p.sequencePost, p.recordPost status] := hpost
    simp only [List.mem_cons, List.not_mem_nil, or_false] at hpost'
    rcases hpost' with rfl | rfl <;> exact RecordName.noConfusion
  unfold handedOver
  rw [← hline]
  rfl

/-- A job in SETTLING that has no post queued is handed off in five steps (R123, R172, R180). -/
theorem handOff_works {p : Part} (hcalm : p.Calm) (hstate : p.job.state = .settling) (hwork : p.store.work = [])
    (hpending : p.store.pending = []) (hqueue : p.store.queue = []) (status : JournalStatus) :
    p.Works 5 (p.handOffTasks status) (p.handedOver status) := by
  obtain ⟨hs, -, -, -, hpermit⟩ := id hcalm
  have hreleased : p.permit = false := by rw [hpermit]; simp [permitHolds, hstate]
  have hcounted : p.jobCounted.Calm := hcalm.same ⟨rfl, rfl, rfl, rfl, rfl⟩
  refine .aside hcalm hwork hpending (t := .journal _) rfl rfl (.inl (by simp [hqueue])) ⟨rfl, rfl, rfl, rfl, rfl⟩ ?_
  refine .calm (step_journalCount hqueue status) (.inl (by simp [hqueue])) hwork hpending hcounted ?_
  refine .post (notes := []) hcounted hwork hpending rfl (by show 1 < 8; decide) ?_ ?_
  · intro post hpost
    rw [List.mem_singleton.mp hpost]
    exact RecordName.noConfusion
  refine .aside (hcounted.joined _) hwork hpending (p.step_tally status) rfl (.inr fun _ => rfl) ⟨rfl, rfl, rfl, rfl, rfl⟩ ?_
  exact .calm (step_handedOff hpending status) (.inr fun _ => rfl) hwork hpending (handedOver_calm hs hreleased status) (.done _)

/-- A hand-off takes a sequence and gives its reservation back: the free count stays (R173). -/
theorem handedOver_freeSlots {p : Part} (hpending : p.store.pending = []) (hqueue : p.store.queue = [])
    (hreserved : 0 < p.journal.reserved) (status : JournalStatus) : (p.handedOver status).freeSlots = p.freeSlots := by
  have hold : p.ledger = p.store.stored := by simp [Part.ledger, Store.newest, hpending, hqueue]
  have hsequence : (p.handedOver status).ledger.journalSequence = p.store.stored.journalSequence + 1 := by
    have hnew : (p.handedOver status).store.pending = [] := hpending
    simp only [Part.ledger, Store.newest, hnew]
    simp only [handedOver, sequencePost, recordPost, hold, List.map_cons, List.map_nil, List.foldl_cons,
      List.foldl_nil]
    rfl
  have hmark : (p.handedOver status).ledger.releaseMark = p.store.stored.releaseMark := by
    have hnew : (p.handedOver status).store.pending = [] := hpending
    simp only [Part.ledger, Store.newest, hnew]
    simp only [handedOver, sequencePost, recordPost, hold, List.map_cons, List.map_nil, List.foldl_cons,
      List.foldl_nil]
    rfl
  have hcount : (p.handedOver status).journal.reserved = p.journal.reserved - 1 := rfl
  unfold freeSlots journalFree
  rw [hsequence, hmark, hcount, hold]
  push_cast
  omega

end Part

end Sys2Proof.Machine
end


section
/-! Proofs about the card session: a card that is written, removed, refused, or accepted with its balance (R21, R22, R38, R70 to R78). -/

-- One theorem after another: many small theorems elaborated at once need more threads than the check allows.
set_option Elab.async false

namespace Sys2Proof.Machine

open Sys2Proof

@[simp] theorem Panel.raise_raise (panel : Panel) (a : Alert) : (panel.raise a).raise a = panel.raise a := by
  unfold Panel.raise
  simp [BitVec.or_assoc]

/-- A command whose effect hands a SETTLING job over leaves it handed over (R123, R180). -/
theorem event_handsOver {s : State} {f : Part → Part} {q : Part} {status : JournalStatus}
    (hf : f s.part = q.assign .settlement (q.handOffTasks status)) (hcalm : q.Calm) (hstate : q.job.state = .settling)
    (hwork : q.store.work = []) (hpending : q.store.pending = []) (hqueue : q.store.queue = [])
    (hreserved : 0 < q.journal.reserved) (hfree : q.freeSlots = s.part.freeSlots) :
    event s f = .next { s with part := (q.handedOver status).alert } := by
  obtain ⟨hs, -⟩ := id hcalm
  have hidle : (q.assign .settlement (q.handOffTasks status)).reactIdle s.part = q.assign .settlement (q.handOffTasks status) := by
    have hsettling : (q.assign .settlement (q.handOffTasks status)).job.state = .settling := hstate
    exact Part.reactIdle_state (by rw [hsettling]; decide) (by rw [hsettling]; decide) (by rw [hsettling]; decide)
  rw [event_works hf hs hwork hpending (List.cons_ne_nil _ _) hidle hcalm.react_withWork rfl
    (Part.handOff_works hcalm hstate hwork hpending hqueue status) (by decide),
    Part.journalLow_same ((Part.handedOver_freeSlots hpending hqueue hreserved status).trans hfree)]

namespace Part

/-! ### The end of the session (R75 to R78) -/

/-- The part whose card session has closed, before its job is handed off: RELEASE sent, a return expected unless the card is gone (R72,
R78). -/
def sessionClosed (p : Part) : Part :=
  { p with
    card :=
      { session := .closed
        returns := if p.card.session.releaseReturns then min 7 (p.card.returns + 1) else p.card.returns }
    outputs := { p.outputs with card := p.outputs.card ++ [[0x08, 0xF8]] } }

theorem closeSession_eq (p : Part) (status : JournalStatus) :
    p.closeSession status = p.sessionClosed.assign .settlement (p.sessionClosed.handOffTasks status) := by
  unfold closeSession sessionClosed
  cases p.card.session.releaseReturns <;> rfl

/-- A VALUE job that settles is handed to the card interface (R43, R75). -/
theorem enterSettling_value {p : Part} (h : p.job.state ≠ .settling) (hfunding : p.job.funding = some .value) (r : EndReason) :
    ({ p with job := p.job.endWith r } : Part).enterSettling =
      (p.settling r).handOffCard
        (finalCharge p.config.values p.job.acc.gross p.job.acc.delivered p.job.cls (p.job.limit.getD 0)) := by
  rw [enterSettling_eq, stopJob_endWith h]
  have hfund : (p.settling r).job.funding = some .value := hfunding
  unfold handOff
  dsimp only
  rw [hfund]
  rfl

end Part

/-- An event of the card that is ignored (R76, R77, R74). -/
theorem event_ignored {s : State} {f : Part → Part} (h : s.part.AtRest) (hf : f s.part = s.part) :
    event s f = .next { s with part := s.part.alert } :=
  event_rest h hf ⟨rfl, rfl, rfl, rfl, rfl, rfl, rfl, rfl⟩ rfl

/-- Settles O33: the end of the job puts the card in the session's hands, and the answer closes the session and hands the job off. -/
theorem valueJobsWriteTheirCard : Obligations.ValueJobsWriteTheirCard := by
  refine ⟨?writes, ?ignored, ?answers⟩
  case writes =>
    intro s card job h ho hr hsheets hfunding hsession hopen charge hcharge
    have hnot : s.part.job.state ≠ .settling := by rcases hopen with hst | hst | hst <;> simp [hst]
    obtain ⟨f, hexec, heffect⟩ := exec_endRequest (s := s) (.inl ⟨rfl, rfl, rfl⟩) fun hc => by cases hc
    let touched := s.part.touchActivity
    have hf : f s.part =
        ({ touched.settling .panelEnd with
            card := { s.part.card with session := .writing card job false charge (card.balance - charge) (s.part.now + 2000) }
            outputs :=
              { s.part.outputs with
                card :=
                  s.part.outputs.card ++
                    [withCheck (bytesOf 1 7 ++ field 4 card.serial ++ field 3 (card.balance - charge) ++ field 2 card.count)] } } :
          Part).answering 4 .ok [] := by
      rw [heffect h ho hr, Part.endRequest_drains hopen, Part.endJob_empty (p := touched) hsheets,
        Part.enterSettling_value (p := touched) hnot hfunding]
      have hheld : (touched.settling .panelEnd).card.session = .held card job := hsession
      unfold Part.handOffCard
      rw [hheld]
      dsimp only
      rw [if_neg (show finalCharge touched.config.values touched.job.acc.gross touched.job.acc.delivered touched.job.cls
        (touched.job.limit.getD 0) ≠ 0 from hcharge)]
      rfl
    rw [hexec, event_notRunning h hf (by simp [Part.settling, Part.answering]) (by simp [Part.settling, Part.answering])
      ⟨rfl, rfl, rfl, rfl⟩]
    rfl
  case ignored =>
    intro s card job serial count h hsession
    have hs := h.1
    refine ⟨event_ignored h ?_, event_ignored h ?_, event_ignored h ?_⟩ <;> rw [inService_serving hs]
    · unfold Part.cardWritten
      rcases hsession with hx | hx | hx <;> rw [hx]
    · unfold Part.cardNotWritten
      rcases hsession with hx | hx | hx <;> rw [hx]
    · unfold Part.writeDeadline
      rcases hsession with hx | hx | hx <;> rw [hx]
  case answers =>
    intro s card job removed charge balance due h hsession
    obtain ⟨hs, hwork, hpending, -⟩ := id h
    have hwritten (serial count : Nat) : Part.cardWritten serial count s.part =
        if serial = card.serial ∧ count = (card.count + 1) % 65536 then s.part.closeSession .paid else s.part := by
      unfold Part.cardWritten
      rw [hsession]
    have hfailed (serial : Nat) : Part.cardNotWritten serial s.part =
        if serial = card.serial then s.part.closeSession .unpaid else s.part := by
      unfold Part.cardNotWritten
      rw [hsession]
    have hdeadline : s.part.writeDeadline = if due ≤ s.part.now then s.part.closeSession .unpaid else s.part := by
      unfold Part.writeDeadline
      rw [hsession]
    refine ⟨fun c status hstate hqueue hreserved hanswer => ?ends, fun serial count hne => ?done, fun serial hne => ?fail,
      fun hbefore => ?early⟩
    case ends =>
      have hclose (f : Part → Part) (hf : f s.part = s.part.closeSession status) :
          event s f = .next { s with part := (s.part.sessionClosed.handedOver status).alert } :=
        event_handsOver (q := s.part.sessionClosed) (hf.trans (s.part.closeSession_eq status))
          (h.calm.same ⟨rfl, rfl, rfl, rfl, rfl⟩) hstate hwork hpending hqueue hreserved rfl
      have hresult : s.part.sessionClosed.handedOver status =
          { s.part with
            job := {}
            card :=
              { session := .closed
                returns := if removed then s.part.card.returns else min 7 (s.part.card.returns + 1) }
            journal := { s.part.journal with reserved := s.part.journal.reserved - 1 }
            line := (s.part.sendFrame 0 s.part.job.tallyMessage).line
            outputs := { s.part.outputs with card := s.part.outputs.card ++ [[0x08, 0xF8]] }
            store :=
              { s.part.store with
                queue := [s.part.sequencePost, s.part.recordPost status, { write := .checkpoint none, notes := [] }] }
            panel := s.part.panel.raise .jobState } := by
        have hline := (Part.enqueue_congr (p := s.part) (q := s.part.sessionClosed) rfl rfl 0 s.part.job.tallyMessage).2
        have hreturns : s.part.card.session.releaseReturns = !removed := by rw [hsession]; rfl
        unfold Part.handedOver
        rw [show s.part.sessionClosed.job.tallyMessage = s.part.job.tallyMessage from rfl, hline]
        unfold Part.sessionClosed
        rw [hreturns]
        cases removed <;> rfl
      rw [hresult] at hclose
      rcases hanswer with ⟨rfl, rfl⟩ | ⟨rfl, rfl⟩ | ⟨rfl, hdue, rfl⟩
      · exact hclose (inService (Part.cardWritten _ _)) (by rw [inService_serving hs, hwritten, if_pos ⟨rfl, rfl⟩])
      · exact hclose (inService (Part.cardNotWritten _)) (by rw [inService_serving hs, hfailed, if_pos rfl])
      · exact hclose (inService Part.writeDeadline) (by rw [inService_serving hs, hdeadline, if_pos hdue])
    case done => exact event_ignored h (by rw [inService_serving hs, hwritten, if_neg hne])
    case fail => exact event_ignored h (by rw [inService_serving hs, hfailed, if_neg hne])
    case early => exact event_ignored h (by rw [inService_serving hs, hdeadline, if_neg (by omega)])

end Sys2Proof.Machine
end


section
/-! Proofs about the removal of a card, and about a card that is refused or opens a job on its balance (R21, R22, R38, R70 to R74). -/

-- One theorem after another: many small theorems elaborated at once need more threads than the check allows.
set_option Elab.async false

namespace Sys2Proof.Machine

open Sys2Proof

/-! ### CARD_OUT (R38, R72, R74) -/

namespace Part

theorem cardOut_session {p : Part} (h : p.card.returns = 0) : p.cardOut = p.sessionOut := if_neg (by simp [h])

/-- The part whose held card is gone, before the job controller is told (R74). -/
def cardGone (p : Part) (card : ValueCard) (job : Nat) : Part :=
  { p with card := { p.card with session := .gone card job } }

theorem sessionOut_held {p : Part} {card : ValueCard} {job : Nat} (h : p.card.session = .held card job) :
    p.sessionOut = (p.cardGone card job).cardRemoved := by
  unfold sessionOut
  rw [h]
  rfl

theorem cardRemoved_ends {p : Part} (h : p.job.state = .ready ∨ p.job.state = .running ∨ p.job.state = .paused) :
    p.cardRemoved = p.endJob .cardGone := by
  unfold cardRemoved
  rcases h with h | h | h <;> rw [h]

/-- With the card gone a VALUE job is handed off at once, and no return is expected (R72, R75, R78). -/
theorem handOffCard_gone {p : Part} {card : ValueCard} {job : Nat} (h : p.card.session = .gone card job) (charge : Nat) :
    p.handOffCard charge = p.closeSession (unwrittenStatus charge) := by
  unfold handOffCard
  rw [h]

end Part

/-- Settles O45: CARD_OUT is a return expected, or reaches the session, whose held card ends the job. -/
theorem cardOutReachesTheSession : Obligations.CardOutReachesTheSession := by
  refine ⟨?session, ?gone⟩
  case session =>
    intro s card job h
    have hs := h.1
    refine ⟨fun hreturns => ?taken, fun hreturns hsession => ?ignored, fun removed charge balance due hsession hreturns => ?writing,
      fun hreturns hsession hopen hsheets => ?drains⟩
    case taken =>
      refine event_rest h ?_ ⟨rfl, rfl, rfl, rfl, rfl, rfl, rfl, rfl⟩ rfl
      rw [inService_serving hs]
      exact if_pos hreturns
    case ignored =>
      refine event_ignored h ?_
      rw [inService_serving hs, Part.cardOut_session hreturns]
      unfold Part.sessionOut
      rcases hsession with hx | hx <;> rw [hx]
    case writing =>
      refine event_rest h ?_ ⟨rfl, rfl, rfl, rfl, rfl, rfl, rfl, rfl⟩ rfl
      rw [inService_serving hs, Part.cardOut_session hreturns]
      unfold Part.sessionOut
      rw [hsession]
    case drains =>
      have hnot : s.part.job.state ≠ .draining := by rcases hopen with hst | hst | hst <;> simp [hst]
      have hf : inService Part.cardOut s.part =
          { s.part with
            job :=
              { s.part.job with
                endReason := some (s.part.job.endReason.getD .cardGone), runOutDue := none, state := .draining }
            card := { s.part.card with session := .gone card job }
            panel := s.part.panel.raise .jobState } := by
        rw [inService_serving hs, Part.cardOut_session hreturns, Part.sessionOut_held hsession,
          Part.cardRemoved_ends (p := s.part.cardGone card job) hopen,
          Part.endJob_sheets (p := s.part.cardGone card job) hsheets hnot]
        rfl
      exact event_notRunning h hf (by simp) (fun _ => hsheets) ⟨rfl, rfl, rfl, rfl⟩
  case gone =>
    intro s card job h hreturns hsession j gone reason
    have hs := h.1
    have hremoved : inService Part.cardOut s.part = (s.part.cardGone card job).cardRemoved := by
      rw [inService_serving hs, Part.cardOut_session hreturns, Part.sessionOut_held hsession]
    refine ⟨fun hstate => ?jammed, fun hstate => ?draining, fun hopen hsheets hfunding hqueue hreserved => ?settles⟩
    case jammed =>
      have hrun : s.part.job.state ≠ .running := by rw [show s.part.job.state = .jammed from hstate]; decide
      have hf : inService Part.cardOut s.part =
          { s.part with card := gone, job := { j with endReason := reason, drainMark := true } } := by
        rw [hremoved]
        unfold Part.cardRemoved
        rw [show (s.part.cardGone card job).job.state = .jammed from hstate]
        rfl
      refine event_atRest hf ?_ rfl (le_of_eq rfl)
      exact Part.atRest_notRunning hs h.2.1 h.2.2.1 h.2.2.2.2.2.2.2 hrun (fun hd => absurd (hstate.symm.trans hd) (by decide))
        (h.released hrun) (h.runOutDue hrun)
    case draining =>
      have hrun : s.part.job.state ≠ .running := by rw [show s.part.job.state = .draining from hstate]; decide
      have hf : inService Part.cardOut s.part = { s.part with card := gone, job := { j with endReason := reason } } := by
        rw [hremoved]
        unfold Part.cardRemoved
        rw [show (s.part.cardGone card job).job.state = .draining from hstate]
        rfl
      refine event_atRest hf ?_ rfl (le_of_eq rfl)
      exact Part.atRest_notRunning hs h.2.1 h.2.2.1 h.2.2.2.2.2.2.2 hrun
        (fun hd hsheets => h.2.2.2.1 ⟨hd, by simpa using hsheets⟩) (h.released hrun) (h.runOutDue hrun)
    case settles =>
      intro charge ended sequence
      obtain ⟨-, hwork, hpending, -⟩ := id h
      have hopen' : s.part.job.state = .ready ∨ s.part.job.state = .running ∨ s.part.job.state = .paused := hopen
      have hnot : s.part.job.state ≠ .settling := by rcases hopen' with hst | hst | hst <;> simp [hst]
      let p := s.part.cardGone card job
      let q := p.settling .cardGone
      have hf : inService Part.cardOut s.part =
          q.sessionClosed.assign .settlement (q.sessionClosed.handOffTasks (unwrittenStatus charge)) := by
        rw [hremoved, Part.cardRemoved_ends (p := p) hopen, Part.endJob_empty (p := p) hsheets,
          Part.enterSettling_value (p := p) hnot hfunding, Part.handOffCard_gone (p := q) rfl, Part.closeSession_eq]
        rfl
      have hcalm : q.sessionClosed.Calm := (Part.settling_calm (p := p) hs .cardGone).same ⟨rfl, rfl, rfl, rfl, rfl⟩
      have hevent := event_handsOver hf hcalm rfl hwork hpending hqueue hreserved (Part.freeSlots_congr ⟨rfl, rfl, rfl, rfl⟩)
      have hline := (Part.enqueue_congr (p := s.part) (q := q.sessionClosed) rfl rfl 0 ended.tallyMessage).2
      have hresult : q.sessionClosed.handedOver (unwrittenStatus charge) =
          { s.part with
            permit := false, job := {}, card := { s.part.card with session := .closed }
            journal := { s.part.journal with reserved := s.part.journal.reserved - 1 }
            line := (s.part.sendFrame 0 ended.tallyMessage).line
            outputs := { s.part.outputs with card := s.part.outputs.card ++ [[0x08, 0xF8]] }
            store :=
              { s.part.store with
                queue :=
                  [q.sessionClosed.sequencePost, q.sessionClosed.recordPost (unwrittenStatus charge),
                    { write := .checkpoint none, notes := [] }] }
            panel := s.part.panel.raise .jobState } := by
        unfold Part.handedOver
        rw [show q.sessionClosed.job.tallyMessage = ended.tallyMessage from rfl, hline,
          show q.sessionClosed.panel = s.part.panel.raise .jobState from rfl, Panel.raise_raise]
        rfl
      rw [hresult] at hevent
      exact hevent

/-! ### Refused cards and value cards (R21, R22, R70 to R72) -/

namespace Part

/-- A record that fails its validation, or that the job controller refuses, is ejected (R70, R71). -/
theorem cardIn_ejects {p : Part} {record : List Byte} {r : Reject}
    (h : validateCard record = .error r ∨ ∃ card, validateCard record = .ok card ∧ p.cardRefusal card = some r) :
    p.cardIn record = p.eject r := by
  unfold cardIn
  rcases h with hinvalid | ⟨card, hvalid, hrefused⟩
  · rw [hinvalid]
  · rw [hvalid]
    dsimp only
    rw [hrefused]

theorem cardIn_opens {p : Part} {record : List Byte} {card : CardRecord} (hvalid : validateCard record = .ok card)
    (haccepted : p.cardRefusal card = none) : p.cardIn record = p.openJob card := by
  unfold cardIn
  rw [hvalid]
  dsimp only
  rw [haccepted]

/-- A part that is IDLE, in service, with room in the journal and a deferred slot for an account card, refuses no card (R21). -/
theorem cardRefusal_none {p : Part} (hjob : p.job = {}) (ho : p.config.outcome ≠ .bad) (hroom : 17 < p.freeSlots)
    {card : CardRecord} (hslot : ∀ account home, card = .account account home → p.deferredFree = true) :
    p.cardRefusal card = none := by
  unfold cardRefusal
  rw [if_neg (by simp [hjob]), if_neg (by simp [outOfService, ho]), if_neg (by omega)]
  cases card with
  | account number home => exact if_pos (hslot number home rfl)
  | value v => rfl

/-- The post of the next job number (R21). -/
def numberPost (p : Part) : Post where
  write := .counter .jobNumber (nextJobNumber p.ledger.jobNumber)
  notes := []

theorem takeJob_joins {p : Part} (hqueue : p.store.queue = []) :
    p.takeJob =
      ({ p with
          job := { ({} : Job) with number := nextJobNumber p.ledger.jobNumber }
          journal := { p.journal with reserved := p.journal.reserved + 1 } } : Part).joined [p.numberPost] := by
  unfold takeJob Part.postRunning
  dsimp only
  rw [Store.postRunning_joins (by simp [hqueue]) (by simp [hqueue])]
  rfl

theorem postCheckpoint_behind {p : Part} {c : Checkpoint} (hc : p.job.checkpoint = some c) (hplace : p.store.queue.length < 8)
    (hname : ∀ post ∈ p.store.queue, post.write.name ≠ .checkpoint) :
    p.postCheckpoint = p.joined [{ write := .checkpoint (some c), notes := [] }] := by
  unfold postCheckpoint
  rw [hc]
  dsimp only
  unfold Part.postRunning
  rw [Store.postRunning_joins (w := .checkpoint (some c)) hplace hname]
  rfl

end Part

/-- A command that leaves the part at rest, the path as it was and more than 16 journal slots free. -/
theorem event_roomy {s : State} {f : Part → Part} {q : Part} (hf : f s.part = q) (hq : q.AtRest)
    (hpath : q.path.sheets = s.part.path.sheets) (hfree : 16 < q.freeSlots) : event s f = .next { s with part := q.alert } := by
  have hlow : q.journalLow s.part = q := if_neg (by simp [hfree])
  unfold event
  rw [Part.command_rest hf hq (Part.reactIdle_path hpath), hlow]

/-- Settles O43: the tests of R70 and R21 in their order, and the record of a value card that passes them. -/
theorem cardsAreRefusedOrOpenAValueJob : Obligations.CardsAreRefusedOrOpenAValueJob := by
  refine ⟨?refused, ?accepted⟩
  case refused =>
    intro s record reason h hcase
    have hs := h.1
    refine event_rest h ?_ ⟨rfl, rfl, rfl, rfl, rfl, rfl, rfl, rfl⟩ rfl
    rw [inService_serving hs, Part.cardIn_ejects (r := reason) ?_]
    · rfl
    · refine hcase.imp_right fun ⟨card, hvalid, htests⟩ => ⟨card, hvalid, ?_⟩
      rw [← htests]
      have hbad : (s.part.outOfService = true) = (s.part.config.outcome = .bad) := by simp [Part.outOfService]
      unfold Part.cardRefusal
      simp only [hbad]
      cases card with
      | account number home =>
        have hslots : s.part.deferredFree = decide (¬16 ≤ s.part.deferredUsed + s.part.settlement.reserved) :=
          decide_eq_decide.mpr (by show _ < 16 ↔ _; omega)
        simp only [hslots, decide_eq_true_eq, ite_not]
      | value v => rfl
  case accepted =>
    intro s record card h hvalid hjob ho hroom hqueue number
    obtain ⟨hs, hwork, hpending, -, -, -, -, hstart⟩ := id h
    have hrun : s.part.job.state ≠ .running := by simp [hjob]
    let opened : Job :=
      { ({} : Job) with
        state := .ready, number := number, funding := some .value, payer := card.serial
        limit := some card.balance, cls := card.cls, lastActivity := s.part.now }
    let c : Checkpoint :=
      { job := number, funding := .value, payer := card.serial, home := none, holdId := none
        limit := card.balance, cls := card.cls, gross := 0, delivered := 0, mono := 0, colour := 0
        position := 0, unbilled := 0, unpermitted := 0, spoiled := 0, jams := 0 }
    let base : Part :=
      { s.part with
        job := opened
        card := { s.part.card with session := .held card number }
        journal := { s.part.journal with reserved := s.part.journal.reserved + 1 }
        outputs := { s.part.outputs with card := s.part.outputs.card ++ [[0x05, 0xFB]] }
        panel := s.part.panel.raise .jobState }
    have hf : inService (Part.cardIn record) s.part =
        base.joined [s.part.numberPost, { write := .checkpoint (some c), notes := [] }] := by
      have hready : s.part.openValueJob card = (base.joined [s.part.numberPost]).postCheckpoint := by
        unfold Part.openValueJob
        rw [Part.takeJob_joins hqueue]
        rfl
      rw [inService_serving hs,
        Part.cardIn_opens hvalid (Part.cardRefusal_none hjob ho hroom fun _ _ hc => by cases hc)]
      show s.part.openValueJob card = _
      rw [hready, Part.postCheckpoint_behind (p := base.joined [s.part.numberPost]) (c := c) rfl ?_ ?_, Part.joined_joined]
      · rfl
      · show (s.part.store.queue ++ [_]).length < 8
        simp [hqueue]
      · intro post hpost
        have hpost' : post ∈ s.part.store.queue ++ [s.part.numberPost] := hpost
        rw [hqueue, List.nil_append, List.mem_singleton] at hpost'
        rw [hpost']
        exact RecordName.noConfusion
    have hrest : (base.joined [s.part.numberPost, { write := .checkpoint (some c), notes := [] }]).AtRest :=
      Part.atRest_notRunning hs hwork hpending hstart JobState.noConfusion (fun hd => JobState.noConfusion hd)
        (h.released hrun) rfl
    have hfree : 16 < (base.joined [s.part.numberPost, { write := .checkpoint (some c), notes := [] }]).freeSlots := by
      rw [Part.freeSlots_joined (p := base) hpending _ ?_]
      · have hbase : base.freeSlots = s.part.freeSlots - 1 := by
          show journalFree s.part.ledger (s.part.journal.reserved + 1) = journalFree s.part.ledger s.part.journal.reserved - 1
          unfold journalFree
          push_cast
          ring
        omega
      · intro post hpost l
        simp only [List.mem_cons, List.not_mem_nil, or_false] at hpost
        rcases hpost with rfl | rfl <;> exact ⟨rfl, rfl⟩
    refine (event_roomy hf hrest rfl hfree).trans ?_
    show Host.Outcome.next _ = Host.Outcome.next _
    unfold Part.joined
    rw [show base.store.queue = [] from hqueue]
    rfl

end Sys2Proof.Machine
end


section
/-! Proofs about an account card: the first ask of its home, by a frame or of the own hold table (R21, R23, R24, R90, R102). -/

-- One theorem after another: many small theorems elaborated at once need more threads than the check allows.
set_option Elab.async false

namespace Sys2Proof.Machine

open Sys2Proof

namespace Part

/-! ### Changes of a hold record as steps of work (R85, R86) -/

/-- The part after the post of a hold record, with the held amount that goes with it (R85, R86). -/
def heldPost (p : Part) (slot : Nat) (value : Option HoldRecord) (notes : List Note) : Part :=
  { p.joined [{ write := .hold slot value, notes := notes }] with
    accounts := { p.accounts with held := heldChange p.accounts.held (tableGet p.ledger.holds slot) value } }

theorem Calm.heldPost {p : Part} (h : p.Calm) (slot : Nat) (value : Option HoldRecord) (notes : List Note) :
    (p.heldPost slot value notes).Calm := h.same ⟨rfl, rfl, rfl, rfl, rfl⟩

theorem changeHold_eq {p : Part} (hplace : p.store.queue.length < 8) (slot : Nat) (value : Option HoldRecord)
    (notes : List Note) : p.changeHold slot value notes = some (p.heldPost slot value notes) :=
  changeHold_joins hplace slot value notes

/-- The post of a hold record leaves the journal's free count as it was (R173). -/
theorem heldPost_freeSlots {p : Part} (hpending : p.store.pending = []) (slot : Nat) (value : Option HoldRecord)
    (notes : List Note) : (p.heldPost slot value notes).freeSlots = p.freeSlots :=
  (freeSlots_congr (p := p.joined [{ write := .hold slot value, notes := notes }]) ⟨rfl, rfl, rfl, rfl⟩).trans
    (freeSlots_joined_hold hpending slot value notes)

/-- A hold record that is posted by a calm part whose queue has a place. -/
theorem Works.putHold {n : Nat} {p r : Part} {slot : Nat} {value : HoldRecord} {notes : List Note} {tasks : List Task}
    (hcalm : p.Calm) (hwork : p.store.work = []) (hpending : p.store.pending = []) (hplace : p.store.queue.length < 8)
    (hrest : Works n (p.heldPost slot (some value) notes) tasks r) :
    Works (n + 1) p (.putHold slot value notes :: tasks) r :=
  .calm (q := p.heldPost slot (some value) notes) (more := [])
    (show (p.changeHold slot (some value) notes).map _ = _ by rw [changeHold_eq hplace]; rfl) (.inl hplace) hwork hpending
    (hcalm.heldPost _ _ _) hrest

/-! ### The ask of the own hold table (R90, R102) -/

theorem takeAsk_new {p : Part} {source account job : Nat} (hjob : job ≠ 0) (hnew : repeatOf p.ledger source account job = none)
    (wanted : Nat) : p.takeAsk source account job wanted = p.decideAsk source account job wanted := by
  unfold takeAsk
  rw [if_neg hjob, hnew]

/-- The three first tests of an ask that is not a repeat, and its grant (R90). -/
theorem decideAsk_cases (p : Part) (source account job wanted : Nat) :
    (findAccount p.ledger account = none →
        p.decideAsk source account job wanted = (p.answerDeny source job .unknownAccount, [])) ∧
      ∀ place a, findAccount p.ledger account = some (place, a) →
        let grant := min (min wanted (available a (p.held account))) 100000
        (a.blocked = true → p.decideAsk source account job wanted = (p.answerDeny source job .blocked, [])) ∧
          (a.blocked = false → grant < p.config.values.minGrant →
            p.decideAsk source account job wanted = (p.answerDeny source job .noCredit, [])) ∧
          ((lowestFree p.ledger.holds 0 64).isSome = true → a.blocked = false → p.config.values.minGrant ≤ grant →
            p.decideAsk source account job wanted = (p, [.newHold source account job grant])) := by
  refine ⟨fun h => ?_, fun place a h => ?_⟩
  · unfold decideAsk
    rw [h]
  · have hgrant : p.askGrant account wanted = min (min wanted (available a (p.held account))) 100000 := by
      unfold askGrant availableOf
      rw [h]
      rfl
    have hdecide : p.decideAsk source account job wanted =
        if a.blocked then (p.answerDeny source job .blocked, [])
        else if p.askGrant account wanted < p.config.values.minGrant then (p.answerDeny source job .noCredit, [])
        else if (lowestFree p.ledger.holds 0 64).isSome then (p, [.newHold source account job (p.askGrant account wanted)])
        else
          match evictable p.ledger.holds with
          | none => (p.answerDeny source job .holdTableFull, [])
          | some (slot, r) =>
            (p, [.journal (lapseBody r .evicted), .dropHold slot, .newHold source account job (p.askGrant account wanted)]) := by
      unfold decideAsk
      rw [h]
      rfl
    rw [hdecide, hgrant]
    exact ⟨fun hb => if_pos hb, fun hb hlow => by rw [if_neg (by simp [hb]), if_pos hlow],
      fun hfree hb hmin => by rw [if_neg (by simp [hb]), if_neg (by omega), if_pos hfree]⟩

/-- A denial of the own ask ends the job unfunded (R23). -/
theorem answerDeny_own {p : Part} {r : DenyReason} (hstate : p.job.state = .authorize) (hhome : p.job.home = some p.station) :
    p.answerDeny p.station p.job.number r = p.denyJob (.denied r.code) := by
  unfold answerDeny takeDeny answersJob jobDeny
  rw [if_pos rfl, if_pos (by simp [hstate, hhome]), if_pos hstate]

theorem denyJob_calm {p : Part} (hs : p.phase = .serving) (hpermit : p.permit = false) (r : Reject) : (p.denyJob r).Calm := by
  refine ⟨hs, fun hd => JobState.noConfusion hd.1, fun hout => ?_, ?_, ?_⟩
  · simp [outOfFunds, denyJob, clearJob, raise, releaseJournal, releaseDeferred, rejectWith] at hout
  · simp [runOutHolds, denyJob, clearJob, raise, releaseJournal, releaseDeferred, rejectWith]
  · simp [permitHolds, denyJob, clearJob, raise, releaseJournal, releaseDeferred, rejectWith, hpermit]

theorem makeHold_eq {p : Part} {slot : Nat} (hslot : lowestFree p.ledger.holds 0 64 = some slot) (source account job grant : Nat) :
    let id := nextHoldId p.ledger.holds 65 p.ledger.holdId
    p.makeHold source account job grant =
      (p,
        [.putHoldId id,
          .putHold slot
            { id := id, account := account, station := source, job := job, amount := grant, state := .active
              touched := p.now / 1000 }
            [.grant source slot id job]]) := by
  unfold makeHold
  rw [show lowestFree p.ledger.holds 0 Config.holdSlots = some slot from hslot]
  rfl

theorem lowestFree_free {α : Type} {t : Table α} {start bound slot : Nat} (h : lowestFree t start bound = some slot) :
    tableGet t slot = none := by
  simpa using List.find?_some h

/-- A denial of the own ask is one step, after which the record is IDLE (R23). -/
theorem deniedAsk_works {p : Part} {t : Task} {r : DenyReason} (hcalm : p.Calm) (hwork : p.store.work = [])
    (hpending : p.store.pending = []) (hplace : p.store.queue.length < 8)
    (hstep : t.step p = some (p.answerDeny p.station p.job.number r, [])) (hstate : p.job.state = .authorize)
    (hhome : p.job.home = some p.station) : p.Works 1 [t] (p.denyJob (.denied r.code)) := by
  have hpermit : p.permit = false := by
    obtain ⟨-, -, -, -, hpermit⟩ := hcalm
    rw [hpermit]
    simp [permitHolds, hstate]
  rw [answerDeny_own hstate hhome] at hstep
  exact .calm hstep (.inl hplace) hwork hpending (denyJob_calm hcalm.1 hpermit _) (.done _)

/-- A grant of the own ask takes its id and posts its record (R88, R90). -/
theorem grantedAsk_works {p : Part} {t : Task} {source account job grant slot : Nat} (hcalm : p.Calm) (hwork : p.store.work = [])
    (hpending : p.store.pending = []) (hplace : p.store.queue.length + 1 < 8)
    (hname : ∀ post ∈ p.store.queue, post.write.name ≠ .counter .holdId)
    (hstep : t.step p = some (p, [.newHold source account job grant]))
    (hslot : lowestFree p.ledger.holds 0 64 = some slot) :
    let id := nextHoldId p.ledger.holds 65 p.ledger.holdId
    let r : HoldRecord :=
      { id := id, account := account, station := source, job := job, amount := grant, state := .active
        touched := p.now / 1000 }
    p.Works 4 [t] ((p.joined [{ write := .counter .holdId id, notes := [] }]).heldPost slot (some r) [.grant source slot id job]) := by
  intro id r
  have hmake : (Task.newHold source account job grant).step p =
      some (p, [.putHoldId id, .putHold slot r [.grant source slot id job]]) := congrArg some (makeHold_eq hslot _ _ _ _)
  have hplace' : p.store.queue.length < 8 := by omega
  refine .calm hstep (.inl hplace') hwork hpending hcalm ?_
  refine .calm hmake (.inl hplace') hwork hpending hcalm ?_
  refine .post (w := .counter .holdId id) (notes := []) hcalm hwork hpending rfl hplace' hname ?_
  refine .putHold (hcalm.joined _) hwork hpending ?_ (.done _)
  show (p.store.queue ++ [_]).length < 8
  simpa using hplace

/-! ### The job that asks (R21, R23, R24) -/

/-- The part whose open job asks for a hold, before the ask is made (R21, R23, R72). -/
def askingJob (p : Part) (funding : Funding) (account home : Nat) : Part :=
  { p with
    job :=
      { ({} : Job) with
        state := .authorize, number := nextJobNumber p.ledger.jobNumber, funding := some funding, payer := account
        home := some home }
    card := { p.card with returns := min 7 (p.card.returns + 1) }
    journal := { p.journal with reserved := p.journal.reserved + 1 }
    settlement := { p.settlement with reserved := p.settlement.reserved + 1 }
    store := { p.store with queue := [p.numberPost] }
    panel := p.panel.raise .jobState }

theorem openAsking_eq {p : Part} (hqueue : p.store.queue = []) (account home : Nat) :
    p.expectReturn.openAsking account home =
      p.askingJob (if home = p.station then .accountLocal else .accountRemote) account home := by
  unfold openAsking
  rw [takeJob_joins (p := p.expectReturn) hqueue]
  unfold joined
  rw [show p.expectReturn.store.queue = [] from hqueue]
  rfl

/-- The ledger of a job that asks differs from the one before in the job number alone. -/
theorem askingJob_ledger {p : Part} (hqueue : p.store.queue = []) (hpending : p.store.pending = []) (funding : Funding)
    (account home : Nat) :
    (p.askingJob funding account home).ledger = { p.ledger with jobNumber := nextJobNumber p.ledger.jobNumber } := by
  have hjoined := newestFree_joined (p := p) hpending p.numberPost
  unfold joined at hjoined
  rw [hqueue] at hjoined
  exact hjoined

theorem askingJob_calm {p : Part} (h : p.AtRest) (hrun : p.job.state ≠ .running) (funding : Funding) (account home : Nat) :
    (p.askingJob funding account home).Calm := by
  refine ⟨h.1, fun hd => JobState.noConfusion hd.1, fun hout => ?_, ?_, ?_⟩
  · simp [outOfFunds, askingJob] at hout
  · simp [runOutHolds, askingJob]
  · simp [permitHolds, askingJob, h.released hrun]

theorem askingJob_freeSlots {p : Part} (hqueue : p.store.queue = []) (hpending : p.store.pending = []) (funding : Funding)
    (account home : Nat) : (p.askingJob funding account home).freeSlots = p.freeSlots - 1 := by
  unfold freeSlots
  rw [askingJob_ledger hqueue hpending]
  show journalFree _ (p.journal.reserved + 1) = _
  unfold journalFree
  push_cast
  ring

theorem nextJobNumber_ne_zero (counter : Nat) : nextJobNumber counter ≠ 0 := by
  unfold nextJobNumber
  split <;> omega

/-- What a grant of the own ask leaves of the job that asks: the id and the record posted, its amount counted as held (R86, R90). -/
theorem askingJob_granted {p : Part} (hqueue : p.store.queue = []) (hpending : p.store.pending = []) {slot : Nat}
    (hslot : lowestFree p.ledger.holds 0 64 = some slot) (account home id grant : Nat) {r : HoldRecord}
    (hr : r.account = account ∧ r.amount = grant ∧ r.state = .active) (notes : List Note) :
    ((p.askingJob .accountLocal account home).joined [{ write := .counter .holdId id, notes := [] }]).heldPost slot (some r) notes =
      { p with
        job :=
          { ({} : Job) with
            state := .authorize, number := nextJobNumber p.ledger.jobNumber, funding := some .accountLocal, payer := account
            home := some home }
        card := { p.card with returns := min 7 (p.card.returns + 1) }
        journal := { p.journal with reserved := p.journal.reserved + 1 }
        settlement := { p.settlement with reserved := p.settlement.reserved + 1 }
        accounts := { p.accounts with held := countSet p.accounts.held account (p.held account + grant) }
        store :=
          { p.store with
            queue :=
              [p.numberPost, { write := .counter .holdId id, notes := [] }, { write := .hold slot (some r), notes := notes }] }
        panel := p.panel.raise .jobState } := by
  obtain ⟨haccount, hamount, hstate⟩ := hr
  have hledger := newestFree_joined (p := p.askingJob .accountLocal account home) hpending
    { write := .counter .holdId id, notes := [] }
  rw [askingJob_ledger hqueue hpending] at hledger
  have hheld : heldChange p.accounts.held (tableGet p.ledger.holds slot) (some r) =
      countSet p.accounts.held account (p.held account + grant) := by
    rw [lowestFree_free hslot]
    show countSet p.accounts.held r.account (p.held r.account + activeAmount r) = _
    rw [activeAmount, if_pos hstate, haccount, hamount]
  unfold heldPost
  rw [hledger]
  show ({ (p.askingJob .accountLocal account home).joined _ with
    accounts := { p.accounts with held := heldChange p.accounts.held (tableGet p.ledger.holds slot) (some r) } } : Part) = _
  rw [hheld]
  rfl

/-- What a denial of the own ask leaves of the job that asks: the number posted and the reason, both reservations released (R23). -/
theorem askingJob_denied {p : Part} (hjob : p.job = {}) (account home : Nat) (reason : Reject) :
    (p.askingJob .accountLocal account home).denyJob reason =
      { p with
        card := { p.card with returns := min 7 (p.card.returns + 1) }
        store := { p.store with queue := [p.numberPost] }
        panel := { (p.panel.raise .jobState).raise .cardReject with reject := some reason } } := by
  show ({ p.askingJob .accountLocal account home with
    job := {}, journal := p.journal, settlement := p.settlement
    panel := ((p.panel.raise .jobState).raise .jobState).rejectWith reason } : Part) = _
  rw [Panel.raise_raise, ← hjob]
  rfl

end Part

/-- An accepted account card opens a job that asks its home, by a frame or of the own hold table (R21, R23, R24). -/
theorem cardIn_asks {p : Part} {record : List Byte} {number home : Nat} (h : p.AtRest)
    (hvalid : validateCard record = .ok (.account number home)) (hjob : p.job = {}) (ho : p.config.outcome ≠ .bad)
    (hroom : 17 < p.freeSlots) (hslots : p.deferredUsed + p.settlement.reserved < 16) (hqueue : p.store.queue = []) :
    inService (Part.cardIn record) p =
      if home = p.station then
        (p.askingJob (if home = p.station then .accountLocal else .accountRemote) number home).assign .hold
          [.ask p.station number (nextJobNumber p.ledger.jobNumber) p.config.values.holdStep]
      else (p.askingJob (if home = p.station then .accountLocal else .accountRemote) number home).askAttempt := by
  rw [inService_serving h.1,
    Part.cardIn_opens hvalid (Part.cardRefusal_none hjob ho hroom fun _ _ _ => decide_eq_true hslots)]
  show p.expectReturn.openAccountJob number home = _
  rw [Part.openAccountJob_eq, Part.openAsking_eq hqueue]
  rfl

/-- The own ask as work of the hold table, and what it comes to (R102). -/
theorem exec_asksOwn {s : State} {record : List Byte} {account n : Nat} {q : Part} (h : s.part.AtRest)
    (hf : inService (Part.cardIn record) s.part =
      (s.part.askingJob .accountLocal account s.part.station).assign .hold
        [.ask s.part.station account (nextJobNumber s.part.ledger.jobNumber) s.part.config.values.holdStep])
    (hrun : s.part.job.state ≠ .running)
    (hworks : (s.part.askingJob .accountLocal account s.part.station).Works n
      [.ask s.part.station account (nextJobNumber s.part.ledger.jobNumber) s.part.config.values.holdStep] q) (hn : n ≤ 4096) :
    exec (.cardIn record) s = .next { s with part := (q.journalLow s.part).alert } := by
  obtain ⟨hs, hwork, hpending, -⟩ := id h
  exact event_works hf hs hwork hpending (List.cons_ne_nil _ _) (Part.reactIdle_path rfl)
    (Part.askingJob_calm h hrun _ _ _).react_withWork rfl hworks hn

/-- Settles O44: the job opens with both reservations, and its ask is a frame, or is decided by the own hold table at once. -/
theorem accountCardAsksItsHome : Obligations.AccountCardAsksItsHome := by
  refine ⟨?remote, ?own⟩
  case remote =>
    intro s record number home h hvalid hhome hjob ho hroom hslots hqueue job ticket sent
    obtain ⟨hs, hwork, hpending, -, -, -, -, hstart⟩ := id h
    have hrun : s.part.job.state ≠ .running := by simp [hjob]
    have hother : home ≠ s.part.station := hhome
    let p := s.part.askingJob .accountRemote number home
    let message : Message := .holdAsk number job s.part.config.values.holdStep
    have hf : inService (Part.cardIn record) s.part =
        { p with
          job :=
            { p.job with
              askAttempts := 1, askDue := some (s.part.now + 400)
              askFrame := if p.refusesFrame home then none else some ticket }
          line := (p.sendFrame home message).line } := by
      rw [cardIn_asks h hvalid hjob ho hroom hslots hqueue, if_neg hother, if_neg hother]
      show p.askAttempt = _
      unfold Part.askAttempt
      rw [Part.enqueue_eq]
      rfl
    have hsame := Part.enqueue_congr (p := s.part) (q := p) rfl rfl home message
    have hfree : 16 < p.freeSlots := by
      rw [Part.askingJob_freeSlots hqueue hpending]
      omega
    have hevent := event_roomy hf
      (Part.atRest_notRunning hs hwork hpending hstart JobState.noConfusion (fun hd => JobState.noConfusion hd)
        (h.released hrun) rfl) rfl
      (lt_of_lt_of_eq hfree (Part.freeSlots_congr (p := p) ⟨rfl, rfl, rfl, rfl⟩).symm)
    rw [hsame.1, hsame.2] at hevent
    by_cases hrefuses : s.part.refusesFrame home = true
    · have hnot : ¬sent := by simp [sent, hrefuses]
      have hline : (s.part.sendFrame home message).line = s.part.line := by
        unfold Part.sendFrame Part.enqueue
        rw [if_pos hrefuses]
      rw [if_pos hrefuses, hline] at hevent
      rw [if_neg hnot, if_neg hnot]
      exact hevent
    · have hsent : sent := by simpa [sent] using hrefuses
      have hline : (s.part.sendFrame home message).line =
          { s.part.line with
            outbound := insertFrame s.part.line.outbound { ticket := ticket, dest := home, message := message }
            nextTicket := ticket + 1 } := by
        unfold Part.sendFrame Part.enqueue
        rw [if_neg hrefuses]
      rw [if_neg hrefuses, hline] at hevent
      rw [if_pos hsent, if_pos hsent]
      exact hevent
  case own =>
    intro s record account h hvalid hjob ho hroom hslots hqueue job l station counted returned denied hnew
    obtain ⟨hs, hwork, hpending, -, -, -, -, hstart⟩ := id h
    have hrun : s.part.job.state ≠ .running := by simp [hjob]
    let p := s.part.askingJob .accountLocal account station
    have hcalm : p.Calm := Part.askingJob_calm h hrun _ _ _
    have hledger : p.ledger = { l with jobNumber := job } := Part.askingJob_ledger hqueue hpending _ _ _
    have hpfree : p.freeSlots = s.part.freeSlots - 1 := Part.askingJob_freeSlots hqueue hpending _ _ _
    let wanted := s.part.config.values.holdStep
    have hown : s.part.config.values.station = s.part.station := rfl
    have hf : inService (Part.cardIn record) s.part = p.assign .hold [.ask station account job wanted] := by
      rw [cardIn_asks h hvalid hjob ho hroom hslots hqueue, if_pos hown, if_pos hown]
      rfl
    have hask : (Task.ask station account job wanted).step p = some (p.decideAsk station account job wanted) :=
      congrArg some
        (Part.takeAsk_new (p := p) (job := job) (Part.nextJobNumber_ne_zero s.part.ledger.jobNumber)
          (by rw [hledger]; exact hnew) wanted)
    have hplace : p.store.queue.length + 1 < 8 := by show 1 + 1 < 8; decide
    have hdenies (r : DenyReason) (hdecide : p.decideAsk station account job wanted = (p.answerDeny station job r, [])) :
        denied r.code := by
      have hworks := Part.deniedAsk_works (p := p) (r := r) hcalm hwork hpending (by omega)
        (hask.trans (congrArg some hdecide)) rfl rfl
      have hsame : (p.denyJob (.denied r.code)).freeSlots = s.part.freeSlots := by
        show journalFree p.ledger s.part.journal.reserved = journalFree l s.part.journal.reserved
        rw [hledger]
        rfl
      have hevent := exec_asksOwn h hf hrun hworks (by decide)
      rw [Part.journalLow_same hsame, Part.askingJob_denied hjob] at hevent
      exact hevent
    have hcases := p.decideAsk_cases station account job wanted
    rw [hledger] at hcases
    refine ⟨fun hnone => hdenies .unknownAccount (hcases.1 hnone), ?_⟩
    intro place a hfound grant
    obtain ⟨hblocked, hlow, hgrants⟩ := hcases.2 place a hfound
    refine ⟨fun hb => hdenies .blocked (hblocked hb), fun hb hmin => hdenies .noCredit (hlow hb hmin), ?_⟩
    intro slot hslot hb hmin id
    have hdecide := hgrants (by rw [show lowestFree _ 0 64 = some slot from hslot]; rfl) hb hmin
    have hname : ∀ post ∈ p.store.queue, post.write.name ≠ .counter .holdId := by
      intro post hpost
      rw [List.mem_singleton.mp hpost]
      exact fun hc => by cases hc
    have hworks := Part.grantedAsk_works (p := p) hcalm hwork hpending hplace hname (hask.trans (congrArg some hdecide))
      (by rw [hledger]; exact hslot)
    rw [hledger] at hworks
    let r : HoldRecord :=
      { id := id, account := account, station := station, job := job, amount := grant, state := .active
        touched := s.part.now / 1000 }
    let identified : Part := p.joined [{ write := .counter .holdId id, notes := [] }]
    let q : Part := identified.heldPost slot (some r) [.grant station slot id job]
    have hfree : 16 < q.freeSlots := by
      have hidentified : identified.freeSlots = p.freeSlots :=
        Part.freeSlots_joined (p := p) hpending _ fun post hpost k => by rw [List.mem_singleton.mp hpost]; exact ⟨rfl, rfl⟩
      have hposted : q.freeSlots = identified.freeSlots := Part.heldPost_freeSlots (p := identified) hpending _ _ _
      rw [hposted, hidentified, hpfree]
      omega
    have hevent := exec_asksOwn h hf hrun hworks (by decide)
    have hnotLow : q.journalLow s.part = q := if_neg (by simp [hfree])
    have hresult := Part.askingJob_granted (p := s.part) hqueue hpending hslot account station id grant (r := r) ⟨rfl, rfl, rfl⟩
      [.grant station slot id job]
    refine hevent.trans ?_
    show Host.Outcome.next { s with part := (q.journalLow s.part).alert } = _
    rw [hnotLow, show q = _ from hresult]
    rfl

end Sys2Proof.Machine
end


section
/-! Proofs about the timers of asks and top-ups, the keeping of a hold, and its loss (R24, R25, R26, R31 to R33, R37, R83). -/

-- One theorem after another: many small theorems elaborated at once need more threads than the check allows.
set_option Elab.async false

namespace Sys2Proof.Machine

open Sys2Proof

namespace Part

/-! ### Frames that are queued (R146) -/

/-- The line with a frame queued (R146). -/
theorem sendFrame_line {p : Part} {dest : Nat} (h : p.refusesFrame dest = false) (m : Message) :
    (p.sendFrame dest m).line =
      { p.line with
        outbound := insertFrame p.line.outbound { ticket := p.line.nextTicket, dest := dest, message := m }
        nextTicket := p.line.nextTicket + 1 } := by
  unfold sendFrame enqueue
  rw [if_neg (by simp [h])]

theorem askAttempt_eq (p : Part) :
    p.askAttempt =
      { p with
        job :=
          { p.job with
            askAttempts := p.job.askAttempts + 1, askDue := some (p.now + 400)
            askFrame := if p.refusesFrame (p.job.home.getD 0) then none else some p.line.nextTicket }
        line :=
          (p.sendFrame (p.job.home.getD 0) (.holdAsk p.job.payer p.job.number p.config.values.holdStep)).line } := by
  unfold askAttempt
  rw [enqueue_eq]
  rfl

/-! ### The float decision (R25, R83) -/

/-- When the hold of an account job is kept next (R33). -/
def keepAlive (p : Part) : Option Nat :=
  if p.job.accountFunded then p.job.lifetime.elim p.job.keepDue fun lifetime => some (p.now + keepInterval lifetime)
  else p.job.keepDue

theorem armKeep_eq (p : Part) : p.armKeep = { p with job := { p.job with keepDue := p.keepAlive } } := by
  have hunfunded (h : p.job.accountFunded = false) : p.keepAlive = p.job.keepDue := if_neg (by simp [h])
  have hnone (h : p.job.lifetime = none) : p.keepAlive = p.job.keepDue := by
    unfold keepAlive
    rw [h, Option.elim_none, ite_self]
  have hsome (h : p.job.accountFunded = true) {lifetime : Nat} (hlifetime : p.job.lifetime = some lifetime) :
      p.keepAlive = some (p.now + keepInterval lifetime) := by
    unfold keepAlive
    rw [if_pos h, hlifetime, Option.elim_some]
  unfold armKeep
  cases hfunded : p.job.accountFunded with
  | false => rw [hunfunded hfunded]
  | true =>
    cases hlifetime : p.job.lifetime with
    | none => rw [hnone hlifetime]
    | some lifetime => rw [hsome hfunded hlifetime]

/-- The record of a job that enters READY (R22 to R25, R33). -/
def readyJob (p : Part) : Job :=
  { p.job with state := .ready, askDue := none, askFrame := none, lastActivity := p.now, keepDue := p.keepAlive }

/-- With no post queued, entry to READY posts the checkpoint (R22 to R25, R168). -/
theorem enterReady_joins {p : Part} {c : Checkpoint} (hstate : p.job.state ≠ .ready) (hqueue : p.store.queue = [])
    (hc : p.readyJob.checkpoint = some c) :
    p.enterReady =
      { p with
        job := p.readyJob
        store := { p.store with queue := [{ write := .checkpoint (some c), notes := [] }] }
        panel := p.panel.raise .jobState } := by
  have hasked : ({ p with job := { p.job with askDue := none, askFrame := none } } : Part).setJobState .ready =
      ({ p with job := { p.job with askDue := none, askFrame := none, state := .ready } } : Part).raise .jobState := if_neg hstate
  unfold enterReady
  rw [hasked, armKeep_eq]
  have hposted := postCheckpoint_joins (p := { p with job := p.readyJob, panel := p.panel.raise .jobState }) hqueue
  rw [hc] at hposted
  unfold joined at hposted
  rw [show ({ p with job := p.readyJob, panel := p.panel.raise .jobState } : Part).store.queue = [] from hqueue] at hposted
  exact hposted

end Part

/-- A job that enters READY with no post queued (R22 to R25). -/
theorem event_entersReady {s : State} {f : Part → Part} {p : Part} {c : Checkpoint} (h : s.part.AtRest) (hf : f s.part = p.enterReady)
    (hstate : s.part.job.state = .authorize)
    (hs : p.phase = s.part.phase ∧ p.path = s.part.path ∧ p.permit = s.part.permit ∧ p.store = s.part.store ∧
      p.journal = s.part.journal ∧ p.job.state = s.part.job.state ∧ p.job.runOutDue = s.part.job.runOutDue)
    (hqueue : s.part.store.queue = []) (hc : p.readyJob.checkpoint = some c) :
    event s f =
      .next
        { s with
          part :=
            ({ p with
                job := p.readyJob
                store := { p.store with queue := [{ write := .checkpoint (some c), notes := [] }] }
                panel := p.panel.raise .jobState } : Part).alert } := by
  obtain ⟨hphase, hpath, hpermit, hstore, hjournal, hjob, hdue⟩ := hs
  obtain ⟨hserving, hwork, hpending, -, -, -, -, hstart⟩ := id h
  have hnot : p.job.state ≠ .ready := by rw [hjob, hstate]; decide
  have hrun : s.part.job.state ≠ .running := by rw [hstate]; decide
  rw [hstore.symm] at hqueue hwork hpending hstart
  let q : Part :=
    { p with
      job := p.readyJob
      store := { p.store with queue := [{ write := .checkpoint (some c), notes := [] }] }
      panel := p.panel.raise .jobState }
  have hq : q.AtRest :=
    Part.atRest_notRunning (hphase.trans hserving) hwork hpending hstart JobState.noConfusion (fun hd => JobState.noConfusion hd)
      (hpermit.trans (h.released hrun)) (hdue.trans (h.runOutDue hrun))
  refine event_atRest (hf.trans (Part.enterReady_joins hnot hqueue hc)) hq (congrArg PathMonitor.sheets hpath) ?_
  have hjoined : q.freeSlots = p.freeSlots := by
    have hposted := Part.freeSlots_joined (p := p) hpending [{ write := .checkpoint (some c), notes := [] }]
      (fun post hpost l => by rw [List.mem_singleton.mp hpost]; exact ⟨rfl, rfl⟩)
    unfold Part.joined at hposted
    rw [hqueue] at hposted
    exact (Part.freeSlots_congr ⟨rfl, rfl, rfl, rfl⟩).trans hposted
  have hfree : p.freeSlots = s.part.freeSlots := Part.freeSlots_congr (by rw [hstore, hjournal]; exact ⟨rfl, rfl, rfl, rfl⟩)
  rw [show Part.freeSlots _ = q.freeSlots from rfl, hjoined, hfree]

/-- A job in AUTHORIZE that ends unfunded gives both reservations back (R23, R24, R25). -/
theorem event_denies {s : State} {f : Part → Part} {r : Reject} (h : s.part.AtRest) (hf : f s.part = s.part.denyJob r)
    (hstate : s.part.job.state = .authorize) :
    event s f =
      .next
        { s with
          part :=
            ({ s.part with
                job := {}
                journal := { s.part.journal with reserved := s.part.journal.reserved - 1 }
                settlement := { s.part.settlement with reserved := s.part.settlement.reserved - 1 }
                panel := { (s.part.panel.raise .jobState).raise .cardReject with reject := some r } } : Part).alert } := by
  obtain ⟨hs, hwork, hpending, -, -, -, -, hstart⟩ := id h
  have hrun : s.part.job.state ≠ .running := by rw [hstate]; decide
  refine event_atRest hf ?_ rfl ?_
  · exact Part.atRest_notRunning hs hwork hpending hstart JobState.noConfusion (fun hd => JobState.noConfusion hd)
      (h.released hrun) rfl
  · show journalFree s.part.ledger s.part.journal.reserved ≤ journalFree s.part.ledger (s.part.journal.reserved - 1)
    unfold journalFree
    omega

/-- Settles O47: each timer's own rule, with the float decision after the third ask. -/
theorem timersAskAgainKeepTheHoldOrGiveUp : Obligations.TimersAskAgainKeepTheHoldOrGiveUp := by
  refine ⟨?asks, ?others⟩
  case asks =>
    intro s home due h hstate hhome hdue hcome j v grant
    have hs := h.1
    have hended : inService Part.askTimer s.part = s.part.askAttemptEnded := by
      rw [inService_serving hs]
      exact if_pos ⟨hstate, by simp [isDue, hdue, hcome]⟩
    have hnot : s.part.job.state ≠ .ready := by rw [hstate]; decide
    refine ⟨fun hfewer hline => ?again, fun hthird hgrant hqueue => ?floats, fun hthird hgrant => ?silent⟩
    case again =>
      have hget : s.part.job.home.getD 0 = home := by rw [hhome]; rfl
      have hf := hended.trans ((if_pos hfewer).trans s.part.askAttempt_eq)
      rw [hget, Part.sendFrame_line hline, hline] at hf
      exact event_atRest hf h rfl (le_of_eq rfl)
    case floats =>
      intro floated
      let p : Part :=
        { s.part with
          job := { s.part.job with funding := some .float, limit := some grant, cls := 0, holdId := none, lifetime := none }
          settlement := { s.part.settlement with floatOutstanding := s.part.settlement.floatOutstanding + grant } }
      have hf : inService Part.askTimer s.part = p.enterReady := by
        rw [hended, Part.askAttemptEnded, if_neg (Nat.not_lt.mpr hthird)]
        exact if_pos hgrant
      exact event_entersReady h hf hstate ⟨rfl, rfl, rfl, rfl, rfl, rfl, rfl⟩ hqueue rfl
    case silent =>
      have hf : inService Part.askTimer s.part = s.part.denyJob .homeSilent := by
        rw [hended, Part.askAttemptEnded, if_neg (Nat.not_lt.mpr hthird)]
        exact if_neg (Nat.not_le.mpr hgrant)
      exact event_denies h hf hstate
  case others =>
    intro s home due h hcome j hold
    have hs := h.1
    have htimer (htop : j.topupOutstanding = true) (hdue : j.topupDue = some due) :
        inService Part.topupTimer s.part = s.part.topupAttemptEnded := by
      rw [inService_serving hs]
      exact if_pos ⟨htop, by simp [isDue, show s.part.job.topupDue = some due from hdue, hcome]⟩
    refine ⟨fun hhome htop hdue hfewer hline => ?again, fun htop hdue hthird hrun hsheets => ?third,
      fun lifetime hlifetime hhome hfunding hdue hline => ?keeps, fun c hcancelled hdue => ?cancelled⟩
    case again =>
      have hget : s.part.job.home.getD 0 = home := by rw [show s.part.job.home = some home from hhome]; rfl
      have hf := (htimer htop hdue).trans ((if_pos hfewer).trans s.part.topupAttempt_eq)
      rw [hget, Part.sendFrame_line hline, if_neg (by simp [hline]), ← show s.part.job.topupOutstanding = true from htop] at hf
      exact event_atRest hf h rfl (le_of_eq rfl)
    case third =>
      have hfalse : s.part.runOutHolds = false := by simp [Part.runOutHolds, hsheets]
      obtain ⟨-, hwork, hpending, -, -, hduesome, hpermit, -⟩ := id h
      have hnone : s.part.job.runOutDue = none := by
        rw [hfalse] at hduesome
        exact Option.isSome_eq_false_iff.mp hduesome.symm |> Option.isNone_iff_eq_none.mp
      have hf : inService Part.topupTimer s.part =
          { s.part with
            job :=
              { s.part.job with
                topupOutstanding := false, topupAttempts := 0, topupDue := none, topupFrame := none, exhausted := some .funds }
            panel := s.part.panel.raise .funds } := by
        rw [htimer htop hdue, Part.topupAttemptEnded, if_neg (Nat.not_lt.mpr hthird)]
        rfl
      refine event_atRest hf ?_ rfl (le_of_eq rfl)
      refine Part.Calm.atRest ⟨hs, ?_, fun _ => .inr rfl, ?_, hpermit⟩ hwork hpending h.2.2.2.2.2.2.2
      · exact fun hd => absurd ((show s.part.job.state = .draining from hd.1).symm.trans hrun) (by decide)
      · show Part.runOutHolds _ = s.part.job.runOutDue.isSome
        rw [hnone]
        simp [Part.runOutHolds, hsheets]
    case keeps =>
      have hget : s.part.job.home.getD 0 = home := by rw [show s.part.job.home = some home from hhome]; rfl
      let p : Part := { s.part with job := { s.part.job with keepDue := some (due + keepInterval lifetime) } }
      have hline' : p.refusesFrame home = false := hline
      have hf : inService Part.keepTimer s.part =
          { p with line := (p.sendFrame home (.holdKeep hold j.number)).line } := by
        rw [inService_serving hs]
        unfold Part.keepTimer
        rw [show s.part.job.keepDue = some due from hdue, show s.part.job.lifetime = some lifetime from hlifetime]
        dsimp only
        rw [if_pos hcome]
        show p.keepHold = _
        unfold Part.keepHold
        rw [if_pos (show p.job.funding = some .accountRemote from hfunding), Part.sendFrame, Part.enqueue_eq]
        show ({ p with line := (p.sendFrame (s.part.job.home.getD 0) _).line } : Part) = _
        rw [hget]
      rw [Part.sendFrame_line hline'] at hf
      exact event_atRest hf h rfl (le_of_eq rfl)
    case cancelled =>
      have hf : inService Part.cancelledTimer s.part =
          { s.part with
            settlement := { s.part.settlement with cancelled := none, reserved := s.part.settlement.reserved - 1 } } := by
        rw [inService_serving hs]
        unfold Part.cancelledTimer
        rw [hcancelled]
        exact if_pos (by simp [isDue, hdue, hcome])
      exact event_atRest hf h rfl (le_of_eq rfl)

/-! ### The loss of the hold (R37, R42) -/

/-- Settles O49: what HOLD_GONE does in each state of the job that it finds with sheets in the path. -/
theorem lostHoldEndsTheJob : Obligations.LostHoldEndsTheJob := by
  intro s source holdId h hhome hid j lost
  obtain ⟨hs, hwork, hpending, hdrain, -, -, -, hstart⟩ := id h
  have hgone (hstate : s.part.job.state ≠ .idle) :
      inService (fun p => p.takeGone source holdId j.number) s.part = s.part.jobGone holdId := by
    rw [inService_serving hs, Part.takeGone_job hhome hstate]
  let cleared : Part := ({ s.part with job := s.part.job.clearTopup } : Part).exhaust .holdLost
  refine ⟨fun hopen hsheets => ?drains, fun hstate => ?jammed, fun hstate => ?draining, fun hstate => ?ignored⟩
  case drains =>
    have hopen' : s.part.job.state = .ready ∨ s.part.job.state = .running ∨ s.part.job.state = .paused := hopen
    have hidle : s.part.job.state ≠ .idle := by rcases hopen' with hst | hst | hst <;> simp [hst]
    have hnot : s.part.job.state ≠ .draining := by rcases hopen' with hst | hst | hst <;> simp [hst]
    have hf := (hgone hidle).trans ((Part.jobGone_ends hid hopen').trans (Part.endJob_sheets (p := cleared) hsheets hnot _))
    exact event_notRunning h hf JobState.noConfusion (fun _ => hsheets) ⟨rfl, rfl, rfl, rfl⟩
  case jammed =>
    have hstate' : s.part.job.state = .jammed := hstate
    have hrun : s.part.job.state ≠ .running := by rw [hstate']; decide
    have hf : inService (fun p => p.takeGone source holdId j.number) s.part = cleared.markDrain .holdLost := by
      rw [hgone (by rw [hstate']; decide)]
      unfold Part.jobGone
      rw [if_neg (by simp [hid]), hstate']
    refine event_atRest hf ?_ rfl (le_of_eq rfl)
    exact Part.atRest_notRunning hs hwork hpending hstart hrun (fun hd => absurd (hstate'.symm.trans hd) (by decide))
      (h.released hrun) (h.runOutDue hrun)
  case draining =>
    have hstate' : s.part.job.state = .draining := hstate
    have hrun : s.part.job.state ≠ .running := by rw [hstate']; decide
    have hf : inService (fun p => p.takeGone source holdId j.number) s.part =
        { cleared with job := cleared.job.endWith .holdLost } := by
      rw [hgone (by rw [hstate']; decide)]
      unfold Part.jobGone
      rw [if_neg (by simp [hid]), hstate']
    refine event_atRest hf ?_ rfl (le_of_eq rfl)
    exact Part.atRest_notRunning hs hwork hpending hstart hrun (fun hd hsheets => hdrain ⟨hd, List.isEmpty_iff.mpr hsheets⟩)
      (h.released hrun) (h.runOutDue hrun)
  case ignored =>
    have hstate' : s.part.job.state = .authorize ∨ s.part.job.state = .settling := hstate
    have hidle : s.part.job.state ≠ .idle := by rcases hstate' with hst | hst <;> simp [hst]
    refine event_ignored h ((hgone hidle).trans ?_)
    unfold Part.jobGone
    rw [if_neg (by simp [hid])]
    rcases hstate' with hst | hst <;> rw [hst]

end Sys2Proof.Machine
end


section
/-! Proofs about how work goes on: what the pump of a command comes to, one work before others, and the write-done of the oldest post
(R161, R164, R172). -/

-- One theorem after another: many small theorems elaborated at once need more threads than the check allows.
set_option Elab.async false

namespace Sys2Proof.Machine

open Sys2Proof

namespace Part

/-! ### What the pump comes to (R164) -/

/-- The work of a part goes on to its end in at most `n` steps, and leaves `q`. -/
def Pumps (n : Nat) (p q : Part) : Prop := ∀ fuel, n ≤ fuel → p.pump fuel = q

theorem pumps_rest {p : Part} (hwork : p.store.work = []) (hpending : p.store.pending = []) : Pumps 0 p p :=
  fun fuel _ => pump_rest hwork hpending fuel

theorem Works.pumps {n : Nat} {p q : Part} {tasks : List Task} (h : Works n p tasks q) (owner : Owner) (begun : Bool)
    (hwork : p.store.work = []) (hpending : p.store.pending = []) : Pumps n (p.withWork (worksOf owner tasks begun)) q :=
  fun fuel hfuel => pump_works h owner begun fuel hfuel hwork hpending

theorem Pumps.step {n : Nat} {p q after r : Part} (hpending : p.store.pending = []) (hmark : p.markWait = none)
    (h : p.advanceFirst [] p.store.work = some q) (hreact : q.react = after) (hrest : Pumps n after r) : Pumps (n + 1) p r := by
  intro fuel hfuel
  obtain ⟨fuel, rfl⟩ : ∃ f, fuel = f + 1 := ⟨fuel - 1, by omega⟩
  rw [pump_advances hpending hmark h, hreact]
  exact hrest fuel (by omega)

/-- One owner's work takes its next step, which may give other works; the rules that follow leave the part as it is. -/
theorem Pumps.next {n : Nat} {p q r : Part} {owner : Owner} {t : Task} {tasks more : List Task} {begun : Bool}
    (hpending : p.store.pending = []) (hwork : p.store.work = []) (hstep : t.step p = some (q, more)) (hr : p.Ready t)
    (hcalm : q.Calm)
    (hrest : Pumps n (q.withWork (putBack q.store.work { owner := owner, tasks := more ++ tasks, begun := true })) r) :
    Pumps (n + 1) (p.withWork (worksOf owner (t :: tasks) begun)) r := by
  have hmark := markWait_alone (p := p) (w := { owner := owner, tasks := t :: tasks, begun := begun }) rfl hr
  refine .step (p := p.withWork (worksOf owner (t :: tasks) begun)) hpending hmark
    (advanceFirst_runs (canRun_single _) ?_) (hcalm.react_withWork _) hrest
  unfold advance
  simp only [List.append_nil, withWork_withWork, withWork_nil hwork, hstep, Option.map_some]

/-! ### One work before others (R164, R172) -/

/-- Work that has not begun, that waits for nothing, and whose next step is not the journal's. -/
def Stands (w : Work) : Prop := w.begun = false ∧ w.since = none ∧ w.block ≠ .journal

/-- The first work may take its next step while the others have not begun. -/
theorem canRun_first (w : Work) {others : List Work} (h : ∀ x ∈ others, Stands x) : canRun (w :: others) w = true := by
  have hidle (owner : Owner) : others.find? (fun x => x.begun && decide (x.owner = owner)) = none :=
    List.find?_eq_none.mpr fun x hx => by simp [(h x hx).1]
  have hoccupies (x : Work) (hx : x ∈ others) (owner : Owner) : x.occupies owner = false := by
    obtain ⟨hbegun, -, hblock⟩ := h x hx
    simp [Work.occupies, hbegun, hblock]
  have hunoccupied (owner : Owner) : others.find? (fun x => x.occupies owner) = none :=
    List.find?_eq_none.mpr fun x hx => by simp [hoccupies x hx owner]
  have hfree : ownerFree (w :: others) w = true := by
    unfold ownerFree
    cases hb : w.begun with
    | true => rfl
    | false =>
      have hothers : others.any (fun x =>
          decide (x.owner = w.owner) && (x.begun || (x.occupies x.owner && !w.occupies w.owner))) = false :=
        List.any_eq_false.mpr fun x hx => by simp [(h x hx).1, hoccupies x hx]
      rw [List.any_cons, hothers, hb]
      cases w.occupies w.owner <;> simp
  have hholder : holder (w :: others) w.block = some w := by
    unfold holder
    cases hb : w.begun && decide (w.owner = w.block) with
    | true => rw [List.find?_cons_of_pos (by simpa using hb)]
    | false =>
      rw [List.find?_cons_of_neg (by simp [hb]), hidle]
      cases ho : w.occupies w.block with
      | true => rw [List.find?_cons_of_pos (p := fun x : Work => x.occupies w.block) ho]
      | false =>
        rw [List.find?_cons_of_neg (by simp [ho]), hunoccupied]
        exact List.find?_cons_of_pos (by simp [hfree])
  simp [canRun, hholder, hfree]

/-- Other works whose next steps post nothing begin no wait. -/
def Quiet (p : Part) (others : List Work) : Prop :=
  ∀ x ∈ others, ∀ t tasks, x.tasks = t :: tasks → ∀ work, t.write (p.withWork work) = none

/-- The steps of one work, taken while other works stand behind it: each made at once, and each leaving the part calm. -/
inductive Leads (others : List Work) : Nat → Part → List Task → Part → Prop
  | done (p : Part) : Leads others 0 p [] p
  | step {n : Nat} {p q r : Part} {t : Task} {tasks more : List Task}
      (hstep : t.step (p.withWork others) = some (q.withWork others, more)) (hready : p.Ready t) (hpending : q.store.pending = [])
      (hcalm : q.Calm) (hrest : Leads others n q (more ++ tasks) r) : Leads others (n + 1) p (t :: tasks) r

theorem markWait_first {p : Part} {w : Work} {t : Task} {tasks : List Task} {others : List Work} (hw : w.tasks = t :: tasks)
    (hr : p.Ready t) (hquiet : ∀ q : Part, q.Quiet others) : (p.withWork (w :: others)).markWait = none := by
  have hfirst : (p.withWork (w :: others)).marksWait w = false := by
    unfold marksWait
    rw [hw]
    simp only [Bool.and_eq_false_iff]
    right
    rcases hr with hplace | hwrite
    · cases t.write (p.withWork (w :: others)) with
      | none => rfl
      | some post =>
        have hqueue : (p.withWork (w :: others)).store.queue = p.store.queue := rfl
        simp [Store.hasPlace, Config.queuePlaces, hqueue, hplace]
    · rw [hwrite]
  have hrest : ∀ x ∈ others, (p.withWork (w :: others)).marksWait x = false := by
    intro x hx
    unfold marksWait
    simp only [Bool.and_eq_false_iff]
    right
    cases htasks : x.tasks with
    | nil => rfl
    | cons u us => simp only [hquiet p x hx u us htasks]
  unfold markWait
  have hnone : (w :: others).find? (p.withWork (w :: others)).marksWait = none :=
    List.find?_eq_none.mpr fun x hx => by
      rcases List.mem_cons.mp hx with rfl | hx
      · simp [hfirst]
      · simp [hrest x hx]
  rw [show (p.withWork (w :: others)).store.work = w :: others from rfl, hnone]
  rfl

theorem putBack_first {others : List Work} (h : ∀ x ∈ others, Stands x) (owner : Owner) (tasks : List Task) :
    putBack others { owner := owner, tasks := tasks, begun := true, since := none } = worksOf owner tasks true ++ others := by
  cases tasks with
  | nil => rfl
  | cons t ts =>
    have htake : others.takeWhile (fun x => x.since.isSome) = [] ∧ others.dropWhile (fun x => x.since.isSome) = others := by
      cases others with
      | nil => exact ⟨rfl, rfl⟩
      | cons x xs =>
        have hx := (h x List.mem_cons_self).2.1
        simp [hx]
    unfold putBack
    simp only [htake.1, htake.2, List.nil_append]
    rfl

/-- The first work goes on to its end before the works behind it. -/
theorem Leads.pumps {others : List Work} (hothers : ∀ x ∈ others, Stands x) (hquiet : ∀ q : Part, q.Quiet others) {n m : Nat}
    {p q r : Part} {tasks : List Task} (h : Leads others n p tasks q) (owner : Owner) (hrest : Pumps m (q.withWork others) r) :
    ∀ begun, p.store.pending = [] → Pumps (n + m) (p.withWork (worksOf owner tasks begun ++ others)) r := by
  induction h with
  | done p =>
    intro begun _
    rw [Nat.zero_add]
    exact hrest
  | @step n p q r t tasks more hstep hready hpending hcalm _ ih =>
    intro begun hppending
    let w : Work := { owner := owner, tasks := t :: tasks, begun := begun }
    have hadvance : (p.withWork (w :: others)).advance w ([] ++ others) =
        some (q.withWork (worksOf owner (more ++ tasks) true ++ others)) := by
      unfold advance
      simp only [w, List.nil_append, withWork_withWork, hstep, Option.map_some]
      rw [show (q.withWork others).store.work = others from rfl, putBack_first hothers]
    rw [show n + 1 + m = n + m + 1 by omega]
    exact .step (p := p.withWork (w :: others)) hppending (markWait_first rfl hready hquiet)
      (advanceFirst_runs (canRun_first w hothers) hadvance) (hcalm.react_withWork _) (ih hrest true hpending)

theorem jobTold_withWork (p : Part) (work : List Work) (status : JournalStatus) :
    (p.withWork work).jobTold status = (p.jobTold status).withWork work := by
  have hline := (enqueue_congr (p := p.jobRecorded status) (q := (p.withWork work).jobRecorded status) rfl rfl 0
    p.job.tallyMessage).2
  unfold jobTold
  rw [show (p.withWork work).job = p.job from rfl, hline]
  rfl

theorem handedOver_withWork (p : Part) (work : List Work) (status : JournalStatus) :
    (p.withWork work).handedOver status = (p.handedOver status).withWork work := by
  have hline := (enqueue_congr (p := p) (q := p.withWork work) rfl rfl 0 p.job.tallyMessage).2
  unfold handedOver
  rw [show (p.withWork work).job = p.job from rfl, hline]
  rfl

/-- The hand-off of a job, with other work behind it (R123, R172, R180). -/
theorem handOff_leads (others : List Work) {p : Part} (hcalm : p.Calm) (hstate : p.job.state = .settling)
    (hpending : p.store.pending = []) (hqueue : p.store.queue = []) (status : JournalStatus) :
    Leads others 5 p (p.handOffTasks status) (p.handedOver status) := by
  obtain ⟨hs, -, -, -, hpermit⟩ := id hcalm
  have hreleased : p.permit = false := by rw [hpermit]; simp [permitHolds, hstate]
  have hcounted : p.jobCounted.Calm := hcalm.same ⟨rfl, rfl, rfl, rfl, rfl⟩
  let waiting := p.withWork others
  have hput : (Task.journalPut (p.ledger.journalSequence + 1) (.job (p.job.journalEntry status))).step waiting.jobCounted =
      some (waiting.jobRecorded status, []) := by
    show waiting.jobCounted.justPost _ [] = _
    have hname : ∀ post ∈ waiting.jobCounted.store.queue, post.write.name ≠ (p.recordPost status).write.name := by
      intro post hpost
      rw [List.mem_singleton.mp hpost]
      exact RecordName.noConfusion
    have hjoins := tryPost_joins (p := waiting.jobCounted) (w := (p.recordPost status).write) (by show 1 < 8; decide) hname []
    exact congrArg (Option.map fun q => (q, [])) hjoins
  refine .step (q := p) (t := .journal _) (more := [.journalCount _]) rfl (.inl (by simp [hqueue])) hpending hcalm ?_
  refine .step (q := p.jobCounted) (step_journalCount (p := waiting) hqueue status) (.inl (by simp [hqueue])) hpending hcounted ?_
  refine .step (q := p.jobRecorded status) hput (.inl (by show 1 < 8; decide)) hpending (hcounted.joined _) ?_
  have htold := waiting.step_tally status
  have hdone := step_handedOff (p := waiting) hpending status
  rw [jobTold_withWork] at htold hdone
  rw [handedOver_withWork] at hdone
  refine .step (q := p.jobTold status) htold (.inr fun _ => rfl) hpending
    ((hcounted.joined [p.recordPost status]).same ⟨rfl, rfl, rfl, rfl, rfl⟩) ?_
  exact .step (q := p.handedOver status) hdone (.inr fun _ => rfl) hpending
    (handedOver_calm hs hreleased status) (.done _)

end Part

/-! ### Commands (R161, R164) -/

/-- A command, by what the work that it leaves comes to. -/
theorem event_pumped {s : State} {f : Part → Part} {p q : Part} {n : Nat} (hf : (f s.part).reactIdle s.part = p)
    (hs : (f s.part).phase = .serving) (h : Part.Pumps n p.react q) (hn : n ≤ 4096) :
    event s f = .next { s with part := (q.journalLow s.part).alert } := by
  have hphase : p.react.phase = .serving := by
    rw [← hf]
    simpa using hs
  have hfollow : (f s.part).follow s.part = q := by
    unfold Part.follow
    rw [hs]
    dsimp only
    rw [hf, Part.goOn_serving hphase]
    exact h 4096 hn
  unfold event Part.command
  rw [hfollow]

/-- A part whose oldest post has been stored, before its write-done is sent (R161 items 1 and 2). -/
def Part.stored (p : Part) (post : Post) (rest : List Post) : Part :=
  { p with
    store := { p.store with stored := program p.store.stored post.write, queue := rest, starting := !rest.isEmpty } }

/-- A write that is stored is in the newest values as it was before (R163). -/
theorem Part.stored_ledger {p : Part} {post : Post} {rest : List Post} (hqueue : p.store.queue = post :: rest) :
    (p.stored post rest).ledger = p.ledger := by
  unfold Part.ledger Store.newest Part.stored
  rw [hqueue]
  rfl

/-- WRITE_COMPLETE of a part at rest: the post is stored, its owners act, and what follows goes on until nothing is left (R161). -/
theorem event_writeDone {s : State} {post : Post} {rest : List Post} {p q : Part} {n : Nat} (h : s.part.AtRest)
    (hqueue : s.part.store.queue = post :: rest)
    (hacts : post.notes.foldl (fun r note => note.act r) (s.part.stored post rest) = p) (hs : p.phase = .serving)
    (hidle : p.reactIdle s.part = p) (hpumps : Part.Pumps n p.react q) (hn : n ≤ 4096) (hcalm : q.Calm)
    (hqwork : q.store.work = []) (hqpending : q.store.pending = []) (hpath : q.path.sheets = s.part.path.sheets)
    (hfree : q.freeSlots = s.part.freeSlots) :
    exec .writeComplete s = .next { s with part := (q.setStarting s.part.store.starting).alert } := by
  obtain ⟨hserving, hwork, hpending, -, -, -, -, hstart⟩ := id h
  have hstored : (s.part.programOldest post rest).setStarting (!rest.isEmpty) = s.part.stored post rest := rfl
  have hpump : (s.part.stored post rest).pump pumpFuel = s.part.stored post rest :=
    Part.pump_rest (p := s.part.stored post rest) hwork hpending _
  have hphase : p.react.phase = .serving := by simpa using hs
  have hfollow : p.follow s.part = q := by
    unfold Part.follow
    rw [hs]
    dsimp only
    rw [hidle, Part.goOn_serving hphase]
    exact hpumps 4096 hn
  have hwritten : s.part.writeComplete = q.setStarting false := by
    rw [Part.writeComplete_serving hserving hqueue, hstored, hpump, hacts, hfollow]
  have hrest : (q.setStarting false).AtRest :=
    Part.Calm.atRest (hcalm.same ⟨rfl, rfl, rfl, rfl, rfl⟩) hqwork hqpending rfl
  rw [hstart]
  exact event_atRest hwritten hrest hpath (le_of_eq ((Part.freeSlots_congr ⟨rfl, rfl, rfl, rfl⟩).trans hfree).symm)

end Sys2Proof.Machine
end


section
/-! Proofs about the apply procedure: a SETTLE that is discarded, answered, applied or an orphan (R130 to R135). -/

-- One theorem after another: many small theorems elaborated at once need more threads than the check allows.
set_option Elab.async false

namespace Sys2Proof.Machine

open Sys2Proof

/-- The first record that satisfies a test, when another that satisfies it takes its place. -/
theorem tableFind_put {α : Type} {t : Table α} (ht : Rising t) {test : α → Bool} {k : Nat} {old new : α}
    (hfind : tableFind t test = some (k, old)) (hnew : test new = true) : tableFind (tablePut t k new) test = some (k, new) := by
  induction t with
  | nil => cases hfind
  | cons e t ih =>
    obtain ⟨i, w⟩ := e
    obtain ⟨hlow, hrest⟩ := List.pairwise_cons.mp ht
    unfold tableFind at hfind ih ⊢
    by_cases hw : test w = true
    · rw [List.find?_cons_of_pos (by exact hw)] at hfind
      cases hfind
      simp [tablePut, hnew]
    · rw [List.find?_cons_of_neg (by exact hw)] at hfind
      have hlt : i < k := hlow _ (List.mem_of_find?_eq_some hfind)
      have hput : tablePut ((i, w) :: t) k new = (i, w) :: tablePut t k new := by
        simp only [tablePut]
        rw [if_neg (by omega), if_neg (by omega)]
      rw [hput, List.find?_cons_of_neg (by exact hw)]
      exact ih hrest hfind

/-- A hold record that keeps its id is found in its slot (R85). -/
theorem findHold_put {l : Ledger} (hl : Rising l.holds) {id slot : Nat} {old new : HoldRecord} (hfind : findHold l id = some (slot, old))
    (hnew : new.id = id) : findHold (program l (.hold slot (some new))) id = some (slot, new) :=
  tableFind_put hl hfind (by simp [hnew])

theorem ownHold_find {l : Ledger} {source holdId job slot : Nat} {r : HoldRecord}
    (h : ownHold l source holdId job = some (slot, r)) :
    findHold l holdId = some (slot, r) ∧ r.job = job ∧ r.station = source ∧ r.id = holdId := by
  unfold ownHold at h
  split at h
  · next found heq =>
    split at h
    · next hmine =>
      cases h
      have hid := List.find?_some heq
      exact ⟨heq, hmine.1, hmine.2, by simpa using hid⟩
    · cases h
  · cases h

namespace Part

/-! ### Frames taken from the inbound queue (R148) -/

/-- The part whose inbound queue has lost one frame, between those ahead and those behind (R148). -/
def taken (p : Part) (ahead behind : List InFrame) : Part := { p with line := { p.line with inbound := ahead ++ behind } }

/-- A block takes its oldest frame (R148). -/
theorem takeFrame_oldest {p : Part} {mine : Message → Bool} {ahead behind : List InFrame} {f : InFrame}
    (hinbound : p.line.inbound = ahead ++ f :: behind) (hahead : ∀ g ∈ ahead, mine g.message = false)
    (hmine : mine f.message = true) (act : Part → InFrame → Option Part) :
    p.takeFrame mine act = (act (p.taken ahead behind) f).getD p := by
  have hfind : p.line.inbound.find? (fun g => mine g.message) = some f := by
    rw [hinbound, List.find?_append, List.find?_eq_none.mpr fun g hg => by simp [hahead g hg]]
    simp [hmine]
  have herase : p.line.inbound.eraseP (fun g => mine g.message) = ahead ++ behind := by
    rw [hinbound, List.eraseP_append_right _ fun g hg => by simp [hahead g hg]]
    simp [hmine]
  unfold takeFrame
  rw [hfind, herase]
  rfl

theorem busy_none {p : Part} (hwork : p.store.work = []) (owner : Owner) : p.busy owner = false := by
  simp [busy, hwork]

theorem sendingWaits_none {p : Part} (hwork : p.store.work = []) : p.sendingWaits = false := by
  simp [sendingWaits, hwork]

theorem takeWhenReady_oldest {p : Part} {mine : Message → Bool} {ahead behind : List InFrame} {f : InFrame}
    (hwork : p.store.work = []) (hinbound : p.line.inbound = ahead ++ f :: behind) (hahead : ∀ g ∈ ahead, mine g.message = false)
    (hmine : mine f.message = true) (owner : Owner) (act : Part → InFrame → Option Part) :
    p.takeWhenReady owner mine act = (act (p.taken ahead behind) f).getD p := by
  unfold takeWhenReady
  rw [if_neg (by simp [busy_none hwork])]
  exact takeFrame_oldest hinbound hahead hmine act

/-- Only the line differs when a frame is taken. -/
theorem AtRest.taken {p : Part} (h : p.AtRest) (ahead behind : List InFrame) : (p.taken ahead behind).AtRest := h

/-- Only the line differs when a frame is sent. -/
theorem sendFrame_eq (p : Part) (dest : Nat) (m : Message) :
    p.sendFrame dest m = { p with line := (p.sendFrame dest m).line } := by
  conv_lhs => unfold sendFrame
  rw [enqueue_eq]

theorem AtRest.sendFrame {p : Part} (h : p.AtRest) (dest : Nat) (m : Message) : (p.sendFrame dest m).AtRest := by
  rw [sendFrame_eq]
  exact h

theorem Calm.sendFrame {p : Part} (h : p.Calm) (dest : Nat) (m : Message) : (p.sendFrame dest m).Calm := by
  rw [sendFrame_eq]
  exact h.same ⟨rfl, rfl, rfl, rfl, rfl⟩

theorem sendFrame_withWork (p : Part) (work : List Work) (dest : Nat) (m : Message) :
    (p.withWork work).sendFrame dest m = (p.sendFrame dest m).withWork work := by
  have hline := (enqueue_congr (p := p) (q := p.withWork work) rfl rfl dest m).2
  rw [sendFrame_eq (p.withWork work), sendFrame_eq p, hline]
  rfl

/-! ### Records of the journal that may be lost (R172, R174) -/

/-- The posts of a journal record: its sequence, and the record at its ring position (R172). -/
def bodyPosts (p : Part) (body : JournalBody) : List Post :=
  [{ write := .counter .journalSequence (p.ledger.journalSequence + 1), notes := [] },
    { write := journalWrite (p.ledger.journalSequence + 1) body, notes := [] }]

theorem bodyPosts_freeSlots {p : Part} (hpending : p.store.pending = []) (body : JournalBody) :
    p.freeSlots - 1 ≤ (p.joined (p.bodyPosts body)).freeSlots := by
  have hledger : (p.joined (p.bodyPosts body)).ledger =
      program (program p.ledger (.counter .journalSequence (p.ledger.journalSequence + 1)))
        (journalWrite (p.ledger.journalSequence + 1) body) := by
    unfold bodyPosts
    rw [← List.singleton_append, ← joined_joined, newestFree_joined (by exact hpending), newestFree_joined hpending]
  unfold freeSlots
  rw [hledger]
  show journalFree p.ledger p.journal.reserved - 1 ≤
    journalFree { p.ledger with journalSequence := p.ledger.journalSequence + 1, journal := _ } p.journal.reserved
  unfold journalFree
  push_cast
  omega

/-- A record that may be lost is journalled in three steps, while a slot is free (R172, R174). -/
theorem Works.journal {n : Nat} {p r : Part} {body : JournalBody} {tasks : List Task} (hlosable : body.losable = true)
    (hcalm : p.Calm) (hwork : p.store.work = []) (hpending : p.store.pending = []) (hplace : p.store.queue.length + 1 < 8)
    (hsequence : ∀ post ∈ p.store.queue, post.write.name ≠ .counter .journalSequence)
    (hposition : ∀ post ∈ p.store.queue, ∀ i, post.write.name ≠ .journal i) (hfree : 1 ≤ p.freeSlots)
    (hrest : Works n (p.joined (p.bodyPosts body)) tasks r) : Works (n + 3) p (.journal body :: tasks) r := by
  have hplace' : p.store.queue.length < 8 := by omega
  have hhand : (Task.journal body).step p = some (p, [.journalCount body]) := by
    show some (p.handJournal body) = _
    unfold handJournal
    rw [if_neg (by simp [hlosable]; omega)]
  let counted : Part := p.joined [{ write := .counter .journalSequence (p.ledger.journalSequence + 1), notes := [] }]
  have hcount : (Task.journalCount body).step p = some (counted, [.journalPut (p.ledger.journalSequence + 1) body]) := by
    have hjoins := tryPost_joins (p := p) (w := .counter .journalSequence (p.ledger.journalSequence + 1)) hplace' hsequence []
    show p.stepJournalCount _ = _
    unfold stepJournalCount
    dsimp only
    rw [hjoins, Option.map_some, if_pos hlosable]
  refine .calm hhand (.inl hplace') hwork hpending hcalm ?_
  refine .calm (q := counted) hcount (.inl hplace') hwork hpending (hcalm.joined _) ?_
  refine .post (w := journalWrite (p.ledger.journalSequence + 1) body) (notes := []) (hcalm.joined _) hwork hpending rfl ?_ ?_ ?_
  · show (p.store.queue ++ [_]).length < 8
    simpa using hplace
  · intro post hpost
    rcases List.mem_append.mp hpost with hp | hp
    · exact hposition post hp _
    · rw [List.mem_singleton.mp hp]
      exact RecordName.noConfusion
  · rw [show counted.joined [{ write := journalWrite (p.ledger.journalSequence + 1) body, notes := [] }] =
      p.joined (p.bodyPosts body) from joined_joined _ _ _]
    exact hrest

/-! ### A settlement that is decided (R133 to R135) -/

/-- The part whose apply procedure records a settlement, before its posts (R135). -/
def recording (p : Part) (x : Settlement) : Part :=
  { p with
    settlement := { p.settlement with stage := .recording, current := some x, sequence := p.ledger.applySequence + 1 } }

/-- The posts of RECORDING: the apply sequence, and the apply record (R135). -/
def recordingPosts (p : Part) (x : Settlement) : List Post :=
  [{ write := .counter .applySequence (p.ledger.applySequence + 1), notes := [] },
    { write := .apply (some (applyRecordOf (p.ledger.applySequence + 1) x)), notes := [.applyRecorded] }]

/-- The hold record of a settlement that is being applied (R100). -/
def settlingHold (p : Part) (r : HoldRecord) : HoldRecord := { r with state := .settling, touched := p.now / 1000 }

theorem decide_found {p : Part} {s x : Settlement} (hid : identify p.ledger s = .found x) :
    (Task.decide s).step p =
      some (if (findAccount p.ledger x.account).isNone then p.startOrphan x else p.startApply x) := by
  show some (p.decideSettlement s) = _
  unfold decideSettlement
  rw [hid]

theorem recording_works {p : Part} {x : Settlement} (hcalm : p.Calm) (hwork : p.store.work = []) (hpending : p.store.pending = [])
    (hplace : p.store.queue.length + 1 < 8)
    (hname : ∀ post ∈ p.store.queue, post.write.name ≠ .counter .applySequence ∧ post.write.name ≠ .apply) (sequence : Nat) :
    p.Works 2 [.putApplySequence sequence, .putApply (applyRecordOf sequence x)]
      (p.joined
        [{ write := .counter .applySequence sequence, notes := [] },
          { write := .apply (some (applyRecordOf sequence x)), notes := [.applyRecorded] }]) := by
  refine .post (w := .counter .applySequence sequence) (notes := []) hcalm hwork hpending rfl (by omega)
    (fun post hpost => (hname post hpost).1) ?_
  refine .post (w := .apply (some (applyRecordOf sequence x))) (notes := [.applyRecorded]) (hcalm.joined _) hwork hpending rfl ?_ ?_ ?_
  · show (p.store.queue ++ [_]).length < 8
    simpa using hplace
  · intro post hpost
    rcases List.mem_append.mp hpost with hp | hp
    · exact (hname post hp).2
    · rw [List.mem_singleton.mp hp]
      exact RecordName.noConfusion
  · rw [joined_joined]
    exact .done _

/-- A float settlement of a known account is recorded (R135). -/
theorem decide_float_works {p : Part} {s x : Settlement} (hcalm : p.Calm) (hwork : p.store.work = []) (hpending : p.store.pending = [])
    (hqueue : p.store.queue = []) (hid : identify p.ledger s = .found x) (hfloat : x.holdId = 0)
    (hknown : (findAccount p.ledger x.account).isSome = true) :
    p.Works 3 [.decide s] ((p.recording x).joined (p.recordingPosts x)) := by
  have hstep : (Task.decide s).step p =
      some (p.recording x, [.putApplySequence (p.ledger.applySequence + 1), .putApply (applyRecordOf (p.ledger.applySequence + 1) x)]) := by
    rw [decide_found hid, if_neg (by simp [Option.isNone_iff_eq_none, Option.ne_none_iff_isSome, hknown])]
    unfold startApply
    dsimp only
    rw [if_pos hfloat]
    rfl
  have hrecording : (p.recording x).Calm := hcalm.same ⟨rfl, rfl, rfl, rfl, rfl⟩
  refine .calm hstep (.inl (by simp [hqueue])) hwork hpending hrecording ?_
  have hempty : (p.recording x).store.queue = [] := hqueue
  exact recording_works hrecording hwork hpending (by simp [hempty]) (by simp [hempty]) _

/-- The settlement of a hold whose account is known marks the hold first (R100, R135). -/
theorem decide_hold_works {p : Part} {s x : Settlement} (hcalm : p.Calm) (hwork : p.store.work = []) (hpending : p.store.pending = [])
    (hqueue : p.store.queue = []) (hid : identify p.ledger s = .found x) (hhold : x.holdId ≠ 0)
    (hknown : (findAccount p.ledger x.account).isSome = true) {slot : Nat} {r : HoldRecord}
    (hfind : findHold p.ledger x.holdId = some (slot, r)) :
    p.Works 4 [.decide s]
      (((p.recording x).heldPost slot (some (p.settlingHold r)) []).joined (p.recordingPosts x)) := by
  have hstep : (Task.decide s).step p =
      some (p.recording x,
        [.markSettling x.holdId, .putApplySequence (p.ledger.applySequence + 1),
          .putApply (applyRecordOf (p.ledger.applySequence + 1) x)]) := by
    rw [decide_found hid, if_neg (by simp [Option.isNone_iff_eq_none, Option.ne_none_iff_isSome, hknown])]
    unfold startApply
    dsimp only
    rw [if_neg hhold]
    rfl
  have hrecording : (p.recording x).Calm := hcalm.same ⟨rfl, rfl, rfl, rfl, rfl⟩
  have hempty : (p.recording x).store.queue = [] := hqueue
  have hmark : (Task.markSettling x.holdId).step (p.recording x) =
      some ((p.recording x).heldPost slot (some (p.settlingHold r)) [], []) := by
    have hpost : (p.recording x).settlingPost x.holdId = some (slot, p.settlingHold r) := by
      unfold settlingPost
      rw [show findHold (p.recording x).ledger x.holdId = some (slot, r) from hfind]
      rfl
    show (p.recording x).stepMarkSettling x.holdId = _
    unfold stepMarkSettling
    rw [hpost]
    dsimp only
    rw [changeHold_eq (by simp [hempty])]
    rfl
  refine .calm hstep (.inl (by simp [hqueue])) hwork hpending hrecording ?_
  refine .calm hmark (.inl (by simp [hempty])) hwork hpending (hrecording.heldPost _ _ _) ?_
  have hone : ((p.recording x).heldPost slot (some (p.settlingHold r)) []).store.queue =
      [{ write := .hold slot (some (p.settlingHold r)), notes := [] }] := by
    show (p.recording x).store.queue ++ _ = _
    rw [hempty]
    rfl
  refine recording_works (hrecording.heldPost _ _ _) hwork hpending (by rw [hone, List.length_singleton]; decide) ?_ _
  intro post hpost
  rw [hone, List.mem_singleton] at hpost
  rw [hpost]
  exact ⟨RecordName.noConfusion, RecordName.noConfusion⟩

/-- Marking a hold settling takes an ACTIVE amount out of the held amount, and nothing else (R86, R100). -/
theorem heldPost_settling {p : Part} (hrising : Rising p.accounts.held) {slot : Nat} {r : HoldRecord}
    (hslot : tableGet p.ledger.holds slot = some r) (n : Nat) :
    (p.heldPost slot (some (p.settlingHold r)) []).held n =
      p.held n - if n = r.account ∧ r.state = .active then r.amount else 0 := by
  show countGet (heldChange p.accounts.held (tableGet p.ledger.holds slot) (some (p.settlingHold r))) n = _
  rw [hslot, countGet_heldChange hrising]
  have hnew : optionShare n (some (p.settlingHold r)) = 0 := by
    simp [optionShare, holdShare, settlingHold, activeAmount]
  have hold : optionShare n (some r) = if n = r.account ∧ r.state = .active then r.amount else 0 := by
    simp only [optionShare, Option.elim_some, holdShare, activeAmount]
    by_cases ha : r.account = n
    · subst ha
      by_cases hst : r.state = .active <;> simp [hst]
    · rw [if_neg ha, if_neg fun hn => ha hn.1.symm]
  rw [hnew, hold]
  rfl

theorem freeSlots_recording (p : Part) (x : Settlement) : (p.recording x).freeSlots = p.freeSlots := rfl

/-- The posts of RECORDING leave the journal's free count as it was (R173). -/
theorem recordingPosts_freeSlots {p : Part} (hpending : p.store.pending = []) (q : Part) (x : Settlement) :
    (p.joined (q.recordingPosts x)).freeSlots = p.freeSlots :=
  freeSlots_joined hpending _ fun post hpost l => by
    simp only [recordingPosts, List.mem_cons, List.not_mem_nil, or_false] at hpost
    rcases hpost with rfl | rfl <;> exact ⟨rfl, rfl⟩

end Part

end Sys2Proof.Machine
end


section
/-! Proofs about SETTLE (R130 to R135, R171). -/

-- One theorem after another: many small theorems elaborated at once need more threads than the check allows.
set_option Elab.async false

namespace Sys2Proof.Machine

open Sys2Proof

namespace Part

theorem joined_alone {p : Part} (h : p.store.queue = []) (posts : List Post) :
    p.joined posts = { p with store := { p.store with queue := posts } } := by
  unfold joined
  rw [h, List.nil_append]

theorem heldPost_alone {p : Part} (h : p.store.queue = []) (slot : Nat) (value : Option HoldRecord) (notes : List Note) :
    p.heldPost slot value notes =
      { p with
        accounts := { p.accounts with held := heldChange p.accounts.held (tableGet p.ledger.holds slot) value }
        store := { p.store with queue := [{ write := .hold slot value, notes := notes }] } } := by
  unfold heldPost
  rw [joined_alone h]

theorem nextRequest_nothing {p : Part} (h : p.settlement.requests = []) : (Task.nextRequest).step p = some (p, []) := by
  show some p.nextRequest = _
  unfold nextRequest
  rw [h]
  cases p.settlement.stage <;> rfl

/-- With no local request the procedure is FREE again (R132). -/
theorem returnFree_nothing {p : Part} (h : p.settlement.requests = []) : p.returnFree = (p, [.nextRequest]) := by
  unfold returnFree
  rw [h]
  simp

/-- A DUPLICATE of another station is answered, and nothing is recorded (R133). -/
theorem decide_duplicate_works {p : Part} {s : Settlement} (hcalm : p.Calm) (hwork : p.store.work = [])
    (hpending : p.store.pending = []) (hrequests : p.settlement.requests = []) (hid : identify p.ledger s = .duplicate)
    (hremote : s.requester = .remote) : p.Works 2 [.decide s] (p.sendFrame s.source (.settleAck s.holdId s.job 2)) := by
  let told := p.sendFrame s.source (.settleAck s.holdId s.job 2)
  have htold : told.store = p.store ∧ told.settlement = p.settlement := by
    show (p.sendFrame _ _).store = _ ∧ (p.sendFrame _ _).settlement = _
    rw [sendFrame_eq]
    exact ⟨rfl, rfl⟩
  have hrequests' : told.settlement.requests = [] := by rw [htold.2]; exact hrequests
  have hstep : (Task.decide s).step p = some (told, [.nextRequest]) := by
    show some (p.decideSettlement s) = _
    unfold decideSettlement
    rw [hid]
    dsimp only
    unfold reportSettlement
    rw [hremote]
    exact congrArg some (returnFree_nothing hrequests')
  have hready (t : Task) (h : ∀ q : Part, t.write q = none) (q : Part) : q.Ready t := .inr fun work => h _
  refine .calm hstep (hready _ (fun _ => rfl) _) (by rw [htold.1]; exact hwork) (by rw [htold.1]; exact hpending)
    (hcalm.sendFrame _ _) ?_
  exact .calm (nextRequest_nothing hrequests') (hready _ (fun _ => rfl) _) (by rw [htold.1]; exact hwork)
    (by rw [htold.1]; exact hpending) (hcalm.sendFrame _ _) (.done _)

/-! ### Orphans (R134, R171) -/

/-- The part whose apply procedure is CLOSING with a settlement, before its posts (R134, R135). -/
def closing (p : Part) (x : Settlement) : Part :=
  { p with settlement := { p.settlement with stage := .closing, current := some x } }

theorem decide_orphan {p : Part} {s x : Settlement} (hid : identify p.ledger s = .found x)
    (hnone : findAccount p.ledger x.account = none) (hremote : x.requester = .remote) :
    (Task.decide s).step p =
      some
        (p.closing x,
          (if x.holdId = 0 then [Task.putMark x.source x.job [.applyClosed .orphan]]
            else [.markSettling x.holdId, .removeHold x.holdId [.applyClosed .orphan]]) ++ [.journal (orphanBody x)]) := by
  rw [decide_found hid, if_pos (by rw [hnone]; rfl)]
  unfold startOrphan orphanTasks
  rw [if_pos hremote]
  rfl

/-- An orphan of a float raises the mark and journals its record (R134, R171). -/
theorem orphan_float_works {p : Part} {s x : Settlement} (hcalm : p.Calm) (hwork : p.store.work = []) (hpending : p.store.pending = [])
    (hqueue : p.store.queue = []) (hid : identify p.ledger s = .found x) (hfloat : x.holdId = 0)
    (hnone : findAccount p.ledger x.account = none) (hremote : x.requester = .remote) (hfree : 1 ≤ p.freeSlots) :
    p.Works 5 [.decide s]
      ((p.closing x).joined
        ({ write := .mark x.source x.job, notes := [.applyClosed .orphan] } :: p.bodyPosts (orphanBody x))) := by
  have hstep := decide_orphan hid hnone hremote
  rw [if_pos hfloat] at hstep
  have hclosing : (p.closing x).Calm := hcalm.same ⟨rfl, rfl, rfl, rfl, rfl⟩
  have hempty : (p.closing x).store.queue = [] := hqueue
  let mark : Post := { write := .mark x.source x.job, notes := [.applyClosed .orphan] }
  have hmarked : ((p.closing x).joined [mark]).store.queue = [mark] := by rw [joined_alone hempty]
  have hsame : ((p.closing x).joined [mark]).freeSlots = p.freeSlots :=
    freeSlots_joined (p := p.closing x) hpending [mark] fun post hpost l => by rw [List.mem_singleton.mp hpost]; exact ⟨rfl, rfl⟩
  have hbody : ((p.closing x).joined [mark]).bodyPosts (orphanBody x) = p.bodyPosts (orphanBody x) := by
    unfold bodyPosts
    rw [newestFree_joined (p := p.closing x) hpending]
    rfl
  refine .calm hstep (.inl (by simp [hqueue])) hwork hpending hclosing ?_
  refine .post (w := .mark x.source x.job) (notes := [.applyClosed .orphan]) hclosing hwork hpending rfl (by simp [hempty])
    (by simp [hempty]) ?_
  refine .journal rfl (hclosing.joined _) hwork hpending (by rw [hmarked, List.length_singleton]; decide) ?_ ?_ (le_of_le_of_eq hfree hsame.symm) ?_
  · intro post hpost
    rw [hmarked, List.mem_singleton] at hpost
    rw [hpost]
    exact RecordName.noConfusion
  · intro post hpost i
    rw [hmarked, List.mem_singleton] at hpost
    rw [hpost]
    exact RecordName.noConfusion
  · rw [hbody, joined_joined]
    exact .done _

/-- An orphan of a hold marks and removes it, and journals its record (R100, R134, R171). -/
theorem orphan_hold_works {p : Part} {s x : Settlement} (hcalm : p.Calm) (hwork : p.store.work = []) (hpending : p.store.pending = [])
    (hqueue : p.store.queue = []) (hid : identify p.ledger s = .found x) (hhold : x.holdId ≠ 0)
    (hnone : findAccount p.ledger x.account = none) (hremote : x.requester = .remote) (hfree : 1 ≤ p.freeSlots) {slot : Nat}
    {r : HoldRecord} (hfind : findHold p.ledger x.holdId = some (slot, r)) (hid' : r.id = x.holdId) (hrising : Rising p.ledger.holds) :
    p.Works 6 [.decide s]
      ((((p.closing x).heldPost slot (some (p.settlingHold r)) []).heldPost slot none [.applyClosed .orphan]).joined
        (p.bodyPosts (orphanBody x))) := by
  have hstep := decide_orphan hid hnone hremote
  rw [if_neg hhold] at hstep
  have hclosing : (p.closing x).Calm := hcalm.same ⟨rfl, rfl, rfl, rfl, rfl⟩
  have hempty : (p.closing x).store.queue = [] := hqueue
  let marked := (p.closing x).heldPost slot (some (p.settlingHold r)) []
  let removed := marked.heldPost slot none [.applyClosed .orphan]
  have hledger : marked.ledger = program p.ledger (.hold slot (some (p.settlingHold r))) := newestFree_joined (p := p.closing x) hpending _
  have hledger' : removed.ledger = program marked.ledger (.hold slot none) := newestFree_joined (p := marked) hpending _
  have hmarked : marked.store.queue = [{ write := .hold slot (some (p.settlingHold r)), notes := [] }] := by
    show ((p.closing x).heldPost _ _ _).store.queue = _
    rw [heldPost_alone hempty]
  have hremoved : removed.store.queue =
      [{ write := .hold slot (some (p.settlingHold r)), notes := [] }, { write := .hold slot none, notes := [.applyClosed .orphan] }] := by
    show marked.store.queue ++ _ = _
    rw [hmarked]
    rfl
  have hmark : (Task.markSettling x.holdId).step (p.closing x) = some (marked, []) := by
    have hpost : (p.closing x).settlingPost x.holdId = some (slot, p.settlingHold r) := by
      unfold settlingPost
      rw [show findHold (p.closing x).ledger x.holdId = some (slot, r) from hfind]
      rfl
    show (p.closing x).stepMarkSettling x.holdId = _
    unfold stepMarkSettling
    rw [hpost]
    dsimp only
    rw [changeHold_eq (by simp [hempty])]
    rfl
  have hremove : (Task.removeHold x.holdId [.applyClosed .orphan]).step marked = some (removed, []) := by
    have hstill : findHold marked.ledger x.holdId = some (slot, p.settlingHold r) := by
      rw [hledger]
      exact findHold_put hrising hfind hid'
    show marked.stepRemoveHold x.holdId _ = _
    unfold stepRemoveHold
    rw [hstill]
    dsimp only
    rw [changeHold_eq (by rw [hmarked, List.length_singleton]; decide)]
    rfl
  have hcalm' : removed.Calm := (hclosing.heldPost _ _ _).heldPost _ _ _
  have hsame : removed.freeSlots = p.freeSlots :=
    (heldPost_freeSlots (p := marked) hpending _ _ _).trans (heldPost_freeSlots (p := p.closing x) hpending _ _ _)
  have hbody : removed.bodyPosts (orphanBody x) = p.bodyPosts (orphanBody x) := by
    unfold bodyPosts
    rw [hledger', hledger]
    rfl
  refine .calm hstep (.inl (by simp [hqueue])) hwork hpending hclosing ?_
  refine .calm hmark (.inl (by simp [hempty])) hwork hpending (hclosing.heldPost _ _ _) ?_
  refine .calm hremove (.inl (by rw [hmarked, List.length_singleton]; decide)) hwork hpending hcalm' ?_
  refine .journal rfl hcalm' hwork hpending (by rw [hremoved]; show 2 + 1 < 8; decide) ?_ ?_ (le_of_le_of_eq hfree hsame.symm) ?_
  · intro post hpost
    rw [hremoved] at hpost
    simp only [List.mem_cons, List.not_mem_nil, or_false] at hpost
    rcases hpost with rfl | rfl <;> exact RecordName.noConfusion
  · intro post hpost i
    rw [hremoved] at hpost
    simp only [List.mem_cons, List.not_mem_nil, or_false] at hpost
    rcases hpost with rfl | rfl <;> exact RecordName.noConfusion
  · rw [hbody]
    exact .done _

/-- Removing a record that is not ACTIVE leaves the held amounts as they were (R86, R100). -/
theorem heldPost_removed {p : Part} (hrising : Rising p.accounts.held) {slot : Nat} {r : HoldRecord}
    (hslot : tableGet p.ledger.holds slot = some r) (hstate : r.state ≠ .active) (notes : List Note) (n : Nat) :
    (p.heldPost slot none notes).held n = p.held n := by
  show countGet (heldChange p.accounts.held (tableGet p.ledger.holds slot) none) n = _
  rw [hslot, countGet_heldChange hrising]
  have hold : optionShare n (some r) = 0 := by
    simp [optionShare, holdShare, activeAmount, hstate]
  rw [hold]
  rfl

theorem heldPost_rising {p : Part} (hrising : Rising p.accounts.held) (slot : Nat) (value : Option HoldRecord) (notes : List Note) :
    Rising (p.heldPost slot value notes).accounts.held := by
  show Rising (heldChange p.accounts.held (tableGet p.ledger.holds slot) value)
  have hleft (old : Option HoldRecord) :
      Rising (old.elim p.accounts.held fun r => countSet p.accounts.held r.account
        (countGet p.accounts.held r.account - activeAmount r)) := by
    cases old with
    | none => exact hrising
    | some r => exact hrising.countSet _ _
  unfold heldChange
  cases value with
  | none => exact hleft _
  | some r => exact (hleft _).countSet _ _

/-! ### SETTLE (R132, R133) -/

/-- What the apply procedure makes of the SETTLE that it takes (R132, R133). -/
theorem settle_takes {p : Part} {ahead behind : List InFrame} {source dest holdId account job charge impressions : Nat}
    (hwork : p.store.work = []) (hstage : p.settlement.stage = .free) (hrequests : p.settlement.requests = [])
    (hinbound : p.line.inbound =
      ahead ++ { source := source, dest := dest, message := .settle holdId account job charge impressions } :: behind)
    (hahead : ∀ f ∈ ahead, f.message.isSettle = false) :
    p.settle =
      if dest = 0 ∨ job = 0 ∨ 100000 < charge then p.taken ahead behind
      else
        (p.taken ahead behind).assign .settlement
          [.decide
            { source := source, holdId := holdId, account := account, job := job, charge := charge, impressions := impressions
              requester := .remote }] := by
  have hidle : (p.taken ahead behind).settlement.requests.isEmpty = true := by
    rw [show (p.taken ahead behind).settlement.requests = [] from hrequests]
    rfl
  have hbusy : ¬(holdId ≠ 0 ∧ (p.taken ahead behind).busy .hold = true) := by
    rw [busy_none (p := p.taken ahead behind) hwork]
    simp
  unfold settle
  rw [if_pos hstage, takeWhenReady_oldest hwork hinbound hahead rfl]
  unfold actSettle
  dsimp only
  rw [if_pos hidle, if_neg hbusy]
  by_cases hdiscard : dest = 0 ∨ job = 0 ∨ 100000 < charge
  · rw [if_pos hdiscard, if_pos (show dest = 0 ∨ job = 0 ∨ Config.maxHold < charge from hdiscard)]
    rfl
  · rw [if_neg hdiscard, if_neg (show ¬(dest = 0 ∨ job = 0 ∨ Config.maxHold < charge) from hdiscard)]
    rfl

end Part

/-- A SETTLE that is decided, and what its work comes to. -/
theorem exec_settle_decides {s : State} {p q : Part} {x : Settlement} {n : Nat} (h : p.AtRest)
    (hf : inService Part.settle s.part = p.assign .settlement [.decide x]) (hpath : p.path = s.part.path)
    (hworks : p.Works n [.decide x] q) (hn : n ≤ 4096) (hfree : s.part.freeSlots ≤ q.freeSlots ∨ 16 < q.freeSlots) :
    exec .settle s = .next { s with part := q.alert } := by
  have hlow : q.journalLow s.part = q := by
    rcases hfree with hfree | hfree
    · exact Part.journalLow_of_le hfree
    · exact if_neg (by simp [hfree])
  show event s (inService Part.settle) = _
  rw [event_works hf h.1 h.2.1 h.2.2.1 (List.cons_ne_nil _ _) (Part.reactIdle_path (congrArg PathMonitor.sheets hpath))
    h.calm.react_withWork rfl hworks hn, hlow]

end Sys2Proof.Machine
end


section
/-! Proofs about SETTLE with the apply procedure FREE, case by case (R130, R132 to R135, R171). -/

-- One theorem after another: many small theorems elaborated at once need more threads than the check allows.
set_option Elab.async false

namespace Sys2Proof.Machine

open Sys2Proof

theorem floatNewer_iff (mark job : Nat) :
    floatNewer mark job = true ↔
      mark = 0 ∨ (1 ≤ (job + 65535 - mark) % 65535 ∧ (job + 65535 - mark) % 65535 ≤ 32767) := by
  simp [floatNewer]

theorem identify_float {l : Ledger} {s : Settlement} (h : s.holdId = 0) :
    identify l s = if floatNewer (countGet l.marks s.source) s.job then .found s else .duplicate := by
  unfold identify
  rw [if_pos h]

theorem identify_hold {l : Ledger} {s : Settlement} (h : s.holdId ≠ 0) :
    (ownHold l s.source s.holdId s.job = none → identify l s = .duplicate) ∧
      ∀ slot r, ownHold l s.source s.holdId s.job = some (slot, r) → identify l s = .found { s with account := r.account } := by
  unfold identify
  rw [if_neg h]
  exact ⟨fun hnone => by rw [hnone], fun slot r hown => by rw [hown]⟩

namespace Part

/-- With nothing queued and nothing pending the newest values are the stored ones (R163). -/
theorem ledger_stored {p : Part} (hqueue : p.store.queue = []) (hpending : p.store.pending = []) : p.ledger = p.store.stored := by
  simp [Part.ledger, Store.newest, hqueue, hpending]

/-- What an orphan of a hold leaves (R134, R171). -/
theorem orphan_hold_result {p : Part} (hqueue : p.store.queue = []) (x : Settlement) (slot : Nat) (r : HoldRecord) (posts : List Post) :
    let q := (((p.closing x).heldPost slot (some (p.settlingHold r)) []).heldPost slot none [.applyClosed .orphan]).joined posts
    q =
      { p with
        accounts := { p.accounts with held := q.accounts.held }
        settlement := { p.settlement with stage := .closing, current := some x }
        store :=
          { p.store with
            queue :=
              [{ write := .hold slot (some (p.settlingHold r)), notes := [] },
                { write := .hold slot none, notes := [.applyClosed .orphan] }] ++ posts } } := by
  rw [heldPost_alone (p := p.closing x) hqueue]
  rfl

/-- What the settlement of a hold whose account is known leaves (R135). -/
theorem recording_hold_result {p : Part} (hqueue : p.store.queue = []) (x : Settlement) (slot : Nat) (r : HoldRecord)
    (posts : List Post) :
    let q := ((p.recording x).heldPost slot (some (p.settlingHold r)) []).joined posts
    q =
      { p with
        accounts := { p.accounts with held := q.accounts.held }
        settlement :=
          { p.settlement with stage := .recording, sequence := p.ledger.applySequence + 1, current := some x }
        store :=
          { p.store with
            queue := { write := .hold slot (some (p.settlingHold r)), notes := [] } :: posts } } := by
  rw [heldPost_alone (p := p.recording x) hqueue]
  rfl

/-- The free count after a hold is marked and its settlement recorded (R173). -/
theorem recording_hold_freeSlots {p : Part} (hpending : p.store.pending = []) (x : Settlement) (slot : Nat) (r : HoldRecord) :
    (((p.recording x).heldPost slot (some (p.settlingHold r)) []).joined (p.recordingPosts x)).freeSlots = p.freeSlots :=
  (recordingPosts_freeSlots (p := (p.recording x).heldPost slot (some (p.settlingHold r)) []) hpending p x).trans
    (heldPost_freeSlots (p := p.recording x) hpending _ _ _)

/-- The free count after an orphan of a hold is journalled (R173). -/
theorem orphan_hold_freeSlots {p : Part} (hpending : p.store.pending = []) (x : Settlement) (slot : Nat) (r : HoldRecord) :
    p.freeSlots - 1 ≤
      ((((p.closing x).heldPost slot (some (p.settlingHold r)) []).heldPost slot none [.applyClosed .orphan]).joined
        (p.bodyPosts (orphanBody x))).freeSlots := by
  let marked := (p.closing x).heldPost slot (some (p.settlingHold r)) []
  let removed := marked.heldPost slot none [.applyClosed .orphan]
  have hsame : removed.freeSlots = p.freeSlots :=
    (heldPost_freeSlots (p := marked) hpending _ _ _).trans (heldPost_freeSlots (p := p.closing x) hpending _ _ _)
  have hledger : marked.ledger = program p.ledger (.hold slot (some (p.settlingHold r))) := newestFree_joined (p := p.closing x) hpending _
  have hledger' : removed.ledger = program marked.ledger (.hold slot none) := newestFree_joined (p := marked) hpending _
  have hbody : removed.bodyPosts (orphanBody x) = p.bodyPosts (orphanBody x) := by
    unfold bodyPosts
    rw [hledger', hledger]
    rfl
  have := bodyPosts_freeSlots (p := removed) hpending (orphanBody x)
  rw [hsame, hbody] at this
  exact this

/-- The held amounts after an orphan of a hold (R86, R100). -/
theorem orphan_hold_held {p : Part} (hpending : p.store.pending = []) (hrising : Rising p.accounts.held) (x : Settlement) {slot : Nat}
    {r : HoldRecord} (hslot : tableGet p.ledger.holds slot = some r) (posts : List Post) (n : Nat) :
    ((((p.closing x).heldPost slot (some (p.settlingHold r)) []).heldPost slot none [.applyClosed .orphan]).joined posts).held n =
      p.held n - if n = r.account ∧ r.state = .active then r.amount else 0 := by
  let marked := (p.closing x).heldPost slot (some (p.settlingHold r)) []
  have hledger : marked.ledger = program p.ledger (.hold slot (some (p.settlingHold r))) := newestFree_joined (p := p.closing x) hpending _
  have hstill : tableGet marked.ledger.holds slot = some (p.settlingHold r) := by
    rw [hledger]
    show tableGet (tablePut p.ledger.holds slot (p.settlingHold r)) slot = _
    rw [tableGet_put, if_pos rfl]
  have hremoved := heldPost_removed (p := marked) (heldPost_rising (p := p.closing x) hrising _ _ _) hstill
    (by simp [settlingHold]) [.applyClosed .orphan] n
  exact hremoved.trans (heldPost_settling (p := p.closing x) hrising hslot n)

end Part

/-- Settles O55: the case that R132 and R133 name first, and its posts. -/
theorem settleIsDiscardedDuplicateOrApplied : Obligations.SettleIsDiscardedDuplicateOrApplied := by
  intro s ahead behind source dest holdId account job charge impressions h hstage hrequests hinbound hahead taken l mark ahead' newer
    sequence record orphanPosts
  obtain ⟨hs, hwork, hpending, -⟩ := id h
  have htaken : taken.AtRest := h
  have hf := Part.settle_takes hwork hstage hrequests hinbound hahead
  refine ⟨fun hdiscard => ?discard, fun hdest hjob hcharge => ?decides⟩
  case discard =>
    rw [if_pos hdiscard] at hf
    exact event_atRest ((inService_serving hs _).trans hf) htaken rfl (le_of_eq rfl)
  case decides =>
    let x : Settlement :=
      { source := source, holdId := holdId, account := account, job := job, charge := charge, impressions := impressions
        requester := .remote }
    rw [if_neg (by rintro (h0 | h0 | h0) <;> omega)] at hf
    have hdecide : inService Part.settle s.part = taken.assign .settlement [.decide x] := (inService_serving hs _).trans hf
    have hnewer : floatNewer (countGet l.marks source) job = true ↔ newer := floatNewer_iff mark job
    refine ⟨fun hcase => ?duplicate, fun hfloat hnew hknown hqueue => ?float, fun hfloat hnew hnone hqueue hfree => ?orphan, ?hold⟩
    case duplicate =>
      have hid : identify taken.ledger x = .duplicate := by
        rcases hcase with ⟨hhold, hnone⟩ | ⟨hfloat, hold⟩
        · exact (identify_hold (s := x) hhold).1 hnone
        · rw [identify_float (s := x) hfloat]
          exact if_neg fun hn => hold (hnewer.mp hn)
      have hworks := Part.decide_duplicate_works (p := taken) htaken.calm hwork hpending hrequests hid rfl
      refine exec_settle_decides htaken hdecide rfl hworks (by decide) (.inl (le_of_eq ?_))
      rw [Part.sendFrame_eq]
      rfl
    case float =>
      have hid : identify taken.ledger x = .found x := by
        rw [identify_float (s := x) hfloat]
        exact if_pos (hnewer.mpr hnew)
      have hworks := Part.decide_float_works (p := taken) htaken.calm hwork hpending hqueue hid hfloat hknown
      have hevent := exec_settle_decides htaken hdecide rfl hworks (by decide)
        (.inl (le_of_eq (Part.recordingPosts_freeSlots (p := taken.recording x) hpending taken x).symm))
      rw [Part.joined_alone (p := taken.recording x) hqueue] at hevent
      refine hevent.trans ?_
      have hrecord : applyRecordOf sequence x =
          { sequence := sequence, holdId := none, station := source, job := job, account := account, charge := charge
            impressions := impressions } := by
        unfold applyRecordOf
        rw [if_pos (show x.holdId = 0 from hfloat)]
      show Host.Outcome.next { s with part := ({ taken.recording x with
        store := { s.part.store with
          queue :=
            [{ write := .counter .applySequence sequence, notes := [] },
              { write := .apply (some (applyRecordOf sequence x)), notes := [.applyRecorded] }] } } : Part).alert } = _
      rw [hrecord]
      subst hfloat
      rfl
    case orphan =>
      have hid : identify taken.ledger x = .found x := by
        rw [identify_float (s := x) hfloat]
        exact if_pos (hnewer.mpr hnew)
      have hworks := Part.orphan_float_works (p := taken) htaken.calm hwork hpending hqueue hid hfloat hnone rfl
        (by show 1 ≤ s.part.freeSlots; omega)
      have hmarked : s.part.freeSlots - 1 ≤ ((taken.closing x).joined
          ({ write := .mark source job, notes := [.applyClosed .orphan] } :: taken.bodyPosts (orphanBody x))).freeSlots := by
        let mark : Post := { write := .mark source job, notes := [.applyClosed .orphan] }
        have hsame : ((taken.closing x).joined [mark]).freeSlots = s.part.freeSlots :=
          Part.freeSlots_joined (p := taken.closing x) hpending [mark] fun post hpost l => by
            rw [List.mem_singleton.mp hpost]; exact ⟨rfl, rfl⟩
        have hbody : ((taken.closing x).joined [mark]).bodyPosts (orphanBody x) = taken.bodyPosts (orphanBody x) := by
          unfold Part.bodyPosts
          rw [newestFree_joined (p := taken.closing x) hpending]
          rfl
        have := Part.bodyPosts_freeSlots (p := (taken.closing x).joined [mark]) hpending (orphanBody x)
        rw [hsame, hbody, Part.joined_joined] at this
        exact this
      have hevent := exec_settle_decides htaken hdecide rfl hworks (by decide)
        (.inr (lt_of_lt_of_le (by omega) hmarked))
      rw [Part.joined_alone (p := taken.closing x) hqueue] at hevent
      refine hevent.trans ?_
      subst hfloat
      rfl
    case hold =>
      intro slot r hown hhold hslot hrising hqueue x' marked
      have hid : identify taken.ledger x = .found x' := (identify_hold (s := x) hhold).2 slot r hown
      obtain ⟨hfind, -, -, hrid⟩ := ownHold_find hown
      refine ⟨fun hknown => ?known, fun hnone hfree hcanonical => ?gone⟩
      case known =>
        have hworks := Part.decide_hold_works (p := taken) htaken.calm hwork hpending hqueue hid hhold hknown hfind
        have hevent := exec_settle_decides htaken hdecide rfl hworks (by decide)
          (.inl (le_of_eq (Part.recording_hold_freeSlots (p := taken) hpending x' slot r).symm))
        have hresult := Part.recording_hold_result (p := taken) hqueue x' slot r (taken.recordingPosts x')
        have hrecord : applyRecordOf sequence x' =
            { sequence := sequence, holdId := some holdId, station := source, job := job, account := r.account, charge := charge
              impressions := impressions } := by
          unfold applyRecordOf
          rw [if_neg (show x'.holdId ≠ 0 from hhold)]
        refine ⟨_, hevent, ?_, fun n => Part.heldPost_settling (p := taken.recording x') hrising hslot n⟩
        rw [← hrecord]
        exact congrArg (fun q : Part => { s with part := q.alert }) hresult
      case gone =>
        obtain ⟨-, hholds, -⟩ := hcanonical
        have hledger : taken.ledger = s.part.store.stored := Part.ledger_stored (p := taken) hqueue hpending
        have hworks := Part.orphan_hold_works (p := taken) htaken.calm hwork hpending hqueue hid hhold hnone rfl
          (by show 1 ≤ s.part.freeSlots; omega) hfind hrid (by rw [hledger]; exact hholds)
        have hleft := Part.orphan_hold_freeSlots (p := taken) hpending x' slot r
        have htakenFree : taken.freeSlots = s.part.freeSlots := rfl
        have hevent := exec_settle_decides htaken hdecide rfl hworks (by decide) (.inr (lt_of_lt_of_le (by omega) hleft))
        have hresult := Part.orphan_hold_result (p := taken) hqueue x' slot r (taken.bodyPosts (orphanBody x'))
        refine ⟨_, hevent, ?_, fun n => Part.orphan_hold_held (p := taken) hpending hrising x' hslot (taken.bodyPosts (orphanBody x')) n⟩
        exact congrArg (fun q : Part => { s with part := q.alert }) hresult

end Sys2Proof.Machine
end


section
/-! Proofs about HOLD_GIVE and HOLD_DENY, for the open job and for a cancelled ask (R24, R26, R27, R32, R135, R138). -/

-- One theorem after another: many small theorems elaborated at once need more threads than the check allows.
set_option Elab.async false

namespace Sys2Proof.Machine

open Sys2Proof

namespace Part

/-! ### Whom an answer reaches (R24, R26) -/

theorem answersJob_true {p : Part} {source : Nat} (hstate : p.job.state ≠ .idle) (hhome : p.job.home = some source) :
    p.answersJob source p.job.number = true := by simp [answersJob, hstate, hhome]

theorem answersJob_false {p : Part} {source job : Nat}
    (h : p.job.state = .idle ∨ p.job.home ≠ some source ∨ p.job.number ≠ job) : p.answersJob source job = false := by
  unfold answersJob
  rcases h with h | h | h <;> simp [h]

theorem answersCancelled_none {p : Part} (h : p.settlement.cancelled = none) (source job : Nat) :
    p.answersCancelled source job = false := by
  unfold answersCancelled
  rw [h]

theorem answersCancelled_some {p : Part} {c : CancelledAsk} (h : p.settlement.cancelled = some c) :
    p.answersCancelled c.home c.job = true := by
  unfold answersCancelled
  rw [h]
  simp

theorem take_job {p : Part} {source : Nat} (hstate : p.job.state ≠ .idle) (hhome : p.job.home = some source)
    (holdId amount cls lifetime reason : Nat) :
    p.takeGive source holdId p.job.number amount cls lifetime = p.jobGive holdId amount cls lifetime ∧
      p.takeDeny source p.job.number reason = p.jobDeny reason := by
  have hjob := answersJob_true hstate hhome
  unfold takeGive takeDeny
  exact ⟨if_pos hjob, if_pos hjob⟩

theorem take_cancelled {p : Part} {c : CancelledAsk} (hc : p.settlement.cancelled = some c)
    (hother : p.job.state = .idle ∨ p.job.home ≠ some c.home ∨ p.job.number ≠ c.job) (holdId amount cls lifetime reason : Nat) :
    p.takeGive c.home holdId c.job amount cls lifetime = p.cancelledGive c.home holdId c.job ∧
      p.takeDeny c.home c.job reason = p.dropCancelled.releaseDeferred := by
  have hjob : ¬p.answersJob c.home c.job = true := by simp [answersJob_false hother]
  have hask := answersCancelled_some hc
  unfold takeGive takeDeny
  exact ⟨(if_neg hjob).trans (if_pos hask), (if_neg hjob).trans (if_pos hask)⟩

theorem take_nobody {p : Part} {source job : Nat} (hother : p.job.state = .idle ∨ p.job.home ≠ some source ∨ p.job.number ≠ job)
    (hnone : p.settlement.cancelled = none) (holdId amount cls lifetime reason : Nat) :
    p.takeGive source holdId job amount cls lifetime = p ∧ p.takeDeny source job reason = p ∧ p.takeGone source holdId job = p := by
  have hjob : ¬p.answersJob source job = true := by simp [answersJob_false hother]
  have hask : ¬p.answersCancelled source job = true := by simp [answersCancelled_none hnone]
  unfold takeGive takeDeny takeGone
  exact ⟨(if_neg hjob).trans (if_neg hask), (if_neg hjob).trans (if_neg hask), if_neg hjob⟩

/-! ### Grants and denials of the open job (R24, R27, R32) -/

/-- A usable grant makes a job that asks READY (R24). -/
theorem jobGive_asking {p : Part} (hstate : p.job.state = .authorize) (hfunding : p.job.funding = some .accountRemote)
    {holdId amount cls : Nat} (hamount : amount ≠ 0) (hcls : cls ≤ 3) (lifetime : Nat) :
    p.jobGive holdId amount cls lifetime = ({ p with job := p.job.takeHold holdId amount cls lifetime } : Part).enterReady := by
  unfold jobGive
  rw [hfunding]
  dsimp only
  rw [if_pos hstate, if_pos (by simp [hamount, hcls])]

/-- An answer for a funded account job (R32). -/
theorem answer_funded {p : Part} (htops : p.job.state.takesTopups = true)
    (hfunding : p.job.funding = some .accountLocal ∨ p.job.funding = some .accountRemote) (holdId amount cls lifetime reason : Nat) :
    (p.jobGive holdId amount cls lifetime = if p.job.holdId = some holdId then p.topupGranted amount else p) ∧
      p.jobDeny reason = p.topupDenied := by
  have hstate : p.job.state ≠ .authorize := by
    intro ha
    rw [ha] at htops
    cases htops
  have hfunded : p.job.accountFunded = true := by
    unfold Job.accountFunded
    rcases hfunding with hf | hf <;> rw [hf] <;> rfl
  constructor
  · unfold jobGive
    rcases hfunding with hf | hf <;>
      · rw [hf]
        dsimp only
        rw [if_neg hstate]
        simp [htops]
  · unfold jobDeny
    rw [if_neg hstate, if_pos (by simp [hfunded, htops])]

/-- An answer for a FLOAT job (R27). -/
theorem answer_float {p : Part} (hfunding : p.job.funding = some .float) (holdId amount cls lifetime reason : Nat) :
    (p.jobGive holdId amount cls lifetime =
        if p.job.state = .ready ∧ amount ≠ 0 ∧ cls ≤ 3 ∧ p.job.acc.gross + p.job.acc.reserved ≤ 1000 * min amount 100000 then
          p.adopt holdId amount cls lifetime
        else p) ∧
      (p.job.state ≠ .authorize → p.jobDeny reason = p) := by
  constructor
  · unfold jobGive
    rw [hfunding]
    dsimp only
    simp only [Bool.and_eq_true, decide_eq_true_eq, and_assoc]
    rfl
  · intro hstate
    unfold jobDeny
    rw [if_neg hstate, if_neg (by simp [Job.accountFunded, hfunding])]

end Part

/-- An event after which the run-out wait and PERMIT alone are decided again, with the funds in order (R30, R35). -/
theorem event_funded {s : State} {f : Part → Part} {q : Part} (h : s.part.AtRest) (hf : f s.part = q)
    (hs : q.phase = s.part.phase ∧ q.path = s.part.path ∧ q.job.state = s.part.job.state ∧ q.store.work = s.part.store.work ∧
      q.store.pending = s.part.store.pending)
    (hfunds : q.outOfFunds = true → q.job.topupOutstanding = true ∨ q.job.exhausted.isSome = true)
    (hfree : q.freeSlots = s.part.freeSlots) :
    event s f =
      .next
        { s with
          part :=
            ({ q with
                job :=
                  { q.job with
                    runOutDue := if q.runOutHolds then some (q.job.runOutDue.getD (q.now + q.config.values.w1)) else none }
                permit := q.permitHolds } : Part).alert } := by
  obtain ⟨hphase, hpath, hstate, hwork, hpending⟩ := hs
  obtain ⟨hserving, hwork', hpending', hdrain, -⟩ := id h
  have hreact := Part.react_funds_same (p := q) (hphase.trans hserving)
    (fun hd hsheets => hdrain ⟨hstate.symm.trans hd, by rw [← hpath, hsheets]; rfl⟩) hfunds
  refine event_noWork hf (hphase.trans hserving) (Part.reactIdle_path (by rw [hpath])) hreact (hwork.trans hwork')
    (hpending.trans hpending') (le_of_eq ?_)
  exact (Part.freeSlots_congr ⟨rfl, rfl, rfl, rfl⟩ |>.trans hfree).symm

namespace Part

/-! ### Answers for a cancelled ask (R26) -/

/-- The entry that gives a cancelled ask's hold back, under its reservation (R26, R125). -/
theorem cancelledEntry_works {p : Part} (hcalm : p.Calm) (hwork : p.store.work = []) (hpending : p.store.pending = []) {slot : Nat}
    (hslot : p.deferredSlot = some slot) (hplace : p.store.queue.length < 8) (home holdId account job : Nat) :
    p.Works 1 [.putEntry home holdId account job 0 0 false true none]
      ({ p with settlement := { p.settlement with reserved := p.settlement.reserved - 1 } }.joined
        [{ write :=
            .deferred slot
              (some
                { number := nextEntryNumber p.ledger, home := home, holdId := holdId, account := account, job := job, charge := 0
                  impressions := 0, attempts := 0 })
           notes := [.entryStored (nextEntryNumber p.ledger) false] }]) := by
  let entry : DeferredEntry :=
    { number := nextEntryNumber p.ledger, home := home, holdId := holdId, account := account, job := job, charge := 0
      impressions := 0, attempts := 0 }
  have hjoins := tryPost_joins (p := p) (w := .deferred slot (some entry)) hplace (deferredSlot_unnamed hslot)
    [.entryStored (nextEntryNumber p.ledger) false]
  have hfloat : floatAfterEntry p.settlement.floatOutstanding holdId 0 none = p.settlement.floatOutstanding := by
    simp [floatAfterEntry]
  have hstep : (Task.putEntry home holdId account job 0 0 false true none).step p =
      some
        (({ p with settlement := { p.settlement with reserved := p.settlement.reserved - 1 } } : Part).joined
          [{ write := .deferred slot (some entry), notes := [.entryStored (nextEntryNumber p.ledger) false] }], []) := by
    show p.stepPutEntry home holdId account job 0 0 false true none = _
    unfold stepPutEntry
    simp only [hslot]
    rw [hjoins, Option.map_some, if_pos trivial]
    show some (({ (p.joined _) with
      settlement :=
        { p.settlement with
          reserved := p.settlement.reserved - 1
          floatOutstanding := floatAfterEntry p.settlement.floatOutstanding holdId 0 none } } : Part), []) = _
    rw [hfloat]
    rfl
  exact .calm hstep (.inl hplace) hwork hpending (hcalm.same ⟨rfl, rfl, rfl, rfl, rfl⟩) (.done _)

/-- A local request is taken when the procedure is FREE, and decided as a work of its own (R132, R138). -/
theorem request_pumps {m : Nat} {b q : Part} {x : Settlement} (hcalm : b.Calm) (hwork : b.store.work = [])
    (hpending : b.store.pending = []) (hstage : b.settlement.stage = .free) (hrequests : b.settlement.requests = [])
    (hworks : b.Works m [.decide x] q) : Pumps (m + 1) ((b.requestSettlement x).react) q := by
  let asked : Part := { b with settlement := { b.settlement with requests := [x] } }
  have hrequest : b.requestSettlement x = asked.withWork (worksOf .settlement [.nextRequest] false) := by
    unfold requestSettlement
    rw [hrequests, assign_alone (by exact hwork)]
    rfl
  have hback : ({ asked with settlement := { asked.settlement with requests := [] } } : Part) = b := by
    show ({ b with settlement := { b.settlement with requests := [] } } : Part) = b
    rw [← hrequests]
  have hstep : (Task.nextRequest).step asked = some (b.assign .settlement [.decide x], []) := by
    show some asked.nextRequest = _
    unfold nextRequest
    rw [show asked.settlement.stage = .free from hstage, show asked.settlement.requests = [x] from rfl]
    dsimp only
    rw [show asked.store.work = [] from hwork, if_neg (by simp), withSettlement, hback]
  have hasked : asked.Calm := hcalm.same ⟨rfl, rfl, rfl, rfl, rfl⟩
  rw [hrequest, hasked.react_withWork]
  refine Pumps.next (p := asked) hpending hwork hstep (.inr fun _ => rfl) (hcalm.same ⟨rfl, rfl, rfl, rfl, rfl⟩) ?_
  have hleft : (b.assign .settlement [.decide x]).withWork
      (putBack (b.assign .settlement [.decide x]).store.work { owner := .settlement, tasks := [] ++ [], begun := true }) =
      b.withWork (worksOf .settlement [.decide x] false) := by
    rw [assign_alone hwork]
    rfl
  rw [hleft]
  exact hworks.pumps .settlement false hwork hpending

end Part

end Sys2Proof.Machine
end


section
/-! Proofs about the answers to an ask, by the job or the cancelled ask that they reach (R24, R26, R27, R32, R138). -/

-- One theorem after another: many small theorems elaborated at once need more threads than the check allows.
set_option Elab.async false

namespace Sys2Proof.Machine

open Sys2Proof

/-- A grant reaches the job that asks (R24). -/
theorem exec_holdGive_asking {s : State} {source holdId amount cls lifetime : Nat} (h : s.part.AtRest)
    (hstate : s.part.job.state = .authorize) (hhome : s.part.job.home = some source)
    (hfunding : s.part.job.funding = some .accountRemote) (hamount : amount ≠ 0) (hcls : cls ≤ 3)
    (hqueue : s.part.store.queue = []) :
    let funded : Job :=
      { s.part.job with
        state := .ready, holdId := some holdId, limit := some (min amount 100000), cls := cls, lifetime := some lifetime
        askDue := none, askFrame := none, lastActivity := s.part.now
        keepDue := some (s.part.now + 1000 * max 1 (lifetime / 2)) }
    exec (.holdGive source holdId s.part.job.number amount cls lifetime) s =
      .next
        { s with
          part :=
            ({ s.part with
                job := funded
                store := { s.part.store with queue := [{ write := .checkpoint funded.checkpoint, notes := [] }] }
                panel := s.part.panel.raise .jobState } : Part).alert } := by
  intro funded
  have hidle : s.part.job.state ≠ .idle := by rw [hstate]; decide
  let p : Part := { s.part with job := s.part.job.takeHold holdId amount cls lifetime }
  have hf : inService (fun p => p.takeGive source holdId s.part.job.number amount cls lifetime) s.part = p.enterReady := by
    rw [inService_serving h.1, (Part.take_job hidle hhome holdId amount cls lifetime 0).1,
      Part.jobGive_asking hstate hfunding hamount hcls]
  have hkeep : p.keepAlive = some (s.part.now + keepInterval lifetime) := by
    unfold Part.keepAlive
    rw [if_pos (show p.job.accountFunded = true from ?funded)]
    · rfl
    · show ((s.part.job.funding == some .accountLocal) || (s.part.job.funding == some .accountRemote)) = true
      rw [hfunding]
      rfl
  have hready : p.readyJob = funded := by
    unfold Part.readyJob
    rw [hkeep]
    rfl
  obtain ⟨c, hc⟩ : ∃ c, funded.checkpoint = some c := by
    unfold Job.checkpoint
    rw [show funded.funding = some .accountRemote from hfunding, show funded.limit = some (min amount 100000) from rfl]
    exact ⟨_, rfl⟩
  have hevent := event_entersReady (p := p) h hf hstate ⟨rfl, rfl, rfl, rfl, rfl, rfl, rfl⟩ hqueue (c := c) (by rw [hready, hc])
  rw [hready, ← hc] at hevent
  exact hevent

theorem takesTopups_of_cases {st : JobState}
    (h : st = .ready ∨ st = .running ∨ st = .jammed ∨ st = .paused ∨ st = .draining) : st.takesTopups = true ∧ st ≠ .idle := by
  rcases h with h | h | h | h | h <;> rw [h] <;> exact ⟨rfl, by decide⟩

/-- What a job's terms make of the run-out wait (R35). -/
theorem runOutHolds_iff {p : Part} (htopup : p.job.topupOutstanding = false) :
    p.runOutHolds = true ↔
      p.job.state = .running ∧ p.path.sheets = [] ∧ (p.job.position = p.job.positions ∨ p.job.exhausted = some .funds) := by
  simp [Part.runOutHolds, htopup, and_assoc]

theorem permitHolds_serving {p : Part} (hs : p.phase = .serving) :
    p.permitHolds =
      (decide (p.job.state = .running) && decide (p.config.outcome ≠ .bad) && !p.path.jammed &&
        decide (p.path.sheets.length < 6) && decide (p.job.assigned < p.job.positions) && p.job.headroom) := by
  have hbad : (!p.outOfService) = decide (p.config.outcome ≠ .bad) := by simp [Part.outOfService]
  unfold Part.permitHolds
  rw [hbad, show p.serving = true by simp [Part.serving, hs], Bool.true_and,
    Bool.and_comm (decide (p.config.outcome ≠ .bad)) (decide (p.job.state = .running))]
  rfl

/-- A grant for the hold of a funded account job (R32). -/
theorem exec_holdGive_tops {s : State} {source holdId amount cls lifetime : Nat} (h : s.part.AtRest)
    (hhome : s.part.job.home = some source)
    (hfunding : s.part.job.funding = some .accountLocal ∨ s.part.job.funding = some .accountRemote)
    (htops : s.part.job.state.takesTopups = true) (hidle : s.part.job.state ≠ .idle) (hid : s.part.job.holdId = some holdId)
    {granted : Job}
    (hgranted : granted =
      { s.part.job with
        topupOutstanding := false, topupAttempts := 0, topupDue := none, topupFrame := none
        limit := some (max s.part.job.amount (min amount 100000)) })
    (hfunds : s.part.job.state = .running → granted.headroom = true ∨ s.part.job.exhausted.isSome = true)
    (hqueue : s.part.store.queue = []) :
    let q : Part :=
      { s.part with
        job := granted, store := { s.part.store with queue := [{ write := .checkpoint granted.checkpoint, notes := [] }] } }
    exec (.holdGive source holdId s.part.job.number amount cls lifetime) s =
      .next
        { s with
          part :=
            ({ q with
                job :=
                  { granted with
                    runOutDue := if q.runOutHolds then some (s.part.job.runOutDue.getD (s.part.now + s.part.config.values.w1)) else none }
                permit := q.permitHolds } : Part).alert } := by
  intro q
  obtain ⟨c, hc⟩ : ∃ c, granted.checkpoint = some c := by
    rw [hgranted]
    unfold Job.checkpoint
    dsimp only
    rcases hfunding with hf | hf <;> rw [hf] <;> exact ⟨_, rfl⟩
  have hf : inService (fun p => p.takeGive source holdId s.part.job.number amount cls lifetime) s.part = q := by
    rw [inService_serving h.1, (Part.take_job hidle hhome holdId amount cls lifetime 0).1,
      (Part.answer_funded htops hfunding holdId amount cls lifetime 0).1, if_pos hid]
    have hposted := Part.postCheckpoint_joins (p := { s.part with job := granted }) hqueue
    rw [show ({ s.part with job := granted } : Part).job.checkpoint = some c from hc,
      Part.joined_alone (p := { s.part with job := granted }) hqueue] at hposted
    show ({ s.part with job := { s.part.job.clearTopup with limit := some (max s.part.job.amount (min amount 100000)) } } :
      Part).postCheckpoint = _
    rw [show ({ s.part.job.clearTopup with limit := some (max s.part.job.amount (min amount 100000)) } : Job) = granted from
      hgranted.symm, hposted, show q = { s.part with
        job := granted, store := { s.part.store with queue := [{ write := .checkpoint granted.checkpoint, notes := [] }] } } from rfl,
      hc]
    rfl
  have hfree : q.freeSlots = s.part.freeSlots := by
    have hjoined := Part.freeSlots_joined (p := s.part) h.2.2.1 [{ write := .checkpoint granted.checkpoint, notes := [] }]
      (fun post hpost l => by rw [List.mem_singleton.mp hpost]; exact ⟨rfl, rfl⟩)
    rw [Part.joined_alone hqueue] at hjoined
    exact (Part.freeSlots_congr ⟨rfl, rfl, rfl, rfl⟩).trans hjoined
  have hsame : q.job.state = s.part.job.state ∧ q.job.exhausted = s.part.job.exhausted ∧
      q.job.runOutDue = s.part.job.runOutDue := by
    show granted.state = _ ∧ granted.exhausted = _ ∧ granted.runOutDue = _
    rw [hgranted]
    exact ⟨rfl, rfl, rfl⟩
  have hout : q.outOfFunds = true → q.job.topupOutstanding = true ∨ q.job.exhausted.isSome = true := by
    intro hq
    simp only [Part.outOfFunds, Bool.and_eq_true, decide_eq_true_eq, Bool.not_eq_true'] at hq
    obtain ⟨⟨⟨⟨hrunning, -⟩, -⟩, -⟩, hshort⟩ := hq
    rcases hfunds (hsame.1.symm.trans hrunning) with hroom | hexhausted
    · exact absurd hroom (by rw [show granted.headroom = false from hshort]; decide)
    · exact .inr (by rw [hsame.2.1]; exact hexhausted)
  have hevent := event_funded h hf ⟨rfl, rfl, hsame.1, rfl, rfl⟩ hout hfree
  rw [hsame.2.2] at hevent
  exact hevent

/-- A denial for a funded account job (R32). -/
theorem exec_holdDeny_tops {s : State} {source reason : Nat} (h : s.part.AtRest) (hhome : s.part.job.home = some source)
    (hfunding : s.part.job.funding = some .accountLocal ∨ s.part.job.funding = some .accountRemote)
    (htops : s.part.job.state.takesTopups = true) (hidle : s.part.job.state ≠ .idle) :
    let denied : Job :=
      { s.part.job with
        topupOutstanding := false, topupAttempts := 0, topupDue := none, topupFrame := none, exhausted := some .funds }
    let q : Part := { s.part with job := denied, panel := s.part.panel.raise .funds }
    exec (.holdDeny source s.part.job.number reason) s =
      .next
        { s with
          part :=
            ({ q with
                job :=
                  { denied with
                    runOutDue := if q.runOutHolds then some (s.part.job.runOutDue.getD (s.part.now + s.part.config.values.w1)) else none }
                permit := s.part.permit } : Part).alert } := by
  intro denied q
  obtain ⟨hs, -, -, -, -, -, hpermit, -⟩ := id h
  have hf : inService (fun p => p.takeDeny source s.part.job.number reason) s.part = q := by
    rw [inService_serving hs, (Part.take_job hidle hhome 0 0 0 0 reason).2, (Part.answer_funded htops hfunding 0 0 0 0 reason).2]
    rfl
  have hevent := event_funded h hf ⟨rfl, rfl, rfl, rfl, rfl⟩ (fun _ => .inr rfl) rfl
  have hsame : q.permitHolds = s.part.permit := hpermit.symm
  rw [hsame] at hevent
  exact hevent

/-- A FLOAT job in READY adopts a grant (R27, R82). -/
theorem exec_holdGive_adopts {s : State} {source holdId amount cls lifetime : Nat} (h : s.part.AtRest)
    (hhome : s.part.job.home = some source) (hfunding : s.part.job.funding = some .float)
    (hadopts : s.part.job.state = .ready ∧ amount ≠ 0 ∧ cls ≤ 3 ∧
      s.part.job.acc.gross + s.part.job.acc.reserved ≤ 1000 * min amount 100000)
    (hqueue : s.part.store.queue = []) :
    let adopted : Job :=
      { s.part.job with
        funding := some .accountRemote, holdId := some holdId, limit := some (min amount 100000), cls := cls
        lifetime := some lifetime, keepDue := some (s.part.now + 1000 * max 1 (lifetime / 2)) }
    exec (.holdGive source holdId s.part.job.number amount cls lifetime) s =
      .next
        { s with
          part :=
            ({ s.part with
                job := adopted
                settlement :=
                  { s.part.settlement with floatOutstanding := s.part.settlement.floatOutstanding - s.part.job.amount }
                store := { s.part.store with queue := [{ write := .checkpoint adopted.checkpoint, notes := [] }] } } : Part).alert } := by
  intro adopted
  obtain ⟨hs, hwork, hpending, -, -, -, -, hstart⟩ := id h
  have hready := hadopts.1
  have hrun : s.part.job.state ≠ .running := by rw [hready]; decide
  let base : Part :=
    { s.part with
      job := adopted
      settlement := { s.part.settlement with floatOutstanding := s.part.settlement.floatOutstanding - s.part.job.amount } }
  have hf : inService (fun p => p.takeGive source holdId s.part.job.number amount cls lifetime) s.part =
      base.joined [{ write := .checkpoint adopted.checkpoint, notes := [] }] := by
    rw [inService_serving hs, (Part.take_job (by rw [hready]; decide) hhome holdId amount cls lifetime 0).1,
      (Part.answer_float hfunding holdId amount cls lifetime 0).1, if_pos hadopts]
    unfold Part.adopt
    dsimp only
    rw [Part.armKeep_eq]
    exact Part.postCheckpoint_joins (p := base) hqueue
  have hevent := event_atRest hf
    (Part.atRest_notRunning hs hwork hpending hstart hrun (fun hd => absurd (hready.symm.trans hd) (by decide)) (h.released hrun)
      (h.runOutDue hrun)) rfl
    (le_of_eq (Part.freeSlots_joined (p := base) hpending _ fun post hpost l => by
      rw [List.mem_singleton.mp hpost]; exact ⟨rfl, rfl⟩).symm)
  rw [Part.joined_alone (p := base) hqueue] at hevent
  exact hevent

/-- The posts of the settlement of a hold (R131, R135). -/
theorem Part.recordingPosts_hold {p : Part} {x : Settlement} {l : Ledger} (hid : x.holdId ≠ 0) (hledger : p.ledger = l) :
    p.recordingPosts x =
      [{ write := .counter .applySequence (l.applySequence + 1), notes := [] },
        { write :=
            .apply
              (some
                { sequence := l.applySequence + 1, holdId := some x.holdId, station := x.source, job := x.job
                  account := x.account, charge := x.charge, impressions := x.impressions })
          notes := [.applyRecorded] }] := by
  unfold Part.recordingPosts applyRecordOf
  rw [hledger, if_neg hid]

/-- The write-done of a hold that a cancelled local ask was granted begins a settlement of charge 0 (R26, R135, R138). -/
theorem exec_writeComplete_cancelled {s : State} {slot : Nat} {r : HoldRecord} {x : CancelledAsk} (h : s.part.AtRest)
    (hcancelled : s.part.settlement.cancelled = some x) (hdue : x.due = none) (hhome : x.home = s.part.config.values.station)
    (hqueue : s.part.store.queue =
      [{ write := .hold slot (some r), notes := [.grant s.part.config.values.station slot r.id x.job] }])
    (hother : s.part.job.state = .idle ∨ s.part.job.home ≠ some s.part.config.values.station ∨ s.part.job.number ≠ x.job)
    (hstage : s.part.settlement.stage = .free) (hrequests : s.part.settlement.requests = []) (hid : r.id ≠ 0)
    (hown : ownHold (program s.part.store.stored (.hold slot (some r))) s.part.config.values.station r.id x.job = some (slot, r))
    (hslot : tableGet (program s.part.store.stored (.hold slot (some r))).holds slot = some r)
    (hknown : (findAccount (program s.part.store.stored (.hold slot (some r))) r.account).isSome = true) :
    let S := s.part.stored { write := .hold slot (some r), notes := [.grant s.part.config.values.station slot r.id x.job] } []
    let settled : Settlement :=
      { source := s.part.config.values.station, holdId := r.id, account := r.account, job := x.job, charge := 0, impressions := 0
        requester := .cancelledAsk x.job }
    exec .writeComplete s =
      .next
        { s with
          part :=
            ((((S.recording settled).heldPost slot (some (S.settlingHold r)) []).joined (S.recordingPosts settled)).setStarting
              s.part.store.starting).alert } := by
  intro S settled
  obtain ⟨hs, hwork, hpending, -⟩ := id h
  have hledger : S.ledger = program s.part.store.stored (.hold slot (some r)) := Part.ledger_stored (p := S) rfl hpending
  have hcalm : S.Calm := h.calm.same ⟨rfl, rfl, rfl, rfl, rfl⟩
  let asked : Settlement := { settled with account := x.account }
  have hasks : Note.act (.grant s.part.config.values.station slot r.id x.job) S = S.requestSettlement asked := by
    have hother' : S.job.state = .idle ∨ S.job.home ≠ some x.home ∨ S.job.number ≠ x.job := by rw [hhome]; exact hother
    have hgive := (Part.take_cancelled (p := S) hcancelled hother' r.id r.amount (S.classOf r.account) S.config.values.lifetime 0).1
    show S.answerGive s.part.config.values.station slot r.id x.job = _
    unfold Part.answerGive
    rw [hledger, hslot]
    dsimp only
    rw [if_neg (by simp), if_pos (show s.part.config.values.station = S.station from rfl)]
    rw [hhome] at hgive
    rw [hgive]
    unfold Part.cancelledGive
    rw [show S.settlement.cancelled = some x from hcancelled]
    dsimp only
    rw [if_pos (by rw [hdue]; rfl)]
  have hidentify : identify S.ledger asked = .found settled := by
    rw [hledger]
    exact (identify_hold (s := asked) hid).2 slot r hown
  have hworks := Part.decide_hold_works (p := S) hcalm hwork hpending rfl hidentify hid (by rw [hledger]; exact hknown)
    (by rw [hledger]; exact (ownHold_find hown).1)
  have hpumps := Part.request_pumps (b := S) (x := asked) hcalm hwork hpending hstage hrequests hworks
  refine event_writeDone (p := S.requestSettlement asked) h hqueue hasks hs (Part.reactIdle_path rfl) hpumps (by decide) ?_ hwork
    hpending rfl ?_
  · exact hcalm.same ⟨rfl, rfl, rfl, rfl, rfl⟩
  · rw [Part.recording_hold_freeSlots (p := S) hpending]
    show journalFree S.ledger s.part.journal.reserved = journalFree s.part.ledger s.part.journal.reserved
    rw [Part.stored_ledger hqueue]

/-- Settles O48: an answer reaches the open job, or the cancelled ask, or nobody. -/
theorem holdAnswersFundOrEndTheJob : Obligations.HoldAnswersFundOrEndTheJob := by
  refine ⟨?asks, ?funded, ?cancelled, ?own⟩
  case asks =>
    intro s source holdId job amount cls lifetime reason h j
    have hs := h.1
    refine ⟨fun hstate hhome hnumber hfunding hamount hcls hqueue => ?gives, fun hstate hhome hnumber => ?denies,
      fun hother hnone => ?nobody⟩
    case gives =>
      subst hnumber
      exact exec_holdGive_asking h hstate hhome hfunding hamount hcls hqueue
    case denies =>
      subst hnumber
      have hidle : s.part.job.state ≠ .idle := by rw [show s.part.job.state = .authorize from hstate]; decide
      have hf : inService (fun p => p.takeDeny source s.part.job.number reason) s.part = s.part.denyJob (.denied reason) := by
        rw [inService_serving hs, (Part.take_job hidle hhome 0 0 0 0 reason).2]
        exact if_pos hstate
      exact event_denies h hf hstate
    case nobody =>
      obtain ⟨hgive, hdeny, hgone⟩ := Part.take_nobody (p := s.part) hother hnone holdId amount cls lifetime reason
      exact ⟨event_ignored h ((inService_serving hs _).trans hgive), event_ignored h ((inService_serving hs _).trans hdeny),
        event_ignored h ((inService_serving hs _).trans hgone)⟩
  case funded =>
    intro s source holdId job amount cls lifetime reason h hhome hnumber j give deny becomes topped granted ended tops adopts
    subst hnumber
    have hs := h.1
    refine ⟨fun hfunding htops => ?account, fun hfunding hadopts hqueue => ?adopts, fun hfunding htops => ?keeps⟩
    case account =>
      obtain ⟨htakes, hidle⟩ := takesTopups_of_cases htops
      refine ⟨fun hid hfunds hqueue => ?grants, fun hid => ?other, ?denies⟩
      case grants =>
        let q : Part :=
          { s.part with
            job := granted, store := { s.part.store with queue := [{ write := .checkpoint granted.checkpoint, notes := [] }] } }
        have hevent : give =
            becomes
              { q with
                job :=
                  { granted with
                    runOutDue :=
                      if q.runOutHolds then some (s.part.job.runOutDue.getD (s.part.now + s.part.config.values.w1)) else none }
                permit := q.permitHolds } :=
          exec_holdGive_tops h hhome hfunding htakes hidle hid rfl hfunds hqueue
        have hrun : (if q.runOutHolds then some (s.part.job.runOutDue.getD (s.part.now + s.part.config.values.w1)) else none) =
            ended j.exhausted := if_congr (runOutHolds_iff (p := q) rfl) rfl rfl
        rw [hrun, permitHolds_serving (p := q) hs] at hevent
        exact hevent
      case other =>
        refine event_ignored h ?_
        rw [inService_serving hs, (Part.take_job hidle hhome holdId amount cls lifetime 0).1,
          (Part.answer_funded htakes hfunding holdId amount cls lifetime 0).1]
        exact if_neg hid
      case denies =>
        let q : Part := { s.part with job := { topped with exhausted := some .funds }, panel := s.part.panel.raise .funds }
        have hevent : deny =
            becomes
              { q with
                job :=
                  { q.job with
                    runOutDue :=
                      if q.runOutHolds then some (s.part.job.runOutDue.getD (s.part.now + s.part.config.values.w1)) else none }
                permit := s.part.permit } :=
          exec_holdDeny_tops h hhome hfunding htakes hidle
        have hrun : (if q.runOutHolds then some (s.part.job.runOutDue.getD (s.part.now + s.part.config.values.w1)) else none) =
            ended (some .funds) := if_congr (runOutHolds_iff (p := q) rfl) rfl rfl
        rw [hrun] at hevent
        exact hevent
    case adopts => exact exec_holdGive_adopts h hhome hfunding hadopts hqueue
    case keeps =>
      obtain ⟨htakes, hidle⟩ := takesTopups_of_cases htops
      have hauth : s.part.job.state ≠ .authorize := by
        intro ha
        rw [show j.state = .authorize from ha] at htakes
        cases htakes
      obtain ⟨hgive, hdeny⟩ := Part.take_job (p := s.part) hidle hhome holdId amount cls lifetime reason
      obtain ⟨hadopt, hkeep⟩ := Part.answer_float (p := s.part) hfunding holdId amount cls lifetime reason
      exact ⟨fun hnot => event_ignored h ((inService_serving hs _).trans (hgive.trans (hadopt.trans (if_neg hnot)))),
        event_ignored h ((inService_serving hs _).trans (hdeny.trans (hkeep hauth)))⟩
  case cancelled =>
    intro s source holdId job amount cls lifetime reason x h hcancelled hhome hjob hother freed
    subst hhome hjob
    obtain ⟨hs, hwork, hpending, -⟩ := id h
    obtain ⟨hgive, hdeny⟩ := Part.take_cancelled (p := s.part) hcancelled hother holdId amount cls lifetime reason
    refine ⟨event_atRest ((inService_serving hs _).trans hdeny) h rfl (le_of_eq rfl), ?_⟩
    intro slot hslot hremote hplace number
    let dropped : Part := { s.part with settlement := { s.part.settlement with cancelled := none } }
    have hf : inService (fun p => p.takeGive x.home holdId x.job amount cls lifetime) s.part =
        dropped.assign .settlement [.putEntry x.home holdId x.account x.job 0 0 false true none] := by
      rw [inService_serving hs, hgive]
      unfold Part.cancelledGive
      rw [hcancelled]
      dsimp only
      rw [if_neg (by simp [Option.isNone_iff_eq_none, ← Option.isSome_iff_ne_none, hremote])]
      rfl
    have hcalm : dropped.Calm := h.calm.same ⟨rfl, rfl, rfl, rfl, rfl⟩
    have hworks := Part.cancelledEntry_works (p := dropped) hcalm hwork hpending hslot hplace x.home holdId x.account x.job
    show event s _ = _
    rw [event_works hf hs hwork hpending (List.cons_ne_nil _ _) (Part.reactIdle_path rfl) hcalm.react_withWork rfl hworks (by decide),
      Part.journalLow_same ?free]
    · rfl
    case free =>
      exact (Part.freeSlots_joined (p := { dropped with settlement := { dropped.settlement with
        reserved := dropped.settlement.reserved - 1 } }) hpending _ fun post hpost l => by
          rw [List.mem_singleton.mp hpost]; exact ⟨rfl, rfl⟩).trans (Part.freeSlots_congr ⟨rfl, rfl, rfl, rfl⟩)
  case own =>
    intro s slot r x h hcancelled hdue hhome hqueue hother hstage hrequests hinbound hid station stored sequence hown hslot hknown hrising
    obtain ⟨-, -, hpending, -⟩ := id h
    let post : Post := { write := .hold slot (some r), notes := [.grant s.part.config.values.station slot r.id x.job] }
    let S := s.part.stored post []
    let settled : Settlement :=
      { source := s.part.config.values.station, holdId := r.id, account := r.account, job := x.job, charge := 0, impressions := 0
        requester := .cancelledAsk x.job }
    have hledger : S.ledger = stored := Part.ledger_stored (p := S) rfl hpending
    have hevent : exec .writeComplete s =
        .next
          { s with
            part :=
              ((((S.recording settled).heldPost slot (some (S.settlingHold r)) []).joined (S.recordingPosts settled)).setStarting
                s.part.store.starting).alert } :=
      exec_writeComplete_cancelled h hcancelled hdue hhome hqueue hother hstage hrequests hid hown hslot hknown
    have hresult := Part.recording_hold_result (p := S) rfl settled slot r (S.recordingPosts settled)
    have hheld (n : Nat) : ((S.recording settled).heldPost slot (some (S.settlingHold r)) []).held n =
        s.part.held n - if n = r.account ∧ r.state = .active then r.amount else 0 :=
      Part.heldPost_settling (p := S.recording settled) hrising
        (show tableGet (S.recording settled).ledger.holds slot = some r from hledger ▸ hslot) n
    rw [Part.recordingPosts_hold (p := S) (x := settled) hid hledger] at hevent
    dsimp only at hresult
    rw [Part.recordingPosts_hold (p := S) (x := settled) hid hledger, hledger] at hresult
    exact ⟨_, hevent, congrArg (fun q : Part => ({ s with part := (q.setStarting s.part.store.starting).alert } : State)) hresult,
      hheld⟩

end Sys2Proof.Machine
end


section
/-! Proofs about the stages of an apply: the debit, the closing posts and the result (R114, R115, R134, R135, R138). -/

-- One theorem after another: many small theorems elaborated at once need more threads than the check allows.
set_option Elab.async false

namespace Sys2Proof.Machine

open Sys2Proof

/-- An account post behind one of the same slot, or behind none, takes its place with its notes (R161, R162). -/
theorem Store.post_account {s : Store} {slot : Nat} {waiting : List Post} (hqueue : s.queue = waiting)
    (hstart : s.starting = !waiting.isEmpty)
    (hwaiting : waiting = [] ∨ ∃ value notes, waiting = [{ write := .account slot value, notes := notes }]) (value : AccountSlot)
    (notes : List Note) :
    s.hasPlace (.account slot value) = true ∧
      s.post (.account slot value) notes =
        { s with queue := [{ write := .account slot value, notes := waiting.flatMap Post.notes ++ notes }] } := by
  rcases hwaiting with rfl | ⟨value', notes', rfl⟩
  · refine ⟨by simp [Store.hasPlace, Config.queuePlaces, hqueue], ?_⟩
    rw [Store.post_joins (by simp [hqueue]), hqueue]
    rfl
  · have hmerges : s.merges (.account slot value) = true := by
      simp [Store.merges, coalesces, Store.waiting, hstart, hqueue, Write.name]
    refine ⟨by simp [Store.hasPlace, hmerges], ?_⟩
    unfold Store.post
    rw [if_pos hmerges]
    simp [Store.programming, Store.waiting, hstart, hqueue, replaceWaiting, Write.name]

namespace Part

theorem enterStage_calm {p : Part} (h : p.Calm) (st : ApplyStage) (x : Settlement) : (p.enterStage st x).Calm :=
  h.same ⟨rfl, rfl, rfl, rfl, rfl⟩

/-- What the procedure that is CLOSING an applied settlement posts (R135). -/
theorem closingTasks_applied (x : Settlement) :
    closingTasks x .applied =
      [if x.holdId = 0 then .putMark x.source x.job [] else .removeHold x.holdId [], .clearApply [.applyClosed .applied]] := rfl

/-- The clearing of the apply record (R135). -/
def clearedPost : Post := { write := .apply none, notes := [.applyClosed .applied] }

theorem Works.clearApply {p : Part} (hcalm : p.Calm) (hwork : p.store.work = []) (hpending : p.store.pending = [])
    (hplace : p.store.queue.length < 8) (hname : ∀ post ∈ p.store.queue, post.write.name ≠ .apply) :
    p.Works 1 [.clearApply [.applyClosed .applied]] (p.joined [clearedPost]) :=
  .post (w := .apply none) (notes := [.applyClosed .applied]) hcalm hwork hpending rfl hplace hname (.done _)

end Part

/-- The write-done of the apply record hands the debit to the account table (R114, R135). -/
theorem exec_writeComplete_debits {s : State} {x : Settlement} {record : Option ApplyRecord} {slot : Nat} {a : Account}
    {waiting : List Post} (h : s.part.AtRest) (hcurrent : s.part.settlement.current = some x)
    (hqueue : s.part.store.queue = { write := .apply record, notes := [.applyRecorded] } :: waiting)
    (hwaiting : waiting = [] ∨ ∃ value notes, waiting = [{ write := .account slot value, notes := notes }])
    (hfound : findAccount s.part.ledger x.account = some (slot, a)) :
    exec .writeComplete s =
      .next
        { s with
          part :=
            ({ s.part with
                settlement := { s.part.settlement with stage := .debiting }
                store :=
                  { s.part.store with
                    stored := { s.part.store.stored with apply := record }
                    queue :=
                      [{ write :=
                          .account slot
                            (.used
                              (a.debited (s.part.held x.account) x.charge x.impressions s.part.settlement.sequence))
                         notes := waiting.flatMap Post.notes ++ [.debited] }] } } : Part).alert } := by
  obtain ⟨hs, hwork, hpending, -, -, -, -, hstart⟩ := id h
  let S := s.part.stored { write := .apply record, notes := [.applyRecorded] } waiting
  let D := S.enterStage .debiting x
  have hcalm : D.Calm := h.calm.same ⟨rfl, rfl, rfl, rfl, rfl⟩
  have hledger : D.ledger = s.part.ledger := Part.stored_ledger hqueue
  let debited := a.debited (s.part.held x.account) x.charge x.impressions s.part.settlement.sequence
  let post : Post := { write := .account slot (.used debited), notes := waiting.flatMap Post.notes ++ [.debited] }
  let q : Part := { D with store := { D.store with queue := [post] } }
  have hacts : Note.act .applyRecorded S = D.assign .account [.debit] := by
    show S.enterDebiting = _
    unfold Part.enterDebiting
    rw [show S.settlement.current = some x from hcurrent]
  have hstep : (Task.debit).step D = some (q, []) := by
    have hdebit : D.debitOf x = some (slot, debited) := by
      unfold Part.debitOf
      rw [hledger, hfound]
      rfl
    obtain ⟨hplace, hpost⟩ := Store.post_account (s := D.store) (waiting := waiting) rfl rfl hwaiting (.used debited) [.debited]
    show D.stepDebit = _
    unfold Part.stepDebit
    rw [show D.settlement.current = some x from rfl]
    dsimp only
    rw [hdebit]
    dsimp only
    unfold Part.justPost Part.tryPost
    rw [if_pos hplace, hpost]
    rfl
  have hplace : D.store.queue.length < 8 := by
    show waiting.length < 8
    rcases hwaiting with rfl | ⟨value, notes, rfl⟩ <;> simp
  have hq : q.Calm := hcalm.same ⟨rfl, rfl, rfl, rfl, rfl⟩
  have hworks : D.Works 1 [.debit] q := .calm hstep (.inl hplace) hwork hpending hq (.done _)
  have hpumps := hworks.pumps .account false hwork hpending
  rw [← hcalm.react_withWork] at hpumps
  have hassign : D.assign .account [.debit] = D.withWork (worksOf .account [.debit] false) :=
    Part.assign_alone (p := D) hwork _ _
  have hfree : q.freeSlots = s.part.freeSlots := by
    have hnew : q.ledger.journalSequence = s.part.ledger.journalSequence ∧ q.ledger.releaseMark = s.part.ledger.releaseMark := by
      unfold Part.ledger Store.newest
      rw [show q.store.pending = [] from hpending, hpending, hqueue]
      rcases hwaiting with rfl | ⟨value, notes, rfl⟩ <;> exact ⟨rfl, rfl⟩
    unfold Part.freeSlots journalFree
    rw [hnew.1, hnew.2]
    rfl
  have hevent := event_writeDone h hqueue (hacts.trans hassign) hs (Part.reactIdle_path rfl) hpumps (by decide) hq hwork hpending rfl
    hfree
  have hcurrent' : ({ s.part.settlement with stage := .debiting, current := some x } : SettlementUnit) =
      { s.part.settlement with stage := .debiting } := by rw [← hcurrent]
  rw [hevent]
  show Host.Outcome.next { s with part := ({ s.part with
    settlement := { s.part.settlement with stage := .debiting, current := some x }
    store := _ } : Part).alert } = _
  rw [hcurrent']
  rfl

/-- The write-done of the debit, and the closing posts that follow it (R135). -/
theorem exec_writeComplete_closes {s : State} {x : Settlement} {slot : Nat} {value : AccountSlot} {q : Part} {n : Nat}
    (h : s.part.AtRest) (hcurrent : s.part.settlement.current = some x)
    (hqueue : s.part.store.queue = [{ write := .account slot value, notes := [.debited] }])
    (hworks : ((s.part.stored { write := .account slot value, notes := [.debited] } []).closing x).Works n (closingTasks x .applied) q)
    (hn : n ≤ 4096) (hcalm : q.Calm) (hwork : q.store.work = []) (hpending : q.store.pending = [])
    (hpath : q.path.sheets = s.part.path.sheets) (hfree : q.freeSlots = s.part.freeSlots) :
    exec .writeComplete s = .next { s with part := (q.setStarting s.part.store.starting).alert } := by
  obtain ⟨hs, hwork', hpending', -⟩ := id h
  let S := s.part.stored { write := .account slot value, notes := [.debited] } []
  let C := S.closing x
  have hC : C.Calm := h.calm.same ⟨rfl, rfl, rfl, rfl, rfl⟩
  have hacts : Note.act .debited S = C.assign .settlement (closingTasks x .applied) := by
    show S.enterClosing .applied = _
    unfold Part.enterClosing
    rw [show S.settlement.current = some x from hcurrent]
    rfl
  have hassign : C.assign .settlement (closingTasks x .applied) = C.withWork (worksOf .settlement (closingTasks x .applied) false) :=
    Part.assign_alone (p := C) hwork' _ _
  have hpumps := hworks.pumps .settlement false hwork' hpending'
  rw [← hC.react_withWork] at hpumps
  exact event_writeDone h hqueue (hacts.trans hassign) hs (Part.reactIdle_path rfl) hpumps hn hcalm hwork hpending hpath hfree

/-- The free count after the debit is stored and the closing posts are made (R173). -/
theorem closing_freeSlots {p : Part} {post : Post} (hqueue : p.store.queue = [post]) (x : Settlement) :
    ((p.stored post []).closing x).freeSlots = p.freeSlots := by
  show journalFree (p.stored post []).ledger p.journal.reserved = journalFree p.ledger p.journal.reserved
  rw [Part.stored_ledger hqueue]

/-- The float mark of an applied settlement, and the clearing of its record (R135). -/
def Part.markedPosts (x : Settlement) : List Post := [{ write := .mark x.source x.job, notes := [] }, Part.clearedPost]

theorem Part.closing_float_works {p : Part} (hcalm : p.Calm) (hwork : p.store.work = []) (hpending : p.store.pending = [])
    (hqueue : p.store.queue = []) {x : Settlement} (hfloat : x.holdId = 0) :
    p.Works 2 (closingTasks x .applied) (p.joined (Part.markedPosts x)) := by
  let mark : Post := { write := .mark x.source x.job, notes := [] }
  rw [closingTasks_applied, if_pos hfloat]
  have hjoined : (p.joined [mark]).joined [clearedPost] = p.joined (markedPosts x) := Part.joined_joined p [mark] [clearedPost]
  rw [← hjoined]
  refine .post (p := p) (w := .mark x.source x.job) (notes := []) hcalm hwork hpending rfl (by rw [hqueue]; decide)
    (fun post hpost => by rw [hqueue] at hpost; cases hpost) ?_
  have hone : (p.joined [mark]).store.queue = [mark] := by
    show p.store.queue ++ [mark] = _
    rw [hqueue]; rfl
  refine .clearApply (p := p.joined [mark]) (hcalm.joined _) hwork hpending (by rw [hone]; exact (by decide : 1 < 8)) fun post hpost => ?_
  rw [hone] at hpost
  rw [List.mem_singleton.mp hpost]
  exact RecordName.noConfusion

theorem Part.markedPosts_freeSlots {p : Part} (hpending : p.store.pending = []) (x : Settlement) :
    (p.joined (Part.markedPosts x)).freeSlots = p.freeSlots := by
  refine Part.freeSlots_joined (p := p) hpending _ fun post hpost l => ?_
  simp only [markedPosts, List.mem_cons, List.not_mem_nil, or_false] at hpost
  rcases hpost with rfl | rfl <;> exact ⟨rfl, rfl⟩

theorem Part.cleared_freeSlots {p : Part} (hpending : p.store.pending = []) :
    (p.joined [Part.clearedPost]).freeSlots = p.freeSlots := by
  refine Part.freeSlots_joined (p := p) hpending _ fun post hpost l => ?_
  rw [List.mem_singleton.mp hpost]
  exact ⟨rfl, rfl⟩

theorem Part.closing_gone_works {p : Part} (hcalm : p.Calm) (hwork : p.store.work = []) (hpending : p.store.pending = [])
    (hqueue : p.store.queue = []) {x : Settlement} (hhold : x.holdId ≠ 0) (hnone : findHold p.ledger x.holdId = none) :
    p.Works 2 (closingTasks x .applied) (p.joined [Part.clearedPost]) := by
  have hstep : (Task.removeHold x.holdId []).step p = some (p, []) := by
    show p.stepRemoveHold x.holdId [] = _
    unfold Part.stepRemoveHold
    rw [hnone]
  rw [closingTasks_applied, if_neg hhold]
  refine .calm hstep (.inl (by rw [hqueue]; decide)) hwork hpending hcalm ?_
  exact .clearApply hcalm hwork hpending (by rw [hqueue]; decide) (fun post hpost => by rw [hqueue] at hpost; cases hpost)

theorem Part.closing_hold_works {p : Part} (hcalm : p.Calm) (hwork : p.store.work = []) (hpending : p.store.pending = [])
    (hqueue : p.store.queue = []) {x : Settlement} (hhold : x.holdId ≠ 0) {place : Nat} {r : HoldRecord}
    (hfind : findHold p.ledger x.holdId = some (place, r)) :
    p.Works 2 (closingTasks x .applied) ((p.heldPost place none []).joined [Part.clearedPost]) := by
  have hstep : (Task.removeHold x.holdId []).step p = some (p.heldPost place none [], []) := by
    show p.stepRemoveHold x.holdId [] = _
    unfold Part.stepRemoveHold
    rw [hfind]
    dsimp only
    rw [Part.changeHold_eq (by rw [hqueue]; decide)]
    rfl
  have hone : (p.heldPost place none []).store.queue = [{ write := .hold place none, notes := [] }] := by
    show p.store.queue ++ [_] = _
    rw [hqueue]; rfl
  rw [closingTasks_applied, if_neg hhold]
  refine .calm hstep (.inl (by rw [hqueue]; decide)) hwork hpending (hcalm.heldPost _ _ _) ?_
  refine .clearApply (p := p.heldPost place none []) (hcalm.heldPost _ _ _) hwork hpending (by rw [hone]; exact (by decide : 1 < 8)) fun post hpost => ?_
  rw [hone] at hpost
  rw [List.mem_singleton.mp hpost]
  exact RecordName.noConfusion

section
variable {s : State} {x : Settlement} {slot : Nat} {value : AccountSlot}

/-- The part with the debit stored, CLOSING (R135). -/
def Part.debitStored (p : Part) (slot : Nat) (value : AccountSlot) (x : Settlement) : Part :=
  (p.stored { write := .account slot value, notes := [.debited] } []).closing x

theorem Part.AtRest.debitStored (h : s.part.AtRest) (slot : Nat) (value : AccountSlot) (x : Settlement) :
    (s.part.debitStored slot value x).Calm := h.calm.same ⟨rfl, rfl, rfl, rfl, rfl⟩

theorem Part.debitStored_ledger (hqueue : s.part.store.queue = [{ write := .account slot value, notes := [.debited] }]) :
    (s.part.debitStored slot value x).ledger = s.part.ledger := Part.stored_ledger hqueue

theorem exec_writeComplete_closes_float (h : s.part.AtRest) (hcurrent : s.part.settlement.current = some x)
    (hqueue : s.part.store.queue = [{ write := .account slot value, notes := [.debited] }]) (hfloat : x.holdId = 0) :
    exec .writeComplete s =
      .next { s with part := (((s.part.debitStored slot value x).joined (Part.markedPosts x)).setStarting s.part.store.starting).alert } := by
  obtain ⟨-, hwork, hpending, -⟩ := id h
  have hC := h.debitStored slot value x
  exact exec_writeComplete_closes h hcurrent hqueue (Part.closing_float_works hC hwork hpending rfl hfloat) (by decide) (hC.joined _)
    hwork hpending rfl
    ((Part.markedPosts_freeSlots (p := s.part.debitStored slot value x) hpending x).trans (closing_freeSlots hqueue x))

theorem exec_writeComplete_closes_gone (h : s.part.AtRest) (hcurrent : s.part.settlement.current = some x)
    (hqueue : s.part.store.queue = [{ write := .account slot value, notes := [.debited] }]) (hhold : x.holdId ≠ 0)
    (hnone : findHold s.part.ledger x.holdId = none) :
    exec .writeComplete s =
      .next { s with part := (((s.part.debitStored slot value x).joined [Part.clearedPost]).setStarting s.part.store.starting).alert } := by
  obtain ⟨-, hwork, hpending, -⟩ := id h
  have hC := h.debitStored slot value x
  have hworks := Part.closing_gone_works hC hwork hpending rfl hhold ((congrArg (findHold · x.holdId) (Part.debitStored_ledger hqueue)).trans hnone)
  exact exec_writeComplete_closes h hcurrent hqueue hworks (by decide) (hC.joined _) hwork hpending rfl
    ((Part.cleared_freeSlots (p := s.part.debitStored slot value x) hpending).trans (closing_freeSlots hqueue x))

theorem exec_writeComplete_closes_hold {place : Nat} {r : HoldRecord} (h : s.part.AtRest)
    (hcurrent : s.part.settlement.current = some x)
    (hqueue : s.part.store.queue = [{ write := .account slot value, notes := [.debited] }]) (hhold : x.holdId ≠ 0)
    (hfind : findHold s.part.ledger x.holdId = some (place, r)) :
    exec .writeComplete s =
      .next
        { s with
          part :=
            ((((s.part.debitStored slot value x).heldPost place none []).joined [Part.clearedPost]).setStarting
              s.part.store.starting).alert } := by
  obtain ⟨-, hwork, hpending, -⟩ := id h
  have hC := h.debitStored slot value x
  have hremoved : ((s.part.debitStored slot value x).heldPost place none []).Calm := hC.heldPost _ _ _
  have hworks := Part.closing_hold_works hC hwork hpending rfl hhold
    ((congrArg (findHold · x.holdId) (Part.debitStored_ledger hqueue)).trans hfind)
  have hfree := Part.heldPost_freeSlots (p := s.part.debitStored slot value x) hpending place none []
  exact exec_writeComplete_closes h hcurrent hqueue hworks (by decide) (hremoved.joined _) hwork hpending rfl
    ((Part.cleared_freeSlots (p := (s.part.debitStored slot value x).heldPost place none []) hpending).trans
      (hfree.trans (closing_freeSlots hqueue x)))

end

end Sys2Proof.Machine
end


section
/-! Proofs about the end of an apply, and about the end of a job that is settled here: the result reaches its requester, and the
procedure is FREE (R43, R134, R135, R138). -/

-- One theorem after another: many small theorems elaborated at once need more threads than the check allows.
set_option Elab.async false

namespace Sys2Proof.Machine

open Sys2Proof

namespace Part

/-- A part whose apply procedure has become FREE at the last of its writes (R134, R135). -/
def applyFreed (p : Part) (post : Post) : Part :=
  { p.stored post [] with settlement := { p.settlement with stage := .free, current := none } }

theorem AtRest.applyFreed {p : Part} (h : p.AtRest) (post : Post) : (p.applyFreed post).Calm := h.calm.same ⟨rfl, rfl, rfl, rfl, rfl⟩

theorem applyFreed_freeSlots {p : Part} {post : Post} (hqueue : p.store.queue = [post]) :
    (p.applyFreed post).freeSlots = p.freeSlots := by
  show journalFree (p.stored post []).ledger p.journal.reserved = journalFree p.ledger p.journal.reserved
  rw [stored_ledger hqueue]

/-- The result is reported, and the procedure looks for its next settlement (R132, R134, R135). -/
theorem applyDone_reports {p : Part} {x : Settlement} {post : Post} (hcurrent : p.settlement.current = some x)
    (hrequests : ((p.applyFreed post).reportSettlement x result).settlement.requests = []) :
    (p.stored post []).applyDone result =
      ((p.applyFreed post).reportSettlement x result).assign .settlement [.nextRequest] := by
  unfold applyDone
  rw [show (p.stored post []).settlement.current = some x from hcurrent]
  dsimp only
  rw [show (p.stored post []).withSettlement { (p.stored post []).settlement with stage := .free, current := none } =
    p.applyFreed post from rfl, returnFree_nothing hrequests]

theorem nextRequest_works {p : Part} (hcalm : p.Calm) (hwork : p.store.work = []) (hpending : p.store.pending = [])
    (hrequests : p.settlement.requests = []) : p.Works 1 [.nextRequest] p :=
  .calm (nextRequest_nothing hrequests) (.inr fun _ => rfl) hwork hpending hcalm (.done _)

end Part

section
variable {s : State} {x : Settlement} {write : Write} {result : AckResult}

/-- A result that gives the settlement unit no further work (R26, R134). -/
theorem exec_writeComplete_reports {q : Part} (h : s.part.AtRest) (hcurrent : s.part.settlement.current = some x)
    (hqueue : s.part.store.queue = [{ write := write, notes := [.applyClosed result] }])
    (hreport : (s.part.applyFreed { write := write, notes := [.applyClosed result] }).reportSettlement x result = q) (hcalm : q.Calm)
    (hrequests : q.settlement.requests = []) (hwork : q.store.work = []) (hpending : q.store.pending = [])
    (hpath : q.path.sheets = s.part.path.sheets) (hfree : q.freeSlots = s.part.freeSlots) :
    exec .writeComplete s = .next { s with part := (q.setStarting s.part.store.starting).alert } := by
  have hacts : Note.act (.applyClosed result) (s.part.stored { write := write, notes := [.applyClosed result] } []) =
      q.assign .settlement [.nextRequest] := by
    show Part.applyDone _ _ = _
    rw [Part.applyDone_reports hcurrent (by rw [hreport]; exact hrequests), hreport]
  have hassign : q.assign .settlement [.nextRequest] = q.withWork (worksOf .settlement [.nextRequest] false) :=
    Part.assign_alone (p := q) hwork _ _
  have hpumps := (Part.nextRequest_works hcalm hwork hpending hrequests).pumps .settlement false hwork hpending
  rw [← hcalm.react_withWork] at hpumps
  exact event_writeDone h hqueue (hacts.trans hassign) hcalm.1 (Part.reactIdle_path hpath) hpumps (by decide) hcalm hwork
    hpending hpath hfree

/-- The result of the open job's settlement hands the job off (R123, R138, R180). -/
theorem exec_writeComplete_handsOff (h : s.part.AtRest) (hcurrent : s.part.settlement.current = some x)
    (hqueue : s.part.store.queue = [{ write := write, notes := [.applyClosed result] }]) (hjob : x.requester = .job)
    (hstate : s.part.job.state = .settling) (hreserved : 0 < s.part.journal.reserved) (hrequests : s.part.settlement.requests = []) :
    exec .writeComplete s =
      .next
        { s with
          part :=
            (((s.part.applyFreed { write := write, notes := [.applyClosed result] }).handedOver (localStatus result)).setStarting
              s.part.store.starting).alert } := by
  obtain ⟨hs, hwork, hpending, -⟩ := id h
  let p := s.part.applyFreed { write := write, notes := [.applyClosed result] }
  let status := localStatus result
  let last : Work := { owner := .settlement, tasks := [.nextRequest] }
  have hcalm : p.Calm := h.applyFreed _
  have hreleased : p.permit = false := by
    obtain ⟨-, -, -, -, hpermit⟩ := id hcalm
    rw [hpermit]
    simp [Part.permitHolds, show p.job.state = .settling from hstate]
  have hreport : p.reportSettlement x result = p.assign .settlement (p.handOffTasks status) := by
    unfold Part.reportSettlement
    rw [hjob]
    rfl
  have hacts : Note.act (.applyClosed result) (s.part.stored { write := write, notes := [.applyClosed result] } []) =
      p.withWork (worksOf .settlement (p.handOffTasks status) false ++ [last]) := by
    show Part.applyDone _ _ = _
    rw [Part.applyDone_reports hcurrent (by rw [hreport]; exact hrequests), hreport,
      Part.assign_alone (p := p) hwork]
    rfl
  have hover : (p.handedOver status).Calm := Part.handedOver_calm hs hreleased status
  have hend := (Part.nextRequest_works (p := p.handedOver status) hover hwork hpending hrequests).pumps .settlement false hwork hpending
  have hothers : ∀ w ∈ [last], Part.Stands w := fun w hw => by
    rw [List.mem_singleton.mp hw]
    exact ⟨rfl, rfl, by decide⟩
  have hquiet : ∀ q : Part, q.Quiet [last] := fun q w hw t tasks htasks work => by
    rw [List.mem_singleton.mp hw] at htasks
    obtain ⟨rfl, -⟩ := List.cons.inj htasks
    rfl
  have hpumps := (Part.handOff_leads [last] hcalm hstate hpending rfl status).pumps hothers hquiet .settlement hend false hpending
  rw [← hcalm.react_withWork] at hpumps
  have hfree : (p.handedOver status).freeSlots = s.part.freeSlots :=
    (Part.handedOver_freeSlots (p := p) hpending rfl hreserved status).trans (Part.applyFreed_freeSlots hqueue)
  exact event_writeDone h hqueue hacts hs (Part.reactIdle_path rfl) hpumps (by decide) hover hwork hpending rfl hfree

end

/-! ### The end of a job of an account of this station (R43, R123, R132, R138) -/

namespace Part

/-- The settlement of an ACCOUNT_LOCAL job (R123, R138). -/
def jobSettlement (p : Part) : Settlement where
  source := p.config.values.station
  holdId := p.job.holdId.getD 0
  account := p.job.payer
  job := p.job.number
  charge := finalCharge p.config.values p.job.acc.gross p.job.acc.delivered p.job.cls p.job.amount
  impressions := p.job.acc.delivered
  requester := .job

/-- An ACCOUNT_LOCAL job that settles gives its deferred slot back, and asks the apply procedure (R123). -/
theorem enterSettling_own {p : Part} (h : p.job.state ≠ .settling) (hfunding : p.job.funding = some .accountLocal) (r : EndReason) :
    ({ p with job := p.job.endWith r } : Part).enterSettling = (p.settling r).releaseDeferred.requestSettlement p.jobSettlement := by
  rw [enterSettling_eq, stopJob_endWith h]
  unfold handOff
  dsimp only
  rw [show (p.settling r).job.funding = some .accountLocal from hfunding]
  rfl

/-- A job of an account of this station that END has ended on an empty path (R43, R123). -/
def endedOwn (p : Part) : Part := ((p.touchActivity.settling .panelEnd).releaseDeferred).answering 4 .ok []

end Part

theorem exec_endJob_own {s : State} {holdId slot : Nat} {r : HoldRecord} (h : s.part.AtRest) (ho : s.part.config.outcome ≠ .bad)
    (hr : s.part.panel.response = none) (hsheets : s.part.path.sheets = []) (hfunding : s.part.job.funding = some .accountLocal)
    (hopen : s.part.job.state = .ready ∨ s.part.job.state = .running ∨ s.part.job.state = .paused)
    (hstage : s.part.settlement.stage = .free) (hrequests : s.part.settlement.requests = []) (hqueue : s.part.store.queue = [])
    (hholdId : s.part.job.holdId = some holdId) (hid : holdId ≠ 0)
    (hown : ownHold s.part.ledger s.part.config.values.station holdId s.part.job.number = some (slot, r))
    (hknown : (findAccount s.part.ledger r.account).isSome = true) :
    let settled : Settlement := { s.part.jobSettlement with account := r.account }
    exec .endJob s =
      .next
        { s with
          part :=
            (((s.part.endedOwn.recording settled).heldPost slot (some (s.part.endedOwn.settlingHold r)) []).joined
              (s.part.endedOwn.recordingPosts settled)).alert } := by
  intro settled
  obtain ⟨hs, hwork, hpending, -⟩ := id h
  let touched := s.part.touchActivity
  let b := s.part.endedOwn
  have hjobId : s.part.jobSettlement.holdId = holdId := by
    show s.part.job.holdId.getD 0 = _
    rw [hholdId]
    rfl
  have hcalm : b.Calm := (Part.settling_calm (p := touched) hs .panelEnd).same ⟨rfl, rfl, rfl, rfl, rfl⟩
  have hnot : s.part.job.state ≠ .settling := by rcases hopen with hst | hst | hst <;> simp [hst]
  obtain ⟨f, hexec, heffect⟩ := exec_endRequest (s := s) (.inl ⟨rfl, rfl, rfl⟩) fun hc => by cases hc
  have hf : f s.part = b.requestSettlement s.part.jobSettlement := by
    rw [heffect h ho hr, Part.endRequest_drains hopen, Part.endJob_empty (p := touched) hsheets,
      Part.enterSettling_own (p := touched) hnot hfunding]
    rfl
  have hidentify : identify b.ledger s.part.jobSettlement = .found settled :=
    (identify_hold (s := s.part.jobSettlement) (by rw [hjobId]; exact hid)).2 slot r (by rw [hjobId]; exact hown)
  have hworks := Part.decide_hold_works (p := b) hcalm hwork hpending hqueue hidentify (by rw [show settled.holdId = holdId from hjobId]; exact hid)
    hknown (by rw [show settled.holdId = holdId from hjobId]; exact (ownHold_find hown).1)
  have hpumps := Part.request_pumps (b := b) (x := s.part.jobSettlement) hcalm hwork hpending hstage hrequests hworks
  have hidle : (f s.part).reactIdle s.part = b.requestSettlement s.part.jobSettlement := by
    rw [hf]
    have hsettling : (b.requestSettlement s.part.jobSettlement).job.state = .settling := rfl
    exact Part.reactIdle_state (by rw [hsettling]; decide) (by rw [hsettling]; decide) (by rw [hsettling]; decide)
  have hphase : (f s.part).phase = .serving := by rw [hf]; exact hs
  rw [hexec, event_pumped hidle hphase hpumps (by decide)]
  have hfree : (((b.recording settled).heldPost slot (some (b.settlingHold r)) []).joined (b.recordingPosts settled)).freeSlots =
      s.part.freeSlots :=
    (Part.recording_hold_freeSlots (p := b) hpending settled slot r).trans (Part.freeSlots_congr (p := s.part) ⟨rfl, rfl, rfl, rfl⟩)
  rw [Part.journalLow_same hfree]

/-- The settlement that is in progress is the one whose debit is stored (R135). -/
theorem Part.debitStored_known {p : Part} {x : Settlement} (hcurrent : p.settlement.current = some x) (slot : Nat) (value : AccountSlot) :
    p.debitStored slot value x =
      { p.stored { write := .account slot value, notes := [.debited] } [] with
        settlement := { p.settlement with stage := .closing } } := by
  show ({ p.stored { write := .account slot value, notes := [.debited] } [] with
    settlement := { p.settlement with stage := .closing, current := some x } } : Part) = _
  rw [← hcurrent]

/-- What the open job's result leaves (R123, R138, R180). -/
theorem Part.applyFreed_handedOver {p : Part} {post : Post} (hqueue : p.store.queue = [post]) (status : JournalStatus) :
    (p.applyFreed post).handedOver status =
      { p.stored post [] with
        job := {}
        journal := { p.journal with reserved := p.journal.reserved - 1 }
        line := (p.sendFrame 0 p.job.tallyMessage).line
        settlement := { p.settlement with stage := .free, current := none }
        store :=
          { (p.stored post []).store with
            queue :=
              [{ write := .counter .journalSequence (p.ledger.journalSequence + 1), notes := [] },
                { write := journalWrite (p.ledger.journalSequence + 1) (.job (p.job.journalEntry status)), notes := [] },
                { write := .checkpoint none, notes := [] }] }
        panel := p.panel.raise .jobState } := by
  have hledger : (p.applyFreed post).ledger = p.ledger := stored_ledger hqueue
  have hline := (enqueue_congr (p := p) (q := p.applyFreed post) rfl rfl 0 p.job.tallyMessage).2
  unfold handedOver sequencePost recordPost
  rw [hledger, show (p.applyFreed post).job = p.job from rfl, hline]
  rfl

/-- What END of a job of an account of this station leaves (R43, R123, R135). -/
theorem Part.endedOwn_result {p : Part} {holdId : Nat} (hqueue : p.store.queue = []) (hholdId : p.job.holdId = some holdId)
    (hid : holdId ≠ 0) (slot : Nat) (r : HoldRecord) :
    let settled : Settlement := { p.jobSettlement with account := r.account }
    let q := ((p.endedOwn.recording settled).heldPost slot (some (p.endedOwn.settlingHold r)) []).joined
      (p.endedOwn.recordingPosts settled)
    let charge := finalCharge p.config.values p.job.acc.gross p.job.acc.delivered p.job.cls p.job.amount
    let sequence := p.ledger.applySequence + 1
    q =
      ({ p with
          permit := false
          job :=
            { p.job with
              state := .settling, endReason := some (p.job.endReason.getD .panelEnd), charge := some charge
              keepDue := none, runOutDue := none, topupOutstanding := false, topupAttempts := 0, topupDue := none
              topupFrame := none, lastActivity := p.now }
          accounts := { p.accounts with held := q.accounts.held }
          settlement :=
            { p.settlement with
              reserved := p.settlement.reserved - 1, stage := .recording, sequence := sequence
              current :=
                some
                  { source := p.config.values.station, holdId := holdId, account := r.account
                    job := p.job.number, charge := charge, impressions := p.job.acc.delivered
                    requester := .job } }
          store :=
            { p.store with
              queue :=
                [{ write := .hold slot (some { r with state := .settling, touched := p.now / 1000 }), notes := [] },
                  { write := .counter .applySequence sequence, notes := [] },
                  { write :=
                      .apply
                        (some
                          { sequence := sequence, holdId := some holdId, station := p.config.values.station
                            job := p.job.number, account := r.account, charge := charge
                            impressions := p.job.acc.delivered })
                    notes := [.applyRecorded] }] }
          panel := p.panel.raise .jobState } : Part).answering 4 .ok [] := by
  intro settled q charge sequence
  have hjobId : settled.holdId = holdId := by
    show p.job.holdId.getD 0 = _
    rw [hholdId]
    rfl
  have hsettled : settled = { source := p.config.values.station, holdId := holdId, account := r.account, job := p.job.number, charge := charge, impressions := p.job.acc.delivered, requester := .job } := by
    rw [← hjobId]
    rfl
  have hposts := recordingPosts_hold (p := p.endedOwn) (x := settled) (by rw [hjobId]; exact hid) (l := p.ledger) rfl
  have hresult := recording_hold_result (p := p.endedOwn) hqueue settled slot r (p.endedOwn.recordingPosts settled)
  rw [hjobId] at hposts
  refine hresult.trans ?_
  show ({ p.endedOwn with
    accounts := { p.accounts with held := q.accounts.held }
    settlement := { p.endedOwn.settlement with stage := .recording, sequence := sequence, current := some settled }
    store := { p.store with queue := { write := .hold slot (some (p.settlingHold r)), notes := [] } :: p.endedOwn.recordingPosts settled } } : Part) = _
  rw [hposts, hsettled]
  rfl

theorem Part.held_joined_alert (p : Part) (posts : List Post) (n : Nat) : ((p.joined posts).alert).held n = p.held n := rfl

/-- The held amounts after END of a job of an account of this station (R86, R100). -/
theorem Part.endedOwn_held {p : Part} (hrising : Rising p.accounts.held) {slot : Nat} {r : HoldRecord}
    (hslot : tableGet p.ledger.holds slot = some r) (settled : Settlement) (posts : List Post) (n : Nat) :
    ((((p.endedOwn.recording settled).heldPost slot (some (p.endedOwn.settlingHold r)) []).joined posts).alert).held n =
      p.held n - if n = r.account ∧ r.state = .active then r.amount else 0 :=
  (held_joined_alert _ posts n).trans (heldPost_settling (p := p.endedOwn.recording settled) hrising hslot n)

/-- What the removal of a debited settlement's hold leaves (R100, R135). -/
theorem Part.debitStored_removed {p : Part} {x : Settlement} (hcurrent : p.settlement.current = some x) (slot : Nat)
    (value : AccountSlot) (place : Nat) (starting : Bool) :
    let q := ((((p.debitStored slot value x).heldPost place none []).joined [Part.clearedPost]).setStarting starting)
    q =
      { p with
        settlement := { p.settlement with stage := .closing }
        accounts := { p.accounts with held := q.accounts.held }
        store :=
          { p.store with
            stored := program p.store.stored (.account slot value)
            queue := [{ write := .hold place none, notes := [] }, Part.clearedPost], starting := starting } } := by
  rw [debitStored_known hcurrent]
  rfl

/-- The held amounts stay when a SETTLING hold is removed (R86, R100). -/
theorem Part.debitStored_held {p : Part} {x : Settlement} {slot place : Nat} {value : AccountSlot} {r : HoldRecord}
    (hqueue : p.store.queue = [{ write := .account slot value, notes := [.debited] }]) (hrising : Rising p.accounts.held)
    (hplace : tableGet p.ledger.holds place = some r) (hstate : r.state = .settling) (n : Nat) :
    (((((p.debitStored slot value x).heldPost place none []).joined [Part.clearedPost]).setStarting p.store.starting).alert).held n =
      p.held n := by
  have hledger : (p.debitStored slot value x).ledger = p.ledger := stored_ledger hqueue
  exact heldPost_removed (p := p.debitStored slot value x) hrising (by rw [hledger]; exact hplace) (by rw [hstate]; decide) [] n

/-- Settles O56: each write-done takes the procedure to its next stage, and the last gives its result. -/
theorem applyFollowsItsWriteDones : Obligations.ApplyFollowsItsWriteDones := by
  refine ⟨fun s x h hcurrent hrequests => ⟨?debits, ?closes, ?done⟩, ?ends⟩
  case debits =>
    intro record slot a waiting hqueue hwaiting hfound held
    have hevent := exec_writeComplete_debits h hcurrent hqueue hwaiting hfound
    obtain ⟨number, accountState, overdrawn, credit, period, spent, impressions, lastSpent, lastImpressions, lastApply⟩ := a
    cases credit <;> exact hevent
  case closes =>
    intro slot value hqueue cleared closing
    obtain ⟨-, -, hpending, -⟩ := id h
    refine ⟨fun hfloat => ?float, fun hhold => ⟨fun hnone => ?gone, fun place r hfind hstate hplace hrising => ?hold⟩⟩
    case float => exact (exec_writeComplete_closes_float h hcurrent hqueue hfloat).trans (by rw [Part.debitStored_known hcurrent]; rfl)
    case gone => exact (exec_writeComplete_closes_gone h hcurrent hqueue hhold hnone).trans (by rw [Part.debitStored_known hcurrent]; rfl)
    case hold =>
      exact ⟨_, exec_writeComplete_closes_hold h hcurrent hqueue hhold hfind,
        congrArg (fun q : Part => ({ s with part := q.alert } : State))
          (Part.debitStored_removed hcurrent slot value place s.part.store.starting),
        Part.debitStored_held hqueue hrising hplace hstate⟩
  case done =>
    intro write result hqueue free
    obtain ⟨-, hwork, hpending, -⟩ := id h
    let p := s.part.applyFreed { write := write, notes := [.applyClosed result] }
    have hcalm : p.Calm := h.applyFreed _
    have hfree : p.freeSlots = s.part.freeSlots := Part.applyFreed_freeSlots hqueue
    refine ⟨fun hremote => ?remote, fun c hc hcancelled hhome => ?cancelled, ?job⟩
    case remote =>
      have hreport : p.reportSettlement x result = p.sendFrame x.source (.settleAck x.holdId x.job result.code) := by
        unfold Part.reportSettlement
        rw [hremote]
      have hevent := exec_writeComplete_reports h hcurrent hqueue hreport (hcalm.sendFrame _ _) (by rw [Part.sendFrame_eq]; exact hrequests)
        (by rw [Part.sendFrame_eq]; exact hwork) (by rw [Part.sendFrame_eq]; exact hpending) (by rw [Part.sendFrame_eq]; rfl)
        (by rw [Part.sendFrame_eq]; exact hfree)
      have hline := (Part.enqueue_congr (p := free) (q := p) rfl rfl x.source (.settleAck x.holdId x.job result.code)).2
      rw [hevent, Part.sendFrame_eq p, Part.sendFrame_eq free, hline]
      rfl
    case cancelled =>
      have hanswers : p.answersCancelled x.source c.job = true := by
        rw [← hhome]
        exact Part.answersCancelled_some (p := p) hc
      have hreport : p.reportSettlement x result = p.dropCancelled.releaseDeferred := by
        unfold Part.reportSettlement
        rw [hcancelled]
        exact if_pos hanswers
      rw [exec_writeComplete_reports h hcurrent hqueue hreport (hcalm.same ⟨rfl, rfl, rfl, rfl, rfl⟩) hrequests hwork hpending rfl hfree]
      rfl
    case job =>
      intro hjob hstate hreserved sequence status
      have hevent := (exec_writeComplete_handsOff h hcurrent hqueue hjob hstate hreserved hrequests).trans
        (congrArg (fun q : Part => Host.Outcome.next { s with part := (q.setStarting s.part.store.starting).alert })
          (Part.applyFreed_handedOver hqueue (localStatus result)))
      cases result <;> exact hevent
  case ends =>
    intro s holdId slot r h ho hr hsheets hfunding hopen hstage hrequests _ hqueue hholdId hid hown hslot hknown hrising charge sequence
    have hpending := h.2.2.1
    let settled : Settlement := { s.part.jobSettlement with account := r.account }
    have hevent := exec_endJob_own h ho hr hsheets hfunding hopen hstage hrequests hqueue hholdId hid hown hknown
    have hheld := Part.endedOwn_held hrising hslot settled (s.part.endedOwn.recordingPosts settled)
    have hresult := Part.endedOwn_result hqueue hholdId hid slot r
    exact ⟨_, hevent, congrArg (fun q : Part => ({ s with part := q.alert } : State)) hresult, hheld⟩

end Sys2Proof.Machine
end


section
/-! Proofs about the sending side of the settlement unit: deferred entries come into flight, are sent on their timers, and are
acknowledged (R125, R126, R128). -/

-- One theorem after another: many small theorems elaborated at once need more threads than the check allows.
set_option Elab.async false

namespace Sys2Proof.Machine

open Sys2Proof

/-! ### One entry of a table -/

theorem Rising.mem_iff {α : Type} {t : Table α} (ht : Rising t) {k : Nat} {v : α} : (k, v) ∈ t ↔ tableGet t k = some v := by
  induction t with
  | nil => simp [tableGet]
  | cons x t ih =>
    obtain ⟨i, w⟩ := x
    obtain ⟨hlt, ht'⟩ := List.pairwise_cons.mp ht
    unfold tableGet
    by_cases hik : i = k
    · subst hik
      have hnot : (i, v) ∉ t := fun h => absurd (hlt _ h) (lt_irrefl _)
      simp [hnot, eq_comm]
    · simp [hik, ih ht', Ne.symm hik]

/-- The entry of one number is found when no other meets the test. -/
theorem tableFind_only {α : Type} {t : Table α} (ht : Rising t) {k : Nat} {v : α} (hk : tableGet t k = some v) {test : α → Bool}
    (hv : test v = true) (hothers : ∀ x ∈ t, x.1 ≠ k → test x.2 = false) : tableFind t test = some (k, v) := by
  unfold tableFind
  cases hfind : t.find? (fun e => test e.2) with
  | none => exact absurd hv (by simpa using List.find?_eq_none.mp hfind (k, v) (ht.mem_iff.mpr hk))
  | some x =>
    have hmem := List.mem_of_find?_eq_some hfind
    have htest : test x.2 = true := List.find?_some (p := fun e : Nat × α => test e.2) hfind
    have hx : x.1 = k := by
      by_contra hne
      rw [hothers x hmem hne] at htest
      cases htest
    have hget : tableGet t k = some x.2 := ht.mem_iff.mp (by rw [← hx]; exact hmem)
    rw [hk] at hget
    rw [← hx, Option.some.inj hget]

/-- The entry of one number is all that a filter leaves when no other meets it. -/
theorem Rising.filter_only {α : Type} {t : Table α} (ht : Rising t) {k : Nat} {v : α} (hk : tableGet t k = some v)
    {test : Nat × α → Bool} (hv : test (k, v) = true) (hothers : ∀ x ∈ t, x.1 ≠ k → test x = false) : t.filter test = [(k, v)] := by
  induction t with
  | nil => cases hk
  | cons x t ih =>
    obtain ⟨i, w⟩ := x
    obtain ⟨hlt, ht'⟩ := List.pairwise_cons.mp ht
    unfold tableGet at hk
    by_cases hik : i = k
    · rw [if_pos hik] at hk
      obtain rfl := Option.some.inj hk
      subst hik
      have hnone : t.filter test = [] := List.filter_eq_nil_iff.mpr fun x hx => by
        rw [hothers x (List.mem_cons_of_mem _ hx) (Nat.ne_of_gt (hlt x hx))]
        simp
      rw [List.filter_cons_of_pos hv, hnone]
    · rw [if_neg hik] at hk
      have hfirst : ¬test (i, w) = true := by rw [hothers (i, w) List.mem_cons_self hik]; simp
      rw [List.filter_cons_of_neg hfirst]
      exact ih ht' hk fun x hx => hothers x (List.mem_cons_of_mem _ hx)

theorem findEntry_number {l : Ledger} {number slot : Nat} {e : DeferredEntry} (h : findEntry l number = some (slot, e)) :
    e.number = number := by
  have htest : decide (e.number = number) = true :=
    List.find?_some (p := fun x : Nat × DeferredEntry => decide (x.2.number = number)) h
  simpa using htest

namespace Part

/-! ### An entry comes into flight, and is sent (R126) -/

/-- The post of an entry whose attempts a send has raised (R126). -/
def countedPost (slot : Nat) (e : DeferredEntry) : Post where
  write := .deferred slot (some { e with attempts := min 65535 (e.attempts + 1) })
  notes := []

/-- A part whose entry in flight has been sent, its flight being `flight` from then on (R126). -/
def entrySent (p : Part) (flight : Flight) (slot : Nat) (e : DeferredEntry) : Part :=
  (({ p with settlement := p.settlement.setFlight flight } : Part).sendFrame flight.home (settleMessage e)).joined [countedPost slot e]

theorem flightFor_home {p : Part} {home : Nat} {f : Flight} (h : p.flightFor home = some f) : f.home = home := by
  have htest : decide (f.home = home) = true := List.find?_some (p := fun x : Flight => decide (x.home = home)) h
  simpa using htest

theorem sent_home (f : Flight) (now : Nat) (heard : Bool) : (f.sent now heard).home = f.home := by
  unfold Flight.sent
  split <;> rfl

/-- A flight of an entry that is sent (R126). -/
theorem step_send {p : Part} {home slot : Nat} {f : Flight} {e : DeferredEntry} (hflight : p.flightFor home = some f)
    (hentry : findEntry p.ledger f.number = some (slot, e)) :
    (Task.send home).step p =
      some (({ p with settlement := p.settlement.setFlight (f.sent p.now false) } : Part).sendFrame home (settleMessage e),
        [.countSend e.number]) := by
  show some (p.sendEntry home false) = _
  unfold sendEntry
  rw [hflight]
  dsimp only
  rw [hentry]
  rfl

/-- The count of a send (R126). -/
theorem step_countSend {p : Part} {number slot : Nat} {e : DeferredEntry} (hentry : findEntry p.ledger number = some (slot, e)) :
    (Task.countSend number).step p = p.justPost (countedPost slot e).write [] := by
  show p.stepCountSend number = _
  unfold stepCountSend countPost
  rw [hentry]
  rfl

/-- An entry in flight is sent by its timer, or at its start, in two steps (R126). -/
theorem send_works {p : Part} {home slot : Nat} {f : Flight} {e : DeferredEntry} (hcalm : p.Calm) (hwork : p.store.work = [])
    (hpending : p.store.pending = []) (hflight : p.flightFor home = some f) (hentry : findEntry p.ledger f.number = some (slot, e))
    (hplace : p.store.queue.length < 8) (hname : ∀ post ∈ p.store.queue, post.write.name ≠ .deferred slot) :
    p.Works 2 [.send home] (p.entrySent (f.sent p.now false) slot e) := by
  let flying : Part := { p with settlement := p.settlement.setFlight (f.sent p.now false) }
  let sent := flying.sendFrame home (settleMessage e)
  have hstore : sent.store = p.store := by
    show (flying.sendFrame home _).store = _
    rw [sendFrame_eq]
  have hsent : sent.Calm := Calm.sendFrame (p := flying) (hcalm.same ⟨rfl, rfl, rfl, rfl, rfl⟩) _ _
  have hcount := step_countSend (p := sent) (number := e.number) (slot := slot) (e := e) (by
    unfold Part.ledger
    rw [hstore, findEntry_number hentry]
    exact hentry)
  have hresult : p.entrySent (f.sent p.now false) slot e = sent.joined [countedPost slot e] := by
    unfold entrySent
    rw [sent_home, flightFor_home hflight]
  rw [hresult]
  refine .calm (step_send hflight hentry) (.inl hplace) (by rw [hstore]; exact hwork) (by rw [hstore]; exact hpending) hsent ?_
  exact .post (p := sent) hsent (by rw [hstore]; exact hwork) (by rw [hstore]; exact hpending) hcount (by rw [hstore]; exact hplace)
    (by rw [hstore]; exact hname) (.done _)

theorem countedPost_freeSlots {p : Part} (hpending : p.store.pending = []) (slot : Nat) (e : DeferredEntry) :
    (p.joined [countedPost slot e]).freeSlots = p.freeSlots :=
  freeSlots_joined (p := p) hpending _ fun post hpost l => by
    rw [List.mem_singleton.mp hpost]
    exact ⟨rfl, rfl⟩

theorem sendFrame_freeSlots (p : Part) (dest : Nat) (m : Message) : (p.sendFrame dest m).freeSlots = p.freeSlots := by
  rw [sendFrame_eq]
  exact freeSlots_congr ⟨rfl, rfl, rfl, rfl⟩

theorem entrySent_freeSlots {p : Part} (hpending : p.store.pending = []) (flight : Flight) (slot : Nat) (e : DeferredEntry) :
    (p.entrySent flight slot e).freeSlots = p.freeSlots := by
  let flying : Part := { p with settlement := p.settlement.setFlight flight }
  have hstore : (flying.sendFrame flight.home (settleMessage e)).store = p.store := by rw [sendFrame_eq]
  exact (countedPost_freeSlots (p := flying.sendFrame flight.home (settleMessage e)) (by rw [hstore]; exact hpending) slot e).trans
    ((sendFrame_freeSlots flying _ _).trans (freeSlots_congr ⟨rfl, rfl, rfl, rfl⟩))

/-- What a send leaves (R126). -/
theorem entrySent_eq {p : Part} (hqueue : p.store.queue = []) (flight : Flight) (slot : Nat) (e : DeferredEntry) :
    p.entrySent flight slot e =
      ({ p with
          settlement :=
            { p.settlement with flights := p.settlement.flights.map (fun g => if g.home = flight.home then flight else g) }
          store := { p.store with queue := [countedPost slot e] } } : Part).sendFrame flight.home (settleMessage e) := by
  have hline := (enqueue_congr (p := { p with settlement := p.settlement.setFlight flight })
    (q := { p with settlement := p.settlement.setFlight flight, store := { p.store with queue := [countedPost slot e] } }) rfl rfl
    flight.home (settleMessage e)).2
  unfold entrySent
  show _ = ({ p with settlement := p.settlement.setFlight flight, store := { p.store with queue := [countedPost slot e] } } :
    Part).sendFrame flight.home (settleMessage e)
  rw [sendFrame_eq ({ p with settlement := p.settlement.setFlight flight, store := { p.store with queue := [countedPost slot e] } } : Part),
    hline, sendFrame_eq ({ p with settlement := p.settlement.setFlight flight } : Part)]
  unfold joined
  dsimp only
  rw [hqueue]
  rfl

/-- The flight of an entry that has just come into flight and been sent (R126). -/
def firstFlight (p : Part) (e : DeferredEntry) : Flight where
  home := e.home
  number := e.number
  slow := false
  sends := 1
  due := p.now + 400

/-- A part into whose flights an entry comes, not sent yet, and the part once it has been sent (R126). -/
def flying (p : Part) (e : DeferredEntry) : Part :=
  { p with
    settlement :=
      { p.settlement with
        flights := p.settlement.flights ++ [{ home := e.home, number := e.number, slow := false, sends := 0, due := p.now }] } }

def flown (p : Part) (e : DeferredEntry) : Part :=
  ({ p with settlement := { p.settlement with flights := p.settlement.flights ++ [p.firstFlight e] } } : Part).sendFrame e.home
    (settleMessage e)

theorem flown_store (p : Part) (e : DeferredEntry) : (p.flown e).store = p.store := by
  unfold flown
  rw [sendFrame_eq]

theorem Calm.flown {p : Part} (h : p.Calm) (e : DeferredEntry) : (p.flown e).Calm :=
  Calm.sendFrame
    (p := { p with settlement := { p.settlement with flights := p.settlement.flights ++ [p.firstFlight e] } })
    (h.same ⟨rfl, rfl, rfl, rfl, rfl⟩) e.home (settleMessage e)

/-- The three steps that bring the only entry of a home into flight once it is stored, with its first send (R126). -/
theorem intoFlight_steps {p : Part} {slot : Nat} {e : DeferredEntry} (hs : p.phase = .serving)
    (hremote : e.home ≠ p.config.values.station) (hnone : p.flightFor e.home = none)
    (hrising : Rising p.ledger.deferred) (hget : tableGet p.ledger.deferred slot = some e)
    (hstored : p.isEligible slot e.number = true)
    (hothers : ∀ x ∈ p.ledger.deferred, x.1 ≠ slot → x.2.home ≠ e.home ∧ x.2.number ≠ e.number) :
    (Task.intoFlight e.home).step p = some (p.flying e, [.send e.home]) ∧
      (Task.send e.home).step (p.flying e) = some (p.flown e, [.countSend e.number]) ∧
      (Task.countSend e.number).step (p.flown e) = (p.flown e).justPost (countedPost slot e).write [] := by
  let entering : Flight := { home := e.home, number := e.number, slow := false, sends := 0, due := p.now }
  have holdest : p.oldestFor e.home = some e := by
    have hfilter : p.ledger.deferred.filter (fun x => decide (x.2.home = e.home) && p.isEligible x.1 x.2.number) = [(slot, e)] :=
      hrising.filter_only hget (by simp [hstored]) fun x hx hne => by simp [(hothers x hx hne).1]
    unfold oldestFor
    rw [hfilter]
    rfl
  have hstep : (Task.intoFlight e.home).step p = some (p.flying e, [.send e.home]) := by
    show some (p.intoFlight e.home) = _
    unfold intoFlight
    rw [if_neg (by simp [serving, hs, hnone]), holdest]
    dsimp only
    rw [if_neg (show e.home ≠ p.station from hremote)]
    rfl
  have hnoneHome : ∀ g ∈ p.settlement.flights, g.home ≠ e.home := fun g hg => by
    simpa using List.find?_eq_none.mp hnone g hg
  have hflight : (p.flying e).flightFor e.home = some entering := by
    show (p.settlement.flights ++ [entering]).find? _ = _
    rw [List.find?_append, show p.settlement.flights.find? (fun f => decide (f.home = e.home)) = none from hnone]
    simp [entering]
  have hentry : findEntry p.ledger e.number = some (slot, e) :=
    tableFind_only (v := e) hrising hget (by simp) fun x hx hne => by simpa using (hothers x hx hne).2
  have hflights : (p.flying e).settlement.setFlight (entering.sent p.now false) =
      { p.settlement with flights := p.settlement.flights ++ [p.firstFlight e] } := by
    show ({ p.settlement with flights := (p.settlement.flights ++ [entering]).map _ } : SettlementUnit) = _
    have hkept : (p.settlement.flights.map fun g => if g.home = e.home then p.firstFlight e else g) = p.settlement.flights :=
      (List.map_congr_left fun g hg => if_neg (hnoneHome g hg)).trans (List.map_id' _)
    have hmap : ((p.settlement.flights ++ [entering]).map fun g => if g.home = e.home then p.firstFlight e else g) =
        p.settlement.flights ++ [p.firstFlight e] := by
      rw [List.map_append, hkept]
      simp [entering]
    exact congrArg (fun flights => ({ p.settlement with flights := flights } : SettlementUnit)) hmap
  have hsend := step_send (p := p.flying e) hflight hentry
  have hflown : ({ p.flying e with settlement := (p.flying e).settlement.setFlight (entering.sent p.now false) } : Part).sendFrame e.home
      (settleMessage e) = p.flown e := by
    rw [hflights]
    rfl
  exact ⟨hstep, hflown ▸ hsend, step_countSend (by unfold Part.ledger; rw [flown_store]; exact hentry)⟩

/-- The only entry of a home comes into flight once it is stored, with its first send (R126). -/
theorem intoFlight_works {p : Part} {slot : Nat} {e : DeferredEntry} (hcalm : p.Calm) (hwork : p.store.work = [])
    (hpending : p.store.pending = []) (hremote : e.home ≠ p.config.values.station) (hnone : p.flightFor e.home = none)
    (hrising : Rising p.ledger.deferred) (hget : tableGet p.ledger.deferred slot = some e)
    (hstored : tableGet p.store.stored.deferred slot = some e)
    (hothers : ∀ x ∈ p.ledger.deferred, x.1 ≠ slot → x.2.home ≠ e.home ∧ x.2.number ≠ e.number)
    (hplace : p.store.queue.length < 8) (hname : ∀ post ∈ p.store.queue, post.write.name ≠ .deferred slot) :
    p.Works 3 [.intoFlight e.home]
      ((({ p with
          settlement := { p.settlement with flights := p.settlement.flights ++ [p.firstFlight e] } } : Part).sendFrame e.home
            (settleMessage e)).joined [countedPost slot e]) := by
  have heligible : p.isEligible slot e.number = true := by
    unfold isEligible
    rw [hstored]
    simp
  obtain ⟨hinto, hsend, hcount⟩ := intoFlight_steps hcalm.1 hremote hnone hrising hget heligible hothers
  have hflown := hcalm.flown e
  have hstore := p.flown_store e
  refine .calm hinto (.inl hplace) hwork hpending (hcalm.same ⟨rfl, rfl, rfl, rfl, rfl⟩) ?_
  refine .calm hsend (.inl hplace) (by rw [hstore, hwork]) (by rw [hstore, hpending]) hflown ?_
  exact .post hflown (by rw [hstore, hwork]) (by rw [hstore, hpending]) hcount (by rw [hstore]; exact hplace)
    (by rw [hstore]; exact hname) (.done _)

end Part

end Sys2Proof.Machine
end


section
/-! Proofs about the timers, the acknowledgement and the write-done of a deferred entry (R123, R125, R126, R128). -/

-- One theorem after another: many small theorems elaborated at once need more threads than the check allows.
set_option Elab.async false

namespace Sys2Proof.Machine

open Sys2Proof

section
variable {s : State} {home slot : Nat} {f : Flight} {e : DeferredEntry}

/-- A command that sends the entry in flight for a station. -/
theorem event_sends {act : Part → Part} (h : s.part.AtRest) (hact : act s.part = s.part.assign .settlement [.send home])
    (hflight : s.part.flightFor home = some f) (hentry : findEntry s.part.ledger f.number = some (slot, e))
    (hqueue : s.part.store.queue = []) :
    event s (inService (Part.whenSending act)) =
      .next { s with part := (s.part.entrySent (f.sent s.part.now false) slot e).alert } := by
  obtain ⟨hs, hwork, hpending, -⟩ := id h
  have hworks := Part.send_works h.calm hwork hpending hflight hentry (by simp [hqueue]) (by simp [hqueue])
  have hf : inService (Part.whenSending act) s.part = s.part.assign .settlement [.send home] := by
    rw [inService_serving hs, Part.whenSending, if_neg (by simp [Part.sendingWaits_none hwork]), hact]
  rw [event_works hf hs hwork hpending (List.cons_ne_nil _ _) (Part.reactIdle_path rfl) h.calm.react_withWork rfl hworks (by decide),
    Part.journalLow_same (Part.entrySent_freeSlots hpending _ slot e)]

/-- An acknowledgement of the entry in flight removes it; with no other entry of its home nothing comes into flight (R126, R128). -/
theorem Part.acknowledge_works {p : Part} (r : AckResult) (hcalm : p.Calm) (hwork : p.store.work = []) (hpending : p.store.pending = [])
    (hqueue : p.store.queue = []) (hrising : Rising p.ledger.deferred) (hentry : findEntry p.ledger e.number = some (slot, e))
    (hnone : p.flightFor e.home = none) (hothers : ∀ x ∈ p.ledger.deferred, x.2.home = e.home → x = (slot, e)) :
    p.Works 2 [.removeEntry e.number r, .intoFlight e.home]
      { p with
        settlement := p.settlement.settleEntry e r
        store := { p.store with queue := [{ write := .deferred slot none, notes := [] }] } } := by
  let removed := p.joined [{ write := .deferred slot none, notes := [] }]
  let q : Part := { removed with settlement := p.settlement.settleEntry e r }
  have hq : q = { p with
      settlement := p.settlement.settleEntry e r
      store := { p.store with queue := [{ write := .deferred slot none, notes := [] }] } } := by
    show ({ p.joined [{ write := .deferred slot none, notes := [] }] with settlement := p.settlement.settleEntry e r } : Part) = _
    rw [Part.joined_alone hqueue]
  rw [← hq]
  have hstep : (Task.removeEntry e.number r).step p = some (q, []) := by
    show p.stepRemoveEntry e.number r = _
    unfold Part.stepRemoveEntry
    rw [hentry]
    dsimp only
    rw [Part.tryPost_joins (by simp [hqueue]) (by simp [hqueue])]
    rfl
  have hledger : q.ledger.deferred = tableErase p.ledger.deferred slot := by
    rw [show q.ledger = removed.ledger from rfl, show removed.ledger = program p.ledger (.deferred slot none) from newestFree_joined hpending _]
    rfl
  have holdest : q.oldestFor e.home = none := by
    have hfilter : q.ledger.deferred.filter (fun x => decide (x.2.home = e.home) && q.isEligible x.1 x.2.number) = [] := by
      refine List.filter_eq_nil_iff.mpr fun x hx => ?_
      rw [hledger] at hx
      have hhome : x.2.home ≠ e.home := fun hhome => by
        have hx' := hothers x (mem_of_mem_tableErase hx) hhome
        have hsome := tableGet_isSome_of_mem hx
        rw [tableGet_erase hrising, if_pos (by rw [hx'])] at hsome
        cases hsome
      simp [hhome]
    unfold Part.oldestFor
    rw [hfilter]
    rfl
  have hinto : (Task.intoFlight e.home).step q = some (q, []) := by
    have hflight : q.flightFor e.home = none := by
      have hflights : (p.settlement.settleEntry e r).flights = p.settlement.flights := by cases r <;> rfl
      show (p.settlement.settleEntry e r).flights.find? _ = none
      rw [hflights]
      exact hnone
    show some (q.intoFlight e.home) = _
    unfold Part.intoFlight
    rw [holdest]
    split <;> rfl
  have hqcalm : q.Calm := hcalm.same ⟨rfl, rfl, rfl, rfl, rfl⟩
  refine .calm hstep (.inl (by simp [hqueue])) hwork hpending hqcalm ?_
  exact .calm hinto (.inr fun _ => rfl) hwork hpending hqcalm (.done _)

theorem takeAck_matches {p : Part} (hflight : p.flightFor home = some f) (hentry : findEntry p.ledger f.number = some (slot, e))
    (holdId job result : Nat) :
    p.takeAck home holdId job result = if e.holdId = holdId ∧ e.job = job then p.acknowledge e (ackResultOf result) else p := by
  unfold Part.takeAck
  rw [hflight]
  dsimp only
  rw [hentry]

/-- The sending side takes its oldest frame, which is an acknowledgement (R128, R148). -/
theorem settleAck_takes {p : Part} (hs : p.phase = .serving) (hwork : p.store.work = []) {ahead behind : List InFrame}
    {source dest holdId job result : Nat}
    (hinbound : p.line.inbound = ahead ++ { source := source, dest := dest, message := .settleAck holdId job result } :: behind)
    (hahead : ∀ g ∈ ahead, g.message.isAck = false) :
    inService (Part.whenSending fun p => p.takeFrame Message.isAck Part.actAck) p =
      (p.taken ahead behind).takeAck source holdId job result := by
  rw [inService_serving hs, Part.whenSending, if_neg (by simp [Part.sendingWaits_none hwork]),
    Part.takeFrame_oldest hinbound hahead rfl]
  rfl

/-- The counts after an acknowledgement (R128, R129). -/
theorem SettlementUnit.settleEntry_eq (u : SettlementUnit) (e : DeferredEntry) (result : Nat) :
    u.settleEntry e (ackResultOf result) =
      { u with
        floatOutstanding := if e.holdId = 0 then u.floatOutstanding - e.charge else u.floatOutstanding
        applied := if result = 1 then min 65535 (u.applied + 1) else u.applied
        duplicate := if result ≠ 1 ∧ result ≠ 3 then min 65535 (u.duplicate + 1) else u.duplicate
        orphan := if result = 3 then min 65535 (u.orphan + 1) else u.orphan } := by
  have hcases : (result = 1 ∧ ackResultOf result = .applied) ∨ (result = 3 ∧ ackResultOf result = .orphan) ∨
      (result ≠ 1 ∧ result ≠ 3 ∧ ackResultOf result = .duplicate) := by
    unfold ackResultOf
    split <;> simp_all
  unfold settleEntry
  rcases hcases with ⟨rfl, hr⟩ | ⟨rfl, hr⟩ | ⟨h1, h3, hr⟩
  · rfl
  · rfl
  · rw [hr, if_neg h1, if_neg h3, if_pos (show result ≠ 1 ∧ result ≠ 3 from ⟨h1, h3⟩)]
    rfl

/-- A command that acknowledges the only entry of its home (R126, R128). -/
theorem event_acknowledged {act : Part → Part} {ahead behind : List InFrame} {r : AckResult} (h : s.part.AtRest)
    (hact : act s.part = (s.part.taken ahead behind).acknowledge e r) (hc : s.part.Canonical) (hqueue : s.part.store.queue = [])
    (hentry : findEntry s.part.ledger e.number = some (slot, e))
    (hothers : ∀ x ∈ s.part.ledger.deferred, x.2.home = e.home → x = (slot, e)) :
    event s act =
      .next
        { s with
          part :=
            ({ s.part.taken ahead behind with
                settlement :=
                  ({ s.part.settlement with
                      flights := s.part.settlement.flights.filter (fun g => decide (g.home ≠ e.home)) } :
                    SettlementUnit).settleEntry e r
                store := { s.part.store with queue := [{ write := .deferred slot none, notes := [] }] } } : Part).alert } := by
  obtain ⟨hs, hwork, hpending, -⟩ := id h
  let landed : Part :=
    { s.part.taken ahead behind with
      settlement := { s.part.settlement with flights := s.part.settlement.flights.filter (fun g => decide (g.home ≠ e.home)) } }
  have hcalm : landed.Calm := h.calm.same ⟨rfl, rfl, rfl, rfl, rfl⟩
  have hrising : Rising landed.ledger.deferred := (Ledger.wf.newest hc).2.2.2.1
  have hnone : landed.flightFor e.home = none := List.find?_eq_none.mpr fun g hg => by
    have hne : g.home ≠ e.home := of_decide_eq_true (List.mem_filter.mp hg).2
    simpa using hne
  have hworks := Part.acknowledge_works (p := landed) r hcalm hwork hpending hqueue hrising hentry hnone hothers
  have hfree : ({ landed with
      settlement := landed.settlement.settleEntry e r
      store := { landed.store with queue := [{ write := .deferred slot none, notes := [] }] } } : Part).freeSlots = s.part.freeSlots := by
    have hjoined : (s.part.joined [{ write := .deferred slot none, notes := [] }]).freeSlots = s.part.freeSlots :=
      Part.freeSlots_joined (p := s.part) hpending _ fun post hpost l => by
        rw [List.mem_singleton.mp hpost]
        exact ⟨rfl, rfl⟩
    rw [Part.joined_alone hqueue] at hjoined
    exact (Part.freeSlots_congr ⟨rfl, rfl, rfl, rfl⟩).trans hjoined
  rw [event_works (p := landed) hact hs hwork hpending (List.cons_ne_nil _ _) (Part.reactIdle_path rfl) hcalm.react_withWork rfl hworks
    (by decide), Part.journalLow_same hfree]
  rfl

end

/-! ### The write-done of an entry (R123, R125, R126) -/

section
variable {s : State} {slot : Nat} {e : DeferredEntry}

/-- The only entry of a number is found there. -/
theorem findEntry_only {l : Ledger} (hrising : Rising l.deferred) (hget : tableGet l.deferred slot = some e)
    (hothers : ∀ x ∈ l.deferred, x.1 ≠ slot → x.2.home ≠ e.home ∧ x.2.number ≠ e.number) : findEntry l e.number = some (slot, e) :=
  tableFind_only hrising hget (by simp) fun x hx hne => by simp [(hothers x hx hne).2]

/-- The part whose entry has been stored and come into flight with its first send (R125, R126). -/
def Part.entryFlies (p : Part) (slot : Nat) (e : DeferredEntry) : Part :=
  (({ p with settlement := { p.settlement with flights := p.settlement.flights ++ [p.firstFlight e] } } : Part).sendFrame e.home
    (settleMessage e)).joined [Part.countedPost slot e]

theorem Part.entryFlies_freeSlots {p : Part} (hpending : p.store.pending = []) :
    (p.entryFlies slot e).freeSlots = p.freeSlots := by
  let flying : Part := { p with settlement := { p.settlement with flights := p.settlement.flights ++ [p.firstFlight e] } }
  have hstore : (flying.sendFrame e.home (settleMessage e)).store = p.store := by rw [sendFrame_eq]
  exact (countedPost_freeSlots (p := flying.sendFrame e.home (settleMessage e)) (by rw [hstore]; exact hpending) slot e).trans
    ((sendFrame_freeSlots flying _ _).trans (freeSlots_congr ⟨rfl, rfl, rfl, rfl⟩))

/-- What the entry's first send leaves, behind the posts that are queued (R126). -/
theorem Part.entryFlies_eq (p : Part) :
    p.entryFlies slot e =
      { p with
        settlement := { p.settlement with flights := p.settlement.flights ++ [p.firstFlight e] }
        line := (p.sendFrame e.home (settleMessage e)).line
        store := { p.store with queue := p.store.queue ++ [Part.countedPost slot e] } } := by
  have hline := (enqueue_congr (p := p)
    (q := { p with settlement := { p.settlement with flights := p.settlement.flights ++ [p.firstFlight e] } }) rfl rfl e.home
    (settleMessage e)).2
  unfold entryFlies
  rw [sendFrame_eq, hline]
  rfl

theorem Part.entryFlies_store (p : Part) :
    (p.entryFlies slot e).store = { p.store with queue := p.store.queue ++ [Part.countedPost slot e] } := by
  rw [entryFlies_eq]

theorem Part.entryFlies_path (p : Part) : (p.entryFlies slot e).path = p.path := by
  rw [entryFlies_eq]

theorem Part.Calm.entryFlies {p : Part} (h : p.Calm) : (p.entryFlies slot e).Calm := by
  rw [entryFlies_eq]
  exact h.same ⟨rfl, rfl, rfl, rfl, rfl⟩

/-- The part whose new entry has been stored, before its write-done is sent. -/
def Part.entryWritten (p : Part) (slot : Nat) (e : DeferredEntry) (forJob : Bool) : Part :=
  p.stored { write := .deferred slot (some e), notes := [.entryStored e.number forJob] } []

variable {forJob : Bool}

theorem Part.entryWritten_ledger {p : Part} (hpending : p.store.pending = []) :
    (p.entryWritten slot e forJob).ledger = program p.store.stored (.deferred slot (some e)) :=
  Part.ledger_stored (p := p.entryWritten slot e forJob) rfl hpending

theorem exec_writeComplete_entry (h : s.part.AtRest) (hc : s.part.Canonical)
    (hqueue : s.part.store.queue = [{ write := .deferred slot (some e), notes := [.entryStored e.number false] }])
    (hremote : e.home ≠ s.part.config.values.station) (hnone : s.part.flightFor e.home = none)
    (hothers : ∀ x ∈ (program s.part.store.stored (.deferred slot (some e))).deferred,
      x.1 ≠ slot → x.2.home ≠ e.home ∧ x.2.number ≠ e.number) :
    exec .writeComplete s =
      .next { s with part := (((s.part.entryWritten slot e false).entryFlies slot e).setStarting s.part.store.starting).alert } := by
  obtain ⟨hs, hwork, hpending, -⟩ := id h
  let p := s.part.entryWritten slot e false
  have hcalm : p.Calm := h.calm.same ⟨rfl, rfl, rfl, rfl, rfl⟩
  have hledger : p.ledger = program s.part.store.stored (.deferred slot (some e)) := Part.entryWritten_ledger hpending
  have hrising : Rising p.ledger.deferred := by rw [hledger]; exact (hc.program (.deferred slot (some e))).2.2.2.1
  have hstored : tableGet p.store.stored.deferred slot = some e := by
    show tableGet (tablePut s.part.store.stored.deferred slot e) slot = _
    simp
  have hget : tableGet p.ledger.deferred slot = some e := by rw [hledger]; exact hstored
  rw [← hledger] at hothers
  have hworks := Part.intoFlight_works hcalm hwork hpending hremote hnone hrising hget hstored hothers (by show 0 < 8; decide)
    (fun post hpost => by cases hpost)
  have hacts : Note.act (.entryStored e.number false) p = p.assign .settlement [.intoFlight e.home] := by
    show p.entryStored e.number false = _
    unfold Part.entryStored
    dsimp only
    rw [if_neg (by decide), findEntry_only hrising hget hothers]
  have hassign : p.assign .settlement [.intoFlight e.home] = p.withWork (worksOf .settlement [.intoFlight e.home] false) :=
    Part.assign_alone (p := p) hwork _ _
  have hpumps := hworks.pumps .settlement false hwork hpending
  rw [← hcalm.react_withWork] at hpumps
  have hstore : (p.entryFlies slot e).store = { p.store with queue := p.store.queue ++ [Part.countedPost slot e] } := p.entryFlies_store
  have hfree : (p.entryFlies slot e).freeSlots = s.part.freeSlots := by
    refine (Part.entryFlies_freeSlots (p := p) hpending).trans ?_
    show journalFree p.ledger p.journal.reserved = journalFree s.part.ledger s.part.journal.reserved
    rw [show p.ledger = s.part.ledger from Part.stored_ledger hqueue]
    rfl
  refine event_writeDone h hqueue (hacts.trans hassign) hs (Part.reactIdle_path rfl) hpumps (by decide) hcalm.entryFlies ?_ ?_ ?_ hfree
  · exact (congrArg Store.work hstore).trans hwork
  · exact (congrArg Store.pending hstore).trans hpending
  · exact congrArg PathMonitor.sheets p.entryFlies_path

theorem exec_writeComplete_jobEntry (h : s.part.AtRest) (hc : s.part.Canonical)
    (hqueue : s.part.store.queue = [{ write := .deferred slot (some e), notes := [.entryStored e.number true] }])
    (hremote : e.home ≠ s.part.config.values.station) (hnone : s.part.flightFor e.home = none)
    (hothers : ∀ x ∈ (program s.part.store.stored (.deferred slot (some e))).deferred,
      x.1 ≠ slot → x.2.home ≠ e.home ∧ x.2.number ≠ e.number) (hstate : s.part.job.state = .settling)
    (hreserved : 0 < s.part.journal.reserved) :
    exec .writeComplete s =
      .next
        { s with
          part :=
            ((((s.part.entryWritten slot e true).handedOver .deferred).entryFlies slot e).setStarting s.part.store.starting).alert } := by
  obtain ⟨hs, hwork, hpending, -⟩ := id h
  let p := s.part.entryWritten slot e true
  let handed := p.handedOver .deferred
  let last : Work := { owner := .settlement, tasks := [.intoFlight e.home] }
  have hcalm : p.Calm := h.calm.same ⟨rfl, rfl, rfl, rfl, rfl⟩
  have hreleased : p.permit = false := by
    obtain ⟨-, -, -, -, hpermit⟩ := id hcalm
    rw [hpermit]
    simp [Part.permitHolds, show p.job.state = .settling from hstate]
  have hledger : p.ledger = program s.part.store.stored (.deferred slot (some e)) := Part.entryWritten_ledger hpending
  have hrising : Rising p.ledger.deferred := by rw [hledger]; exact (hc.program (.deferred slot (some e))).2.2.2.1
  have hstored : tableGet p.store.stored.deferred slot = some e := by
    show tableGet (tablePut s.part.store.stored.deferred slot e) slot = _
    simp
  have hget : tableGet p.ledger.deferred slot = some e := by rw [hledger]; exact hstored
  rw [← hledger] at hothers
  have hover : handed.Calm := Part.handedOver_calm hs hreleased .deferred
  have hsame : handed.ledger.deferred = p.ledger.deferred := by
    rw [hledger]
    unfold Part.ledger Store.newest
    rw [show handed.store.pending = [] from hpending]
    rfl
  have hworks := Part.intoFlight_works (p := handed) hover hwork hpending hremote hnone (by rw [hsame]; exact hrising)
    (by rw [hsame]; exact hget) hstored (by rw [hsame]; exact hothers) (by show 3 < 8; decide) fun post hpost => by
      have hpost' : post ∈ [p.sequencePost, p.recordPost .deferred, { write := .checkpoint none, notes := [] }] := hpost
      simp only [List.mem_cons, List.not_mem_nil, or_false] at hpost'
      rcases hpost' with rfl | rfl | rfl <;> exact RecordName.noConfusion
  have hend := hworks.pumps .settlement false hwork hpending
  have hacts : Note.act (.entryStored e.number true) p = p.withWork (worksOf .settlement (p.handOffTasks .deferred) false ++ [last]) := by
    have hfind : findEntry (p.assign .settlement (p.handOffTasks .deferred)).ledger e.number = some (slot, e) :=
      findEntry_only hrising hget hothers
    have hassigned : (p.assign .settlement (p.handOffTasks .deferred)).assign .settlement [.intoFlight e.home] =
        p.withWork (worksOf .settlement (p.handOffTasks .deferred) false ++ [last]) := by
      rw [Part.assign_alone (p := p) hwork]
      rfl
    refine Eq.trans ?_ hassigned
    show p.entryStored e.number true = _
    unfold Part.entryStored
    dsimp only
    rw [if_pos rfl, show p.completeHandOff .deferred = p.assign .settlement (p.handOffTasks .deferred) from rfl, hfind]
  have hothers' : ∀ w ∈ [last], Part.Stands w := fun w hw => by
    rw [List.mem_singleton.mp hw]
    exact ⟨rfl, rfl, Owner.noConfusion⟩
  have hquiet : ∀ q : Part, q.Quiet [last] := fun q w hw t tasks htasks work => by
    rw [List.mem_singleton.mp hw] at htasks
    obtain ⟨rfl, -⟩ := List.cons.inj htasks
    rfl
  have hpumps := (Part.handOff_leads [last] hcalm hstate hpending rfl .deferred).pumps hothers' hquiet .settlement hend false hpending
  rw [← hcalm.react_withWork] at hpumps
  have hstore : (handed.entryFlies slot e).store = { handed.store with queue := handed.store.queue ++ [Part.countedPost slot e] } :=
    handed.entryFlies_store
  have hfree : (handed.entryFlies slot e).freeSlots = s.part.freeSlots := by
    refine (Part.entryFlies_freeSlots (p := handed) hpending).trans
      ((Part.handedOver_freeSlots (p := p) hpending rfl hreserved .deferred).trans ?_)
    show journalFree p.ledger p.journal.reserved = journalFree s.part.ledger s.part.journal.reserved
    rw [show p.ledger = s.part.ledger from Part.stored_ledger hqueue]
    rfl
  exact event_writeDone h hqueue hacts hs (Part.reactIdle_path rfl) hpumps (by decide) hover.entryFlies
    ((congrArg Store.work hstore).trans hwork) ((congrArg Store.pending hstore).trans hpending)
    (congrArg PathMonitor.sheets handed.entryFlies_path) hfree

/-- What the write-done of an entry that is no open job's leaves (R125, R126). -/
theorem Part.entryWritten_flies (p : Part) :
    ((p.entryWritten slot e false).entryFlies slot e).setStarting p.store.starting =
      ({ p with
          settlement := { p.settlement with flights := p.settlement.flights ++ [p.firstFlight e] }
          store :=
            { p.store with
              stored := program p.store.stored (.deferred slot (some e))
              queue := [Part.countedPost slot e] } } : Part).sendFrame e.home (settleMessage e) := by
  have hline := (enqueue_congr (p := p.entryWritten slot e false)
    (q := { p with
      settlement := { p.settlement with flights := p.settlement.flights ++ [p.firstFlight e] }
      store :=
        { p.store with
          stored := program p.store.stored (.deferred slot (some e))
          queue := [Part.countedPost slot e] } }) rfl rfl e.home (settleMessage e)).2
  rw [entryFlies_eq]
  refine Eq.trans ?_ (sendFrame_eq _ _ _).symm
  rw [hline]
  rfl

/-- What the write-done of the open job's entry leaves (R123, R125, R126). -/
theorem Part.entryWritten_handedOver {p : Part} (hpending : p.store.pending = []) :
    (((p.entryWritten slot e true).handedOver .deferred).entryFlies slot e) =
      { p with
        job := {}
        settlement := { p.settlement with flights := p.settlement.flights ++ [p.firstFlight e] }
        journal := { p.journal with reserved := p.journal.reserved - 1 }
        line := ((p.sendFrame 0 p.job.tallyMessage).sendFrame e.home (settleMessage e)).line
        store :=
          { p.store with
            stored := program p.store.stored (.deferred slot (some e))
            starting := false
            queue :=
              [{ write := .counter .journalSequence ((program p.store.stored (.deferred slot (some e))).journalSequence + 1), notes := [] },
                { write :=
                    journalWrite ((program p.store.stored (.deferred slot (some e))).journalSequence + 1)
                      (.job (p.job.journalEntry .deferred))
                  notes := [] },
                { write := .checkpoint none, notes := [] }, Part.countedPost slot e] }
        panel := p.panel.raise .jobState } := by
  have hledger : (p.entryWritten slot e true).ledger = program p.store.stored (.deferred slot (some e)) := entryWritten_ledger hpending
  have htally := (enqueue_congr (p := p) (q := p.entryWritten slot e true) rfl rfl 0 p.job.tallyMessage).2
  have hline := (enqueue_congr (p := p.sendFrame 0 p.job.tallyMessage) (q := (p.entryWritten slot e true).handedOver .deferred) htally
    (by rw [sendFrame_eq]; rfl) e.home (settleMessage e)).2
  rw [entryFlies_eq, hline]
  unfold handedOver sequencePost recordPost
  rw [hledger]
  rfl

end

/-- Settles O57: the timers send the entry in flight, its acknowledgement removes it, and a new one flies once it is stored. -/
theorem deferredEntriesAreSentUntilAcknowledged : Obligations.DeferredEntriesAreSentUntilAcknowledged := by
  refine ⟨?flying, ?unknown, ?stored⟩
  case flying =>
    intro s home slot f e h hflight hremote hentry hhome hc sent
    obtain ⟨hs, hwork, hpending, -⟩ := id h
    have hfhome := Part.flightFor_home hflight
    have hsend (g : Flight) (hg : g.home = home) (hqueue : s.part.store.queue = []) : (s.part.entrySent g slot e).alert = sent g := by
      rw [Part.entrySent_eq hqueue, hg]
      rfl
    refine ⟨fun hslow hdue hsends hqueue => ?quick, fun hslow hdue hsends => ?last, fun hslow hdue hqueue => ?slow,
      ?acks⟩
    case quick =>
      have hact : s.part.quickExpiry home = s.part.assign .settlement [.send home] := by
        unfold Part.quickExpiry
        rw [hflight]
        dsimp only
        rw [if_neg (by simp [hslow, hdue]; exact hremote), if_pos hsends]
      show event s (inService (Part.whenSending fun p => p.quickExpiry home)) = _
      rw [event_sends h hact hflight hentry hqueue, hsend _ ((Part.sent_home f _ _).trans hfhome) hqueue]
      unfold Flight.sent
      rw [if_neg (by simp [hslow])]
      rfl
    case last =>
      have hact : inService (Part.whenSending fun p => p.quickExpiry home) s.part =
          s.part.withSettlement (s.part.settlement.setFlight { f with slow := true, due := s.part.now + Config.slowMs }) := by
        rw [inService_serving hs, Part.whenSending, if_neg (by simp [Part.sendingWaits_none hwork])]
        unfold Part.quickExpiry
        rw [hflight]
        dsimp only
        rw [if_neg (by simp [hslow, hdue]; exact hremote), if_neg (by omega)]
      show event s (inService (Part.whenSending fun p => p.quickExpiry home)) = _
      rw [event_rest h hact ⟨rfl, rfl, rfl, rfl, rfl, rfl, rfl, rfl⟩ (Part.freeSlots_congr ⟨rfl, rfl, rfl, rfl⟩), ← hfhome]
      rfl
    case slow =>
      have hact : s.part.slowExpiry home = s.part.assign .settlement [.send home] := by
        unfold Part.slowExpiry
        rw [hflight]
        dsimp only
        rw [if_neg (by simp [hslow, hdue]; exact hremote)]
      show event s (inService (Part.whenSending fun p => p.slowExpiry home)) = _
      rw [event_sends h hact hflight hentry hqueue, hsend _ ((Part.sent_home f _ _).trans hfhome) hqueue]
      unfold Flight.sent
      rw [if_pos hslow]
      rfl
    case acks =>
      intro ahead behind dest holdId job result hinbound hahead line
      have hact := settleAck_takes hs hwork hinbound hahead
      rw [takeAck_matches (p := s.part.taken ahead behind) hflight hentry] at hact
      refine ⟨fun hother => ?other, fun hid hjob hqueue hothers => ?acked⟩
      case other =>
        rw [if_neg (by tauto)] at hact
        exact event_rest h hact ⟨rfl, rfl, rfl, rfl, rfl, rfl, rfl, rfl⟩ (Part.freeSlots_congr ⟨rfl, rfl, rfl, rfl⟩)
      case acked =>
        rw [if_pos ⟨hid, hjob⟩] at hact
        subst hhome
        subst hid
        rw [← findEntry_number hentry] at hentry
        refine (event_acknowledged h hact hc hqueue hentry hothers).trans ?_
        rw [SettlementUnit.settleEntry_eq]
        rfl
  case unknown =>
    intro s ahead behind source dest holdId job result h hinbound hahead hnone
    obtain ⟨hs, hwork, -⟩ := id h
    have hact := settleAck_takes hs hwork hinbound hahead
    have hignored : (s.part.taken ahead behind).takeAck source holdId job result = s.part.taken ahead behind := by
      unfold Part.takeAck
      rw [show (s.part.taken ahead behind).flightFor source = none from hnone]
    exact event_rest h (hact.trans hignored) ⟨rfl, rfl, rfl, rfl, rfl, rfl, rfl, rfl⟩ (Part.freeSlots_congr ⟨rfl, rfl, rfl, rfl⟩)
  case stored => 
    intro s slot e forJob h hc hqueue hremote hnone stored hothers settlement settle counted sequence
    refine ⟨fun hjob => ?_, fun hjob hstate hreserved => ?_⟩
    · subst hjob
      rw [exec_writeComplete_entry h hc hqueue hremote hnone hothers, Part.entryWritten_flies]
      rfl
    · subst hjob
      rw [exec_writeComplete_jobEntry h hc hqueue hremote hnone hothers hstate hreserved, Part.entryWritten_handedOver h.2.2.1]
      rfl

end Sys2Proof.Machine
end


section
/-! Proofs about the account table's frames: answers at once, account posts and their answers at the write-done, and a vacating post
that waits (R101, R109 to R113, R164); and about the widths of the frames that wait inbound (section 12.1). -/

-- One theorem after another: many small theorems elaborated at once need more threads than the check allows.
set_option Elab.async false

namespace Sys2Proof.Machine

open Sys2Proof

/-! ### Frames that are answered, and frames that post (R110) -/

section
variable {s : State} {ahead behind : List InFrame} {source dest account : Nat} {f : Part → Part}

namespace Part

theorem answerOffice_none {p : Part} (h : findAccount p.ledger account = none) (result : AccountResult) :
    p.answerOffice dest account result = p.sendFrame dest (.acctAnswer account result.code 0 0) := by
  unfold answerOffice
  rw [h]

theorem answerOffice_found {p : Part} {slot : Nat} {a : Account} (h : findAccount p.ledger account = some (slot, a))
    {result : AccountResult} (hr : result ≠ .range) :
    p.answerOffice dest account result = p.sendFrame dest (.acctAnswer account result.code (available a (p.held account)) a.spent) := by
  unfold answerOffice
  rw [h]
  exact if_neg hr

theorem answerOffice_range (p : Part) :
    p.answerOffice dest account .range = p.sendFrame dest (.acctAnswer account 7 0 0) := by
  unfold answerOffice
  cases findAccount p.ledger account <;> rfl

/-- The account table at rest takes its oldest frame (R110, R148). -/
theorem account_takes {p : Part} {g : InFrame} (h : p.AtRest) (hinbound : p.line.inbound = ahead ++ g :: behind)
    (hahead : ∀ x ∈ ahead, x.message.isAccountFrame = false) (hmine : g.message.isAccountFrame = true)
    (act : Part → InFrame → Option Part) :
    inService (fun p => p.takeWhenReady .account Message.isAccountFrame act) p = (act (p.taken ahead behind) g).getD p := by
  rw [inService_serving h.1, takeWhenReady_oldest h.2.1 hinbound hahead hmine]

end Part

/-- A frame that is taken and answered at once. -/
theorem event_answers {m : Message} (h : s.part.AtRest) (hf : f s.part = (s.part.taken ahead behind).sendFrame dest m) :
    event s f = .next { s with part := ((s.part.taken ahead behind).sendFrame dest m).alert } :=
  event_rest h (hf.trans (Part.sendFrame_eq _ _ _)) ⟨rfl, rfl, rfl, rfl, rfl, rfl, rfl, rfl⟩
    (Part.freeSlots_congr ⟨rfl, rfl, rfl, rfl⟩) |>.trans (by rw [← Part.sendFrame_eq])

/-- A frame that is taken and does nothing more. -/
theorem event_discards (h : s.part.AtRest) (hf : f s.part = s.part.taken ahead behind) :
    event s f = .next { s with part := (s.part.taken ahead behind).alert } :=
  event_rest h hf ⟨rfl, rfl, rfl, rfl, rfl, rfl, rfl, rfl⟩ (Part.freeSlots_congr ⟨rfl, rfl, rfl, rfl⟩)

/-- A frame that is taken and hands its owner one account post, made at once. -/
theorem event_postsAccount {t : Task} {slot : Nat} {value : AccountSlot} {notes : List Note} (h : s.part.AtRest)
    (hf : f s.part = (s.part.taken ahead behind).assign .account [t])
    (hstep : t.step (s.part.taken ahead behind) = (s.part.taken ahead behind).justPost (.account slot value) notes)
    (hqueue : s.part.store.queue = []) :
    event s f =
      .next
        { s with
          part :=
            ({ s.part.taken ahead behind with
                store := { s.part.store with queue := [{ write := .account slot value, notes := notes }] } } : Part).alert } := by
  obtain ⟨hs, hwork, hpending, -⟩ := id h
  let taken := s.part.taken ahead behind
  have hcalm : taken.Calm := (h.taken ahead behind).calm
  have hworks : taken.Works 1 [t] (taken.joined [{ write := .account slot value, notes := notes }]) :=
    .post (p := taken) hcalm hwork hpending hstep (by show s.part.store.queue.length < 8; simp [hqueue])
      (by show ∀ post ∈ s.part.store.queue, _; simp [hqueue]) (.done _)
  have hfree : (taken.joined [{ write := .account slot value, notes := notes }]).freeSlots = s.part.freeSlots :=
    (Part.freeSlots_joined (p := taken) hpending _ fun post hpost l => by
      rw [List.mem_singleton.mp hpost]
      exact ⟨rfl, rfl⟩).trans (Part.freeSlots_congr ⟨rfl, rfl, rfl, rfl⟩)
  rw [event_works (p := taken) hf hs hwork hpending (List.cons_ne_nil _ _) (Part.reactIdle_path rfl) hcalm.react_withWork rfl hworks
    (by decide), Part.journalLow_same hfree, Part.joined_alone (p := taken) hqueue]
  rfl

/-- An account write that a frame posted is answered at its write-done (R110, R161). -/
theorem exec_writeComplete_answers {slot : Nat} {value : AccountSlot} {result : AccountResult} {m : Message} (h : s.part.AtRest)
    (hqueue : s.part.store.queue = [{ write := .account slot value, notes := [.answer dest account result] }])
    (hanswer : (s.part.stored { write := .account slot value, notes := [.answer dest account result] } []).answerOffice dest account
        result =
      (s.part.stored { write := .account slot value, notes := [.answer dest account result] } []).sendFrame dest m) :
    exec .writeComplete s =
      .next
        { s with
          part :=
            (({ s.part with
                store := { s.part.store with stored := program s.part.store.stored (.account slot value), queue := [] } } :
              Part).sendFrame dest m).alert } := by
  obtain ⟨hs, hwork, hpending, -⟩ := id h
  let S := s.part.stored { write := .account slot value, notes := [.answer dest account result] } []
  have hcalm : (S.sendFrame dest m).Calm := (h.calm.same (q := S) ⟨rfl, rfl, rfl, rfl, rfl⟩).sendFrame _ _
  have hstore : (S.sendFrame dest m).store = S.store := by rw [Part.sendFrame_eq]
  have hpath : (S.sendFrame dest m).path = s.part.path := by rw [Part.sendFrame_eq]; rfl
  have hreact : (S.sendFrame dest m).react = S.sendFrame dest m := hcalm.react
  have hpumps : Part.Pumps 0 (S.sendFrame dest m).react (S.sendFrame dest m) := by
    rw [hreact]
    exact Part.pumps_rest (by rw [hstore]; exact hwork) (by rw [hstore]; exact hpending)
  have hfree : (S.sendFrame dest m).freeSlots = s.part.freeSlots := by
    rw [Part.sendFrame_freeSlots]
    show journalFree S.ledger s.part.journal.reserved = journalFree s.part.ledger s.part.journal.reserved
    rw [Part.stored_ledger hqueue]
  have hline := (Part.enqueue_congr (p := { s.part with
    store := { s.part.store with stored := program s.part.store.stored (.account slot value), queue := [] } }) (q := S) rfl rfl dest m).2
  rw [event_writeDone h hqueue hanswer hcalm.1 (Part.reactIdle_path (congrArg PathMonitor.sheets hpath)) hpumps (by decide) hcalm
    (by rw [hstore]; exact hwork) (by rw [hstore]; exact hpending) (congrArg PathMonitor.sheets hpath) hfree, Part.sendFrame_eq S, hline]
  refine congrArg Host.Outcome.next ?_
  rw [Part.sendFrame_eq ({ s.part with
    store := { s.part.store with stored := program s.part.store.stored (.account slot value), queue := [] } } : Part)]
  rfl

end

/-! ### A place that a write frees (R161, R164) -/

/-- WRITE_COMPLETE in service, by the part that it leaves (R161). -/
theorem exec_writeComplete_leaves {s : State} {post : Post} {rest : List Post} {q : Part} (hs : s.part.phase = .serving)
    (hqueue : s.part.store.queue = post :: rest)
    (hfollow : (post.notes.foldl (fun r note => note.act r) ((s.part.stored post rest).pump pumpFuel)).follow s.part = q)
    (hcalm : q.Calm) (hwork : q.store.work = []) (hpending : q.store.pending = []) (hpath : q.path.sheets = s.part.path.sheets)
    (hfree : s.part.freeSlots ≤ q.freeSlots) :
    exec .writeComplete s = .next { s with part := (q.setStarting false).alert } := by
  have hwritten : s.part.writeComplete = q.setStarting false := by
    rw [Part.writeComplete_serving hs hqueue]
    exact congrArg (Part.setStarting · false) hfollow
  have hrest : (q.setStarting false).AtRest :=
    Part.Calm.atRest (hcalm.same ⟨rfl, rfl, rfl, rfl, rfl⟩) hwork hpending rfl
  exact event_atRest hwritten hrest hpath (hfree.trans (le_of_eq (Part.freeSlots_congr (p := q) ⟨rfl, rfl, rfl, rfl⟩).symm))

/-- What follows leaves a calm part with no work as it is. -/
theorem Part.Calm.follow {p before : Part} (h : p.Calm) (hwork : p.store.work = []) (hpending : p.store.pending = [])
    (hpath : p.path.sheets = before.path.sheets) : p.follow before = p := by
  unfold Part.follow
  rw [h.1]
  dsimp only
  rw [Part.reactIdle_path hpath, h.react, Part.goOn_serving h.1, Part.pump_rest hwork hpending]

/-- One owner whose work waits on a post takes its last step when a place is free (R164). -/
theorem Part.pump_wakes {p q : Part} {w : Work} {t : Task} {since : Nat} (hwork : p.store.work = []) (hpending : p.store.pending = [])
    (hsince : w.since = some since) (htasks : w.tasks = [t]) (hstep : t.step p = some (q, [])) (hcalm : q.Calm)
    (hqwork : q.store.work = []) (hqpending : q.store.pending = []) : (p.withWork [w]).pump pumpFuel = q := by
  have hmark : (p.withWork [w]).markWait = none := by
    have hmarks : (p.withWork [w]).marksWait w = false := by
      unfold marksWait
      rw [hsince]
      rfl
    unfold markWait
    rw [show (p.withWork [w]).store.work = [w] from rfl, List.find?_cons_of_neg (by simp [hmarks])]
    rfl
  have hadvance : (p.withWork [w]).advance w ([] ++ []) = some q := by
    unfold advance
    rw [htasks]
    simp only [List.append_nil, withWork_withWork, withWork_nil hwork, hstep, Option.map_some]
    rfl
  have hpumps : Pumps 1 (p.withWork [w]) q :=
    .step (p := p.withWork [w]) hpending hmark (advanceFirst_runs (canRun_single w) hadvance) hcalm.react (pumps_rest hqwork hqpending)
  exact hpumps pumpFuel (by decide)

/-! ### The widths of the inbound frames (section 12.1) -/

/-- Every frame that waits inbound is within the widths of its fields. -/
def Part.Hears (p : Part) : Prop := ∀ f ∈ p.line.inbound, f.message.inWidth = true

namespace Part

theorem Hears.same {p q : Part} (h : p.Hears) (hline : q.line.inbound = p.line.inbound) : q.Hears := by
  unfold Hears
  rwa [hline]

theorem Goes.hears {p q : Part} (h : p.Goes q) : p.Hears → q.Hears := by
  induction h with
  | quiet h =>
    obtain ⟨-, -, -, -, -, -, hi, -⟩ := h
    exact fun k => k.same hi
  | send p dest m => exact fun k => k.same (by simp)
  | post h _ =>
    obtain ⟨-, rfl⟩ := tryPost_eq_some.mp h
    exact id
  | hold h =>
    obtain ⟨q, hq, rfl⟩ := Option.map_eq_some_iff.mp h
    obtain ⟨-, rfl⟩ := tryPost_eq_some.mp hq
    exact fun k => k.same (by simp)
  | line p l _ hi _ => exact fun k f hf => k f (hi.2 f hf)
  | hear p source dest m _ hw =>
    intro k f hf
    rcases List.mem_append.mp (show f ∈ p.line.inbound ++ [_] from hf) with hf | hf
    · exact k f hf
    · rw [List.mem_singleton.mp hf]
      exact hw
  | trans _ _ ih ik => exact ik ∘ ih
  | _ => exact id

theorem startUp_hears (p : Part) (load : Bool) : (p.startUp load).Hears := by
  unfold startUp Hears
  split <;> simp [resetValues, beginRecovery, assign]

theorem drain_hears {p : Part} (load : Bool) (h : p.Hears) : (p.drain load).Hears := by
  have hposts : (p.fill.drainPosts p.fill.store.work).Hears := by
    refine drainPosts_keeps ?_ (fun _ _ hq => hq) _ ((Goes.fill p).hears h)
    intro q r w hq hr
    obtain ⟨-, rfl⟩ := tryPost_eq_some.mp hr
    exact hq
  rcases p.drain_cases load with hd | hd
  · rw [hd]; exact hposts
  · rw [hd]; exact startUp_hears _ _

theorem follow_hears {p : Part} (before : Part) (h : p.Hears) : (p.follow before).Hears := by
  by_cases hd : ∃ load, p.phase = .draining load
  · obtain ⟨load, hload⟩ := hd
    unfold follow
    rw [hload]
    exact (goes_goOn _).hears (drain_hears load h)
  · exact (goes_follow before fun load hload => hd ⟨load, hload⟩).hears h

theorem command_hears {p : Part} {f : Part → Part} (h : (f p).Hears) : (p.command f).Hears :=
  (follow_hears p h).same (congrArg Line.inbound ((f p).follow p |>.alert_journalLow_store p).2.1)

theorem writeComplete_hears {p : Part} (h : p.Hears) : p.writeComplete.Hears := by
  unfold writeComplete
  split
  · exact h
  · next post rest hq =>
    have after (q : Part) (hq : q.Hears) :
        (((post.notes.foldl (fun r note => note.act r) (q.pump pumpFuel)).follow p).setStarting false).Hears :=
      follow_hears p (((q.goes_pump pumpFuel).trans (steady_notes post.notes _).goes).hears hq)
    dsimp only
    split
    · exact after _ h
    · exact after _ h
    all_goals exact h

end Part

theorem Instr.effect_hears {c : Instr} {p : Part} (h : p.Hears) : (Instr.effect c p).Hears := by
  by_cases hr : c = .panelRead
  · subst hr
    show p.panelRead.Hears
    unfold Part.panelRead
    split
    · exact h
    · dsimp only
      split <;> exact h
  · cases hs : Instr.isSupply c with
    | false => exact (Instr.effect_goes hs fun hc => absurd hc hr).hears h
    | true =>
      have hempty (l : Line) (hl : l.inbound = []) : ∀ f ∈ l.inbound, f.message.inWidth = true := by
        rw [hl]
        exact fun f hf => by cases hf
      cases c <;> first
        | exact (Bool.false_ne_true hs).elim
        | dsimp only [Instr.effect]
      case powerOn =>
        unfold Part.powerOn
        split_ifs
        · exact h
        · exact hempty _ (by simp [Part.resetValues])
        · exact Part.startUp_hears _ _
      case powerLoss =>
        split
        · exact h
        · exact hempty _ (by simp [Part.losePower, Part.resetValues])
      case resetPinAssert =>
        unfold Part.assertReset
        dsimp only
        split <;> exact h
      case resetPinRelease => exact h
      case configLoadDone =>
        unfold Part.loadDone
        split <;> exact h
      case writeComplete => exact Part.writeComplete_hears h

theorem Instr.result_hears (c : Instr) (p : Part) (h : p.Hears) : (Instr.result c p).Hears := by
  unfold Instr.result
  split
  · exact Instr.effect_hears h
  · exact Part.command_hears (Instr.effect_hears h)

/-- Every step keeps the frames that wait inbound within the widths of their fields (section 12.1). -/
theorem step_hears {s t : State} (h : s.part.Hears) (hstep : step s = .next t) : t.part.Hears := by
  refine step_keeps (I := Part.Hears) (fun p hp => ?_) Instr.result_hears h hstep
  obtain ⟨now, hnow⟩ := p.tick_frame
  rw [hnow]
  exact hp

end Sys2Proof.Machine
end


section
/-! Proofs that ACCT_PUT, ACCT_TOPUP and ACCT_QUERY keep and answer for the accounts (R101, R109 to R113). -/

-- One theorem after another: many small theorems elaborated at once need more threads than the check allows.
set_option Elab.async false

namespace Sys2Proof.Machine

open Sys2Proof

theorem putOutOfRange_iff (account kind cls state value : Nat) :
    putOutOfRange account kind cls state value = true ↔
      (account = 0 ∨ 1 < kind ∨ 3 < cls ∨ 2 < state ∨ (kind = 0 ∧ 10000000 < value)) := by
  simp [putOutOfRange, or_assoc]

/-- An account as ACCT_PUT changes it (R111). -/
theorem Account.changed_eq (a : Account) {kind cls state value : Nat} (hkind : kind ≤ 1) (hvalue : value < 4294967296) :
    a.changed kind cls state value =
      { a with
        credit :=
          if kind = 0 then .charge value
          else .prepaid (if value < 2147483648 then (value : Int) else (value : Int) - 4294967296)
        cls := cls, blocked := decide (state = 1)
        overdrawn := if kind = 1 ∧ value < 2147483648 then false else a.overdrawn } := by
  have hblocked : (state == 1) = decide (state = 1) := rfl
  obtain rfl | rfl : kind = 0 ∨ kind = 1 := by omega
  · rfl
  · unfold changed settleOverdrawn creditOf signed32
    by_cases hsmall : value < 2147483648
    · simp [hsmall, hblocked]
    · simp only [hsmall, hblocked]
      have hnegative : ¬(0 : Int) ≤ (value : Int) - 4294967296 := by omega
      rw [if_neg (by decide), if_neg (by decide)]
      dsimp only
      rw [if_neg hnegative]
      rfl

/-- An account as ACCT_TOPUP pays into it (R112). -/
theorem Account.toppedUp_eq (a : Account) (balance : Int) (amount : Nat) :
    a.toppedUp balance amount =
      { a with
        credit := .prepaid (min (balance + (amount : Int)) 2147483647)
        overdrawn := if 0 ≤ min (balance + (amount : Int)) 2147483647 then false else a.overdrawn } := by
  unfold toppedUp settleOverdrawn
  dsimp only
  split <;> rfl

section
variable {s : State} {ahead behind : List InFrame} {source dest account : Nat}

/-- What the account table makes of an ACCT_PUT for this station (R110, R111). -/
theorem acctPut_takes {kind cls state value : Nat} (h : s.part.AtRest)
    (hinbound : s.part.line.inbound =
      ahead ++ { source := source, dest := dest, message := .acctPut account kind cls state value } :: behind)
    (hahead : ∀ f ∈ ahead, f.message.isAccountFrame = false) :
    inService (fun p => p.takeWhenReady .account Message.isAccountFrame Part.actPut) s.part =
      if dest = 0 then s.part.taken ahead behind
      else Part.accountWork ((s.part.taken ahead behind).takePut source account kind cls state value) :=
  Part.account_takes h hinbound hahead rfl _

/-- The cases of an ACCT_PUT (R111). -/
theorem takePut_cases {p : Part} (kind cls state value : Nat) :
    (putOutOfRange account kind cls state value = true →
        p.takePut source account kind cls state value = (p.answerOffice source account .range, [])) ∧
      (putOutOfRange account kind cls state value = false → findAccount p.ledger account = none → state = 2 →
        p.takePut source account kind cls state value = (p.answerOffice source account .unknownAccount, [])) ∧
      (putOutOfRange account kind cls state value = false → findAccount p.ledger account = none → state ≠ 2 →
        (insertionSlot p.ledger account = none →
            p.takePut source account kind cls state value = (p.answerOffice source account .tableFull, [])) ∧
          ∀ slot, insertionSlot p.ledger account = some slot →
            p.takePut source account kind cls state value =
              (p,
                [.putAccount slot (.used (newAccount account kind cls state value p.ledger.period.current))
                  [.answer source account .created]])) ∧
      ∀ slot a, putOutOfRange account kind cls state value = false → findAccount p.ledger account = some (slot, a) →
        (state = 2 → p.takePut source account kind cls state value = (p, [.vacate slot account source])) ∧
          (state ≠ 2 → a.credit.isKind kind = false →
            p.takePut source account kind cls state value = (p.answerOffice source account .wrongKind, [])) ∧
          (state ≠ 2 → a.credit.isKind kind = true →
            p.takePut source account kind cls state value =
              (p, [.putAccount slot (.used (a.changed kind cls state value)) [.answer source account .ok]])) := by
  refine ⟨fun hrange => ?_, fun hrange hnone hstate => ?_, fun hrange hnone hstate => ⟨fun hslot => ?_, fun slot hslot => ?_⟩,
    fun slot a hrange hfound => ⟨fun hstate => ?_, fun hstate hkind => ?_, fun hstate hkind => ?_⟩⟩ <;> unfold Part.takePut
  · rw [if_pos hrange]
  · rw [if_neg (by simp [hrange]), hnone]
    exact if_pos hstate
  · rw [if_neg (by simp [hrange]), hnone]
    dsimp only
    rw [if_neg hstate, hslot]
  · rw [if_neg (by simp [hrange]), hnone]
    dsimp only
    rw [if_neg hstate, hslot]
  · rw [if_neg (by simp [hrange]), hfound]
    exact if_pos hstate
  · rw [if_neg (by simp [hrange]), hfound]
    dsimp only
    rw [if_neg hstate, if_pos (by simp [hkind])]
  · rw [if_neg (by simp [hrange]), hfound]
    dsimp only
    rw [if_neg hstate, if_neg (by simp [hkind])]

/-- Vacating asks whether a hold names the account, now (R101). -/
theorem stepVacate_cases {p : Part} {slot : Nat} (hwork : p.store.work = []) :
    (p.ledger.holds.any (fun e => decide (e.2.account = account)) = true →
        (Task.vacate slot account source).step p = some (p.answerOffice source account .inUse, [])) ∧
      (p.ledger.holds.any (fun e => decide (e.2.account = account)) = false →
        (Task.vacate slot account source).step p = p.justPost (.account slot .vacated) [.answer source account .ok]) := by
  have hnames : p.holdNames account = p.ledger.holds.any (fun e => decide (e.2.account = account)) := by
    unfold Part.holdNames
    rw [hwork]
    simp
  constructor <;> intro h
  · show p.stepVacate slot account source = _
    unfold Part.stepVacate
    rw [hnames, if_pos h]
  · show p.stepVacate slot account source = _
    unfold Part.stepVacate
    rw [hnames, if_neg (by simp [h])]

end

/-- A frame that is taken and whose work only answers it. -/
theorem event_answersWorking {s : State} {ahead behind : List InFrame} {dest : Nat} {f : Part → Part} {t : Task} {m : Message}
    (h : s.part.AtRest) (hf : f s.part = (s.part.taken ahead behind).assign .account [t])
    (hstep : t.step (s.part.taken ahead behind) = some ((s.part.taken ahead behind).sendFrame dest m, []))
    (hready : (s.part.taken ahead behind).Ready t) :
    event s f = .next { s with part := ((s.part.taken ahead behind).sendFrame dest m).alert } := by
  obtain ⟨hs, hwork, hpending, -⟩ := id h
  let taken := s.part.taken ahead behind
  have hcalm : taken.Calm := (h.taken ahead behind).calm
  have hstore : (taken.sendFrame dest m).store = s.part.store := by rw [Part.sendFrame_eq]; rfl
  have hworks : taken.Works 1 [t] (taken.sendFrame dest m) :=
    .calm hstep hready (by rw [hstore]; exact hwork) (by rw [hstore]; exact hpending) (hcalm.sendFrame _ _) (.done _)
  have hfree : (taken.sendFrame dest m).freeSlots = s.part.freeSlots :=
    (Part.sendFrame_freeSlots taken dest m).trans (Part.freeSlots_congr ⟨rfl, rfl, rfl, rfl⟩)
  rw [event_works (p := taken) hf hs hwork hpending (List.cons_ne_nil _ _) (Part.reactIdle_path rfl) hcalm.react_withWork rfl hworks
    (by decide), Part.journalLow_same hfree]

/-- Settles O53: each frame's case, and the answer that a write-done sends. -/
theorem topupsAndQueriesAreAnswered : Obligations.TopupsAndQueriesAreAnswered := by
  refine ⟨?topup, ?query, ?written⟩
  case topup =>
    intro s ahead behind source dest account amount h hinbound hahead hdest taken answers sum
    have htakes : inService (fun p => p.takeWhenReady .account Message.isAccountFrame Part.actTopup) s.part =
        Part.accountWork (taken.takeTopup source account amount) :=
      (Part.account_takes h hinbound hahead rfl _).trans (if_neg hdest)
    refine ⟨fun hrange => ?range, fun hlow hhigh hnone => ?unknown, fun slot a hfound hlow hhigh => ⟨fun hkind => ?kind, ?paid⟩⟩
    case range =>
      have hf : Part.accountWork (taken.takeTopup source account amount) = taken.sendFrame source (.acctAnswer account 7 0 0) := by
        unfold Part.takeTopup
        rw [if_pos hrange]
        exact Part.answerOffice_range taken
      exact event_answers h (htakes.trans hf)
    case unknown =>
      have hf : Part.accountWork (taken.takeTopup source account amount) = taken.sendFrame source (.acctAnswer account 4 0 0) := by
        unfold Part.takeTopup
        rw [if_neg (by omega), show findAccount taken.ledger account = none from hnone]
        exact Part.answerOffice_none (p := taken) hnone _
      exact event_answers h (htakes.trans hf)
    case kind =>
      have hf : Part.accountWork (taken.takeTopup source account amount) =
          taken.sendFrame source (.acctAnswer account 5 (available a (s.part.held account)) a.spent) := by
        unfold Part.takeTopup
        rw [if_neg (by omega), show findAccount taken.ledger account = some (slot, a) from hfound]
        dsimp only
        cases hcredit : a.credit with
        | charge limit => exact Part.answerOffice_found (p := taken) hfound (by decide)
        | prepaid balance =>
          rw [hcredit] at hkind
          cases hkind
      exact event_answers h (htakes.trans hf)
    case paid =>
      intro balance hcredit hqueue paid
      have hf : Part.accountWork (taken.takeTopup source account amount) =
          taken.assign .account [.putAccount slot (.used (a.toppedUp balance amount)) [.answer source account .ok]] := by
        unfold Part.takeTopup
        rw [if_neg (by omega), show findAccount taken.ledger account = some (slot, a) from hfound]
        dsimp only
        rw [hcredit]
        rfl
      refine (event_postsAccount h (htakes.trans hf) rfl hqueue).trans ?_
      rw [Account.toppedUp_eq]
      rfl
  case query =>
    intro s ahead behind source dest account h hinbound hahead hdest taken
    have htakes : inService (fun p => p.takeWhenReady .account Message.isAccountFrame Part.actQuery) s.part =
        taken.takeQuery source account :=
      (Part.account_takes h hinbound hahead rfl _).trans (if_neg hdest)
    cases hfind : findAccount s.part.ledger account with
    | none =>
      have hf : taken.takeQuery source account = taken.sendFrame source (.acctAnswer account 4 0 0) := by
        unfold Part.takeQuery
        rw [show findAccount taken.ledger account = none from hfind]
        exact Part.answerOffice_none (p := taken) hfind _
      exact event_answers h (htakes.trans hf)
    | some e =>
      obtain ⟨slot, a⟩ := e
      have hf : taken.takeQuery source account =
          taken.sendFrame source
            (.acctAnswer account (if a.overdrawn then 3 else 2) (available a (s.part.held account)) a.spent) := by
        unfold Part.takeQuery
        rw [show findAccount taken.ledger account = some (slot, a) from hfind]
        dsimp only
        cases a.overdrawn with
        | true => exact Part.answerOffice_found (p := taken) hfind (by decide)
        | false => exact Part.answerOffice_found (p := taken) hfind (by decide)
      exact event_answers h (htakes.trans hf)
  case written =>
    intro s dest account slot value result h hqueue hresult stored
    have hpending := h.2.2.1
    let S := s.part.stored { write := .account slot value, notes := [.answer dest account result] } []
    have hledger : S.ledger = stored := Part.ledger_stored (p := S) rfl hpending
    have hcode : result.code = if result = .created then 1 else 2 := by
      rcases hresult with rfl | rfl <;> rfl
    cases hfind : findAccount stored account with
    | none =>
      have hanswer := Part.answerOffice_none (p := S) (dest := dest) (account := account) (by rw [hledger]; exact hfind) result
      rw [hcode] at hanswer
      exact exec_writeComplete_answers h hqueue hanswer
    | some e =>
      obtain ⟨place, a⟩ := e
      have hanswer := Part.answerOffice_found (p := S) (dest := dest) (account := account) (by rw [hledger]; exact hfind)
        (result := result) (by rcases hresult with rfl | rfl <;> decide)
      rw [hcode] at hanswer
      exact exec_writeComplete_answers h hqueue hanswer

/-- Settles O52: the first case of R111 that applies, the widths by every run of operations, and the question of R101 at the post. -/
theorem acctPutKeepsTheAccounts : Obligations.AcctPutKeepsTheAccounts := by
  refine ⟨?puts, fun s t h hstep => step_hears h hstep, ?waits⟩
  case puts =>
    intro s ahead behind source dest account kind cls state value h hvalue hinbound hahead taken l outOfRange credit answers
    have htakes := acctPut_takes h hinbound hahead
    have hledger : taken.ledger = l := rfl
    have hnot (hr : ¬outOfRange) : putOutOfRange account kind cls state value = false :=
      Bool.eq_false_iff.mpr fun hp => hr ((putOutOfRange_iff ..).mp hp)
    obtain ⟨hrange, hunknown, habsent, hpresent⟩ := takePut_cases (p := taken) (source := source) (account := account) kind cls state value
    have hanswers (hdest : dest ≠ 0) {result : AccountResult} {available spent : Nat}
        (hcase : taken.takePut source account kind cls state value = (taken.answerOffice source account result, []))
        (hsends : taken.answerOffice source account result =
          taken.sendFrame source (.acctAnswer account result.code available spent)) : answers result.code available spent := by
      refine event_answers h (htakes.trans ?_)
      rw [if_neg hdest]
      exact (congrArg Part.accountWork hcase).trans hsends
    have hposts (hdest : dest ≠ 0) {t : Task} (hcase : taken.takePut source account kind cls state value = (taken, [t])) :
        inService (fun p => p.takeWhenReady .account Message.isAccountFrame Part.actPut) s.part = taken.assign .account [t] := by
      rw [htakes, if_neg hdest]
      exact congrArg Part.accountWork hcase
    refine ⟨fun hdest => ?all, fun hdest hr => ?range, fun hdest hr hnone hstate => ?unknown, fun hdest hr hnone hstate hslot => ?full,
      fun slot hslot hdest hr hnone hstate hqueue => ?creates, fun slot a hfound hdest hr hstate hkind => ?wrong,
      fun slot a hfound hdest hr hstate => ?vacates, fun slot a hfound hdest hr hstate hkind hqueue => ?changes⟩
    case all => exact event_discards h (htakes.trans (if_pos hdest))
    case range => exact hanswers hdest (hrange ((putOutOfRange_iff ..).mpr hr)) taken.answerOffice_range
    case unknown => exact hanswers hdest (hunknown (hnot hr) hnone hstate) (Part.answerOffice_none (p := taken) hnone _)
    case full => exact hanswers hdest ((habsent (hnot hr) hnone hstate).1 hslot) (Part.answerOffice_none (p := taken) hnone _)
    case creates => exact event_postsAccount h (hposts hdest ((habsent (hnot hr) hnone hstate).2 slot hslot)) rfl hqueue
    case wrong =>
      obtain ⟨-, hwrong, -⟩ := hpresent slot a (hnot hr) hfound
      exact hanswers hdest (hwrong hstate hkind) (Part.answerOffice_found (p := taken) hfound (by decide))
    case vacates =>
      intro named
      obtain ⟨hvacate, -⟩ := hpresent slot a (hnot hr) hfound
      obtain ⟨hinUse, hfree⟩ := stepVacate_cases (p := taken) (source := source) (account := account) (slot := slot) h.2.1
      refine ⟨fun hnamed => ?_, fun hnamed hqueue => event_postsAccount h (hposts hdest (hvacate hstate)) (hfree hnamed) hqueue⟩
      have hsends := Part.answerOffice_found (p := taken) (dest := source) (account := account) hfound (result := .inUse) (by decide)
      have hready : taken.Ready (.vacate slot account source) := .inr fun work => if_pos (by
        unfold Part.holdNames
        rw [show (taken.withWork work).ledger = l from rfl, show l.holds.any _ = true from hnamed]
        rfl)
      exact event_answersWorking h (hposts hdest (hvacate hstate)) ((hinUse hnamed).trans (congrArg (fun q => some (q, [])) hsends)) hready
    case changes =>
      obtain ⟨-, -, hchange⟩ := hpresent slot a (hnot hr) hfound
      have hkind1 : kind ≤ 1 := by
        by_contra hbig
        exact hr (.inr (.inl (by omega)))
      refine (event_postsAccount h (hposts hdest (hchange hstate hkind)) rfl hqueue).trans ?_
      rw [Account.changed_eq a hkind1 hvalue]
      rfl
  case waits =>
    intro s post rest slot account source since hwork hrest hqueue hlength hnotes hnames stored named
    let idle : Part := { s.part with store := { s.part.store with work := [] } }
    let w : Work := { owner := .account, tasks := [.vacate slot account source], begun := true, since := some since }
    let S := idle.stored post rest
    have hpending : s.part.store.pending = [] := hrest.2.2.1
    have hworking : s.part.stored post rest = S.withWork [w] := by
      show _ = ({ s.part with store := { (s.part.stored post rest).store with work := [w] } } : Part)
      rw [← hwork]
      rfl
    have hledger : S.ledger = s.part.ledger := Part.stored_ledger (p := idle) hqueue
    have hcalm : S.Calm := hrest.calm.same ⟨rfl, rfl, rfl, rfl, rfl⟩
    have hserving : s.part.phase = .serving := hcalm.1
    have hfree : S.freeSlots = s.part.freeSlots := by
      show journalFree S.ledger s.part.journal.reserved = journalFree s.part.ledger s.part.journal.reserved
      rw [hledger]
    have hstarting : s.part.store.starting = false := by
      obtain ⟨-, -, -, -, -, -, -, hstart⟩ := hrest
      exact hstart
    have hnotes' (q : Part) : post.notes.foldl (fun r note => note.act r) q = q := by rw [hnotes]; rfl
    obtain ⟨hinUse, hvacates⟩ := stepVacate_cases (p := S) (source := source) (account := account) (slot := slot) rfl
    rw [hledger] at hinUse hvacates
    refine ⟨fun hnamed => ?free, fun place a hnamed hfound => ?refused⟩
    case free =>
      have hstep : (Task.vacate slot account source).step S =
          some (S.joined [{ write := .account slot .vacated, notes := [.answer source account .ok] }], []) := by
        rw [hvacates hnamed]
        exact congrArg (Option.map (·, [])) (Part.tryPost_joins (p := S) (w := .account slot .vacated) (by show rest.length < 8; omega) hnames _)
      have hcalm' := hcalm.joined [{ write := .account slot .vacated, notes := [.answer source account .ok] }]
      have hpump := Part.pump_wakes (p := S) (w := w) rfl hpending rfl rfl hstep hcalm' rfl hpending
      have hsame := Part.freeSlots_joined (p := S) hpending [{ write := .account slot .vacated, notes := [.answer source account .ok] }]
        fun post hpost l => by
          rw [List.mem_singleton.mp hpost]
          exact ⟨rfl, rfl⟩
      rw [exec_writeComplete_leaves hserving hqueue (by rw [hnotes', hworking, hpump]; exact hcalm'.follow rfl hpending rfl) hcalm' rfl hpending
        rfl (by rw [hsame, hfree]), ← hstarting]
      rfl
    case refused =>
      have hsends := Part.answerOffice_found (p := S) (dest := source) (account := account) (by rw [hledger]; exact hfound)
        (result := .inUse) (by decide)
      have hstep := (hinUse hnamed).trans (congrArg (fun q => some (q, [])) hsends)
      have hcalm' := hcalm.sendFrame source (.acctAnswer account 6 (available a (s.part.held account)) a.spent)
      have hstore := congrArg Part.store (Part.sendFrame_eq S source (.acctAnswer account 6 (available a (s.part.held account)) a.spent))
      have hpath := congrArg Part.path (Part.sendFrame_eq S source (.acctAnswer account 6 (available a (s.part.held account)) a.spent))
      have hqwork := congrArg Store.work hstore
      have hqpending := (congrArg Store.pending hstore).trans hpending
      have hpump := Part.pump_wakes (p := S) (w := w) rfl hpending rfl rfl hstep hcalm' hqwork hqpending
      have hline := (Part.enqueue_congr (p := stored) (q := S) rfl rfl source
        (.acctAnswer account 6 (available a (s.part.held account)) a.spent)).2
      rw [exec_writeComplete_leaves hserving hqueue
        (by rw [hnotes', hworking, hpump]; exact hcalm'.follow hqwork hqpending (congrArg PathMonitor.sheets hpath)) hcalm' hqwork hqpending
        (congrArg PathMonitor.sheets hpath) (by rw [Part.sendFrame_freeSlots, hfree]), Part.sendFrame_eq S, hline, ← hstarting]
      refine congrArg Host.Outcome.next ?_
      rw [Part.sendFrame_eq stored]
      rfl

end Sys2Proof.Machine
end


section
/-! Proofs about the hold table's frames for open holds, and the sweep (R93 to R99). -/

-- One theorem after another: many small theorems elaborated at once need more threads than the check allows.
set_option Elab.async false

namespace Sys2Proof.Machine

open Sys2Proof

namespace Part

/-! ### Changes of one hold record (R85, R86) -/

/-- The held amounts after a record of an account takes the place of one of the same account (R86). -/
theorem heldPost_held {p : Part} (hrising : Rising p.accounts.held) {slot : Nat} {r new : HoldRecord}
    (hslot : tableGet p.ledger.holds slot = some r) (haccount : new.account = r.account) (notes : List Note) (n : Nat) :
    (p.heldPost slot (some new) notes).held n =
      p.held n - (if n = r.account then activeAmount r else 0) + if n = r.account then activeAmount new else 0 := by
  have hshare (x : HoldRecord) (hx : x.account = r.account) : optionShare n (some x) = if n = r.account then activeAmount x else 0 := by
    simp only [optionShare, Option.elim_some, holdShare, hx, eq_comm]
  show countGet (heldChange p.accounts.held (tableGet p.ledger.holds slot) (some new)) n = _
  rw [hslot, countGet_heldChange hrising, hshare r rfl, hshare new haccount]
  rfl

/-- A record that becomes ACTIVE again is held with its amount (R86, R95). -/
theorem heldPost_restored {p : Part} (hrising : Rising p.accounts.held) {slot : Nat} {r : HoldRecord}
    (hslot : tableGet p.ledger.holds slot = some r) (hstate : r.state ≠ .active) (amount touched : Nat) (notes : List Note) (n : Nat) :
    (p.heldPost slot (some { r with state := .active, amount := amount, touched := touched }) notes).held n =
      p.held n + if n = r.account then amount else 0 := by
  have hold : activeAmount r = 0 := if_neg hstate
  refine (heldPost_held (new := { r with state := .active, amount := amount, touched := touched }) hrising hslot rfl notes n).trans ?_
  rw [hold, ite_self]
  rfl

/-- An ACTIVE record that lapses is held no more (R86, R97). -/
theorem heldPost_lapsed {p : Part} (hrising : Rising p.accounts.held) {slot : Nat} {r : HoldRecord}
    (hslot : tableGet p.ledger.holds slot = some r) (hstate : r.state = .active) (touched : Nat) (notes : List Note) (n : Nat) :
    (p.heldPost slot (some { r with state := .lapsed, touched := touched }) notes).held n =
      p.held n - if n = r.account then r.amount else 0 := by
  have hold : activeAmount r = r.amount := if_pos hstate
  have hnew : activeAmount { r with state := .lapsed, touched := touched } = 0 := if_neg (by simp)
  refine (heldPost_held (new := { r with state := .lapsed, touched := touched }) hrising hslot rfl notes n).trans ?_
  rw [hold, hnew, ite_self]
  rfl

/-- An ACTIVE record that stays ACTIVE is held with what it grows by (R86, R94, R96). -/
theorem heldPost_enlarged {p : Part} (hrising : Rising p.accounts.held) {slot : Nat} {r : HoldRecord}
    (hslot : tableGet p.ledger.holds slot = some r) (hstate : r.state = .active) (hle : r.amount ≤ p.held r.account)
    (more touched : Nat) (notes : List Note) (n : Nat) :
    (p.heldPost slot (some { r with amount := r.amount + more, touched := touched }) notes).held n =
      p.held n + if n = r.account then more else 0 := by
  have hold : activeAmount r = r.amount := if_pos hstate
  have hnew : activeAmount { r with amount := r.amount + more, touched := touched } = r.amount + more := if_pos hstate
  refine (heldPost_held (new := { r with amount := r.amount + more, touched := touched }) hrising hslot rfl notes n).trans ?_
  rw [hold, hnew]
  by_cases hn : n = r.account
  · subst hn
    rw [if_pos rfl, if_pos rfl, if_pos rfl]
    omega
  · rw [if_neg hn, if_neg hn, if_neg hn]
    omega

/-- A hold post, alone in the queue, of a part whose store and held amounts are those of another. -/
theorem heldPost_result {p q : Part} (hstore : q.store = p.store) (haccounts : q.accounts = p.accounts) (hqueue : p.store.queue = [])
    (slot : Nat) (value : Option HoldRecord) (notes : List Note) :
    q.heldPost slot value notes =
      { q with
        accounts := { p.accounts with held := (q.heldPost slot value notes).accounts.held }
        store := { p.store with queue := [{ write := .hold slot value, notes := notes }] } } := by
  rw [heldPost_alone (p := q) (by rw [hstore]; exact hqueue), hstore, haccounts]

/-! ### Requests for an open hold (R93 to R96, R102) -/

theorem answerGone_sends {p : Part} {source : Nat} (h : source ≠ p.config.values.station) (holdId job : Nat) :
    p.answerGone source holdId job = p.sendFrame source (.holdGone holdId job) := if_neg h

theorem answerDeny_sends {p : Part} {source : Nat} (h : source ≠ p.config.values.station) (job : Nat) (r : DenyReason) :
    p.answerDeny source job r = p.sendFrame source (.holdDeny job r.code) := if_neg h

/-- A request for more of a hold, by the record that it belongs to (R93, R94, R95). -/
theorem takeMore_cases {p : Part} {source holdId job : Nat} (hjob : job ≠ 0) (increment : Nat) :
    (ownHold p.ledger source holdId job = none →
        p.takeMore source holdId job increment = (p.answerGone source holdId job, [])) ∧
      ∀ slot r, ownHold p.ledger source holdId job = some (slot, r) →
        (r.state = .active →
            p.takeMore source holdId job increment = p.decideMore source increment slot (p.availableOf r.account) r false) ∧
          (r.state = .settling → p.takeMore source holdId job increment = (p.answerGone source holdId job, [])) ∧
          (r.state = .lapsed → p.availableOf r.account < r.amount + increment →
            p.takeMore source holdId job increment = (p.answerGone source holdId job, [])) ∧
          (r.state = .lapsed → r.amount + increment ≤ p.availableOf r.account →
            p.takeMore source holdId job increment =
              p.decideMore source increment slot (p.availableOf r.account - r.amount) { r with state := .active, touched := p.seconds }
                true) := by
  refine ⟨fun hnone => ?_, fun slot r hown => ⟨fun hstate => ?_, fun hstate => ?_, fun hstate hshort => ?_, fun hstate hcovers => ?_⟩⟩ <;>
    unfold takeMore
  · rw [if_neg hjob, hnone]
  · rw [if_neg hjob, hown]
    dsimp only
    rw [hstate]
  · rw [if_neg hjob, hown]
    dsimp only
    rw [hstate]
  · rw [if_neg hjob, hown]
    dsimp only
    rw [hstate]
    exact if_neg (by omega)
  · rw [if_neg hjob, hown]
    dsimp only
    rw [hstate]
    exact if_pos hcovers

/-- A request to keep a hold, by the record that it belongs to (R93, R96). -/
theorem takeKeep_cases {p : Part} {source holdId job : Nat} (hjob : job ≠ 0) :
    (ownHold p.ledger source holdId job = none → p.takeKeep source holdId job = (p.answerGone source holdId job, [])) ∧
      ∀ slot r, ownHold p.ledger source holdId job = some (slot, r) →
        (r.state = .active → p.takeKeep source holdId job = (p, [.putHold slot { r with touched := p.seconds } []])) ∧
          (r.state = .settling → p.takeKeep source holdId job = (p.answerGone source holdId job, [])) ∧
          (r.state = .lapsed → p.availableOf r.account < r.amount →
            p.takeKeep source holdId job = (p.answerGone source holdId job, [])) ∧
          (r.state = .lapsed → r.amount ≤ p.availableOf r.account →
            p.takeKeep source holdId job = (p, [.putHold slot { r with state := .active, touched := p.seconds } []])) := by
  refine ⟨fun hnone => ?_, fun slot r hown => ⟨fun hstate => ?_, fun hstate => ?_, fun hstate hshort => ?_, fun hstate hcovers => ?_⟩⟩ <;>
    unfold takeKeep
  · rw [if_neg hjob, hnone]
  · rw [if_neg hjob, hown]
    dsimp only
    rw [hstate]
  · rw [if_neg hjob, hown]
    dsimp only
    rw [hstate]
  · rw [if_neg hjob, hown]
    dsimp only
    rw [hstate]
    exact if_neg (by omega)
  · rw [if_neg hjob, hown]
    dsimp only
    rw [hstate]
    exact if_pos hcovers

/-- More of a hold is denied or granted (R94, R95). -/
theorem decideMore_cases {p : Part} {source : Nat} (hremote : source ≠ p.config.values.station) (increment slot spare : Nat)
    (r : HoldRecord) (restored : Bool) :
    let keep := if restored then [Task.putHold slot r []] else []
    let grant := min (min increment spare) (100000 - r.amount)
    (p.isBlocked r.account = true →
        p.decideMore source increment slot spare r restored = (p.sendFrame source (.holdDeny r.job 2), keep)) ∧
      (p.isBlocked r.account = false → grant < p.config.values.minGrant →
        p.decideMore source increment slot spare r restored = (p.sendFrame source (.holdDeny r.job 3), keep)) ∧
      (p.isBlocked r.account = false → p.config.values.minGrant ≤ grant →
        p.decideMore source increment slot spare r restored =
          (p, [.putHold slot { r with amount := r.amount + grant, touched := p.seconds } [.grant source slot r.id r.job]])) := by
  intro keep grant
  refine ⟨fun hblocked => ?_, fun hblocked hshort => ?_, fun hblocked hgrant => ?_⟩ <;> unfold decideMore <;> dsimp only
  · rw [if_pos hblocked, answerDeny_sends hremote]
    rfl
  · rw [if_neg (by simp [hblocked]), if_pos (show min (min increment spare) (Config.maxHold - r.amount) < _ from hshort),
      answerDeny_sends hremote]
    rfl
  · rw [if_neg (by simp [hblocked]),
      if_neg (show ¬min (min increment spare) (Config.maxHold - r.amount) < _ from Nat.not_lt.mpr hgrant)]
    rfl

end Part

section
variable {s : State} {ahead behind : List InFrame}

/-- The hold table at rest takes its oldest frame (R104, R148). -/
theorem hold_takes {p : Part} {g : InFrame} (h : p.AtRest) (hinbound : p.line.inbound = ahead ++ g :: behind)
    (hahead : ∀ x ∈ ahead, x.message.isHoldRequest = false) (hmine : g.message.isHoldRequest = true)
    (act : Part → InFrame → Option Part) :
    inService (fun p => p.takeWhenReady .hold Message.isHoldRequest act) p = (act (p.taken ahead behind) g).getD p := by
  rw [inService_serving h.1, Part.takeWhenReady_oldest h.2.1 hinbound hahead hmine]

/-- A hold request that is taken and changes nothing else. -/
theorem event_holdDone {f : Part → Part} {t : Task} {q : Part} (h : s.part.AtRest)
    (hf : f s.part = (s.part.taken ahead behind).assign .hold [t]) (hstep : t.step (s.part.taken ahead behind) = some (q, []))
    (hready : (s.part.taken ahead behind).Ready t) (hcalm : q.Calm) (hstore : q.store = s.part.store) (hjournal : q.journal = s.part.journal) :
    event s f = .next { s with part := q.alert } := by
  obtain ⟨hs, hwork, hpending, -⟩ := id h
  let taken := s.part.taken ahead behind
  have htaken : taken.Calm := (h.taken ahead behind).calm
  have hworks : taken.Works 1 [t] q :=
    .calm hstep hready (by rw [hstore]; exact hwork) (by rw [hstore]; exact hpending) hcalm (.done _)
  have hfree : q.freeSlots = s.part.freeSlots :=
    Part.freeSlots_congr ⟨congrArg Store.stored hstore, congrArg Store.queue hstore, congrArg Store.pending hstore,
      hjournal⟩
  rw [event_works (p := taken) hf hs hwork hpending (List.cons_ne_nil _ _) (Part.reactIdle_path rfl) htaken.react_withWork rfl hworks
    (by decide), Part.journalLow_same hfree]

/-- A hold request that is taken and posts its record. -/
theorem event_holdPosts {f : Part → Part} {t : Task} {q : Part} {slot : Nat} {value : HoldRecord} {notes : List Note}
    (h : s.part.AtRest) (hf : f s.part = (s.part.taken ahead behind).assign .hold [t])
    (hstep : t.step (s.part.taken ahead behind) = some (q, [.putHold slot value notes]))
    (hready : (s.part.taken ahead behind).Ready t) (hcalm : q.Calm) (hstore : q.store = s.part.store) (hjournal : q.journal = s.part.journal)
    (hqueue : s.part.store.queue = []) :
    event s f = .next { s with part := (q.heldPost slot (some value) notes).alert } := by
  obtain ⟨hs, hwork, hpending, -⟩ := id h
  let taken := s.part.taken ahead behind
  have htaken : taken.Calm := (h.taken ahead behind).calm
  have hqwork : q.store.work = [] := by rw [hstore]; exact hwork
  have hqpending : q.store.pending = [] := by rw [hstore]; exact hpending
  have hworks : taken.Works 2 [t] (q.heldPost slot (some value) notes) :=
    .calm hstep hready hqwork hqpending hcalm
      (.putHold (p := q) hcalm hqwork hqpending (by rw [hstore, hqueue]; decide) (.done _))
  have hfree : (q.heldPost slot (some value) notes).freeSlots = s.part.freeSlots :=
    (Part.heldPost_freeSlots (p := q) hqpending slot (some value) notes).trans
      (Part.freeSlots_congr ⟨congrArg Store.stored hstore, congrArg Store.queue hstore, congrArg Store.pending hstore,
        hjournal⟩)
  rw [event_works (p := taken) hf hs hwork hpending (List.cons_ne_nil _ _) (Part.reactIdle_path rfl) htaken.react_withWork rfl hworks
    (by decide), Part.journalLow_same hfree]

end

end Sys2Proof.Machine
end


section
/-! Proofs that holds are enlarged, kept and swept: the clauses of R94 to R99 over the hold table's requests and the sweep's visits. -/

-- One theorem after another: many small theorems elaborated at once need more threads than the check allows.
set_option Elab.async false

namespace Sys2Proof.Machine

open Sys2Proof

section
variable {s : State} {ahead behind : List InFrame} {source dest holdId job increment : Nat}

/-- What the hold table makes of a HOLD_MORE (R94, R95, R148). -/
theorem holdMore_takes (h : s.part.AtRest)
    (hinbound : s.part.line.inbound =
      ahead ++ { source := source, dest := dest, message := .holdMore holdId job increment } :: behind)
    (hahead : ∀ f ∈ ahead, f.message.isHoldRequest = false) :
    inService (fun p => p.takeWhenReady .hold Message.isHoldRequest Part.actMore) s.part =
      (s.part.taken ahead behind).assign .hold [.more source holdId job increment] := hold_takes h hinbound hahead rfl _

/-- What the hold table makes of a HOLD_KEEP (R96, R148). -/
theorem holdKeep_takes (h : s.part.AtRest)
    (hinbound : s.part.line.inbound = ahead ++ { source := source, dest := dest, message := .holdKeep holdId job } :: behind)
    (hahead : ∀ f ∈ ahead, f.message.isHoldRequest = false) :
    inService (fun p => p.takeWhenReady .hold Message.isHoldRequest Part.actKeep) s.part =
      (s.part.taken ahead behind).assign .hold [.keep source holdId job] := hold_takes h hinbound hahead rfl _

/-- A hold request that is answered at once. -/
theorem event_holdAnswers {f : Part → Part} {t : Task} {m : Message} (h : s.part.AtRest)
    (hf : f s.part = (s.part.taken ahead behind).assign .hold [t])
    (hstep : t.step (s.part.taken ahead behind) = some ((s.part.taken ahead behind).sendFrame source m, []))
    (hready : (s.part.taken ahead behind).Ready t) :
    event s f = .next { s with part := ((s.part.taken ahead behind).sendFrame source m).alert } :=
  event_holdDone h hf hstep hready ((h.taken ahead behind).calm.sendFrame _ _) (by rw [Part.sendFrame_eq]; rfl)
    (by rw [Part.sendFrame_eq]; rfl)

/-- A hold request that posts a record, and what it leaves. -/
theorem event_holdLeaves {f : Part → Part} {t : Task} {q : Part} {slot : Nat} {value : HoldRecord} {notes : List Note}
    (h : s.part.AtRest) (hf : f s.part = (s.part.taken ahead behind).assign .hold [t])
    (hstep : t.step (s.part.taken ahead behind) = some (q, [.putHold slot value notes]))
    (hready : (s.part.taken ahead behind).Ready t) (hcalm : q.Calm) (hstore : q.store = s.part.store)
    (hjournal : q.journal = s.part.journal) (haccounts : q.accounts = s.part.accounts) (hqueue : s.part.store.queue = [])
    {change : Nat → Nat} {P : Prop} (hheld : P → ∀ n, (q.heldPost slot (some value) notes).held n = change n) :
    ∃ t, event s f = .next t ∧
      t =
        { s with
          part :=
            ({ q with
                accounts := { s.part.accounts with held := t.part.accounts.held }
                store := { s.part.store with queue := [{ write := .hold slot (some value), notes := notes }] } } : Part).alert } ∧
      (P → ∀ n, t.part.held n = change n) :=
  ⟨_, event_holdPosts h hf hstep hready hcalm hstore hjournal hqueue,
    congrArg (fun q : Part => ({ s with part := q.alert } : State)) (Part.heldPost_result hstore haccounts hqueue slot (some value) notes),
    hheld⟩

/-- The ledger and the held amounts are those of the part before the answer was sent. -/
theorem heldPost_sent_held (p : Part) (dest : Nat) (m : Message) (slot : Nat) (value : Option HoldRecord) (notes : List Note) (n : Nat) :
    ((p.sendFrame dest m).heldPost slot value notes).held n = (p.heldPost slot value notes).held n := by
  rw [Part.sendFrame_eq]
  rfl

end

section
variable {s : State} {ahead behind : List InFrame} {source holdId job increment : Nat} {f : Part → Part}

/-- A request for more that belongs to an ACTIVE record, or to none (R93, R94). -/
theorem event_holdMore (h : s.part.AtRest) (hremote : source ≠ s.part.config.values.station) (hjob : job ≠ 0)
    (hf : f s.part = (s.part.taken ahead behind).assign .hold [.more source holdId job increment]) :
    let taken : Part := { s.part with line := { s.part.line with inbound := ahead ++ behind } }
    let answers := fun (m : Message) => event s f = .next { s with part := (taken.sendFrame source m).alert }
    (ownHold s.part.ledger source holdId job = none → answers (.holdGone holdId job)) ∧
      ∀ slot r, ownHold s.part.ledger source holdId job = some (slot, r) → r.state = .active →
        let grant := min (min increment (s.part.availableOf r.account)) (100000 - r.amount)
        (s.part.isBlocked r.account = true → answers (.holdDeny r.job 2)) ∧
          (s.part.isBlocked r.account = false → grant < s.part.config.values.minGrant → answers (.holdDeny r.job 3)) ∧
          (s.part.isBlocked r.account = false → s.part.config.values.minGrant ≤ grant → s.part.store.queue = [] →
            ∃ t, event s f = .next t ∧
              t =
                { s with
                  part :=
                    ({ taken with
                        accounts := { s.part.accounts with held := t.part.accounts.held }
                        store :=
                          { s.part.store with
                            queue :=
                              [{ write :=
                                  .hold slot (some { r with amount := r.amount + grant, touched := s.part.now / 1000 })
                                 notes := [.grant source slot r.id r.job] }] } } : Part).alert } ∧
              (tableGet s.part.ledger.holds slot = some r → r.amount ≤ s.part.held r.account →
                Rising s.part.accounts.held →
                ∀ n, t.part.held n = s.part.held n + (if n = r.account then grant else 0))) := by
  intro taken answers
  have htaken : taken.Calm := (h.taken ahead behind).calm
  have hready : taken.Ready (.more source holdId job increment) := .inr fun _ => rfl
  have hstep : (Task.more source holdId job increment).step taken = some (taken.takeMore source holdId job increment) := rfl
  obtain ⟨hnone, hown⟩ := Part.takeMore_cases (p := taken) (source := source) (holdId := holdId) hjob increment
  refine ⟨fun hgone => ?gone, ?more⟩
  case gone =>
    rw [hnone hgone, Part.answerGone_sends (p := taken) hremote] at hstep
    exact event_holdAnswers h hf hstep hready
  case more =>
    intro slot r hfound hstate grant
    obtain ⟨hactive, -⟩ := hown slot r hfound
    rw [hactive hstate] at hstep
    obtain ⟨hblocked, hshort, hgrants⟩ := Part.decideMore_cases (p := taken) hremote increment slot (taken.availableOf r.account) r false
    refine ⟨fun hb => ?_, fun hb hs => ?_, fun hb hg hqueue => ?_⟩
    · rw [hblocked hb] at hstep
      exact event_holdAnswers h hf hstep hready
    · rw [hshort hb hs] at hstep
      exact event_holdAnswers h hf hstep hready
    · rw [hgrants hb hg] at hstep
      obtain ⟨t, hevent, ht, hheld⟩ := event_holdLeaves (P := tableGet s.part.ledger.holds slot = some r ∧
          r.amount ≤ s.part.held r.account ∧ Rising s.part.accounts.held)
        (change := fun n => s.part.held n + if n = r.account then grant else 0) h hf hstep hready htaken rfl rfl rfl hqueue
        fun ⟨hslot, hle, hrising⟩ n => Part.heldPost_enlarged (p := taken) hrising hslot hstate hle _ _ _ n
      exact ⟨t, hevent, ht, fun hslot hle hrising => hheld ⟨hslot, hle, hrising⟩⟩

/-- A request for more that belongs to a record that is not ACTIVE, or is for job 0 (R93, R95). -/
theorem event_holdMore_restores (h : s.part.AtRest) (hremote : source ≠ s.part.config.values.station)
    (hf : f s.part = (s.part.taken ahead behind).assign .hold [.more source holdId job increment]) :
    let taken : Part := { s.part with line := { s.part.line with inbound := ahead ++ behind } }
    let answers := fun (m : Message) => event s f = .next { s with part := (taken.sendFrame source m).alert }
    (job = 0 → event s f = .next { s with part := taken.alert }) ∧
      ∀ slot r, ownHold s.part.ledger source holdId job = some (slot, r) → job ≠ 0 →
        let spare := s.part.availableOf r.account
        let grant := min (min increment (spare - r.amount)) (100000 - r.amount)
        let becomes := fun (q : Part) (amount : Nat) (notes : List Note) =>
          ∃ t, event s f = .next t ∧
            t =
              { s with
                part :=
                  ({ q with
                      accounts := { s.part.accounts with held := t.part.accounts.held }
                      store :=
                        { s.part.store with
                          queue :=
                            [{ write :=
                                .hold slot
                                  (some { r with state := .active, amount := amount, touched := s.part.now / 1000 })
                               notes := notes }] } } : Part).alert } ∧
            (tableGet s.part.ledger.holds slot = some r → Rising s.part.accounts.held →
              ∀ n, t.part.held n = s.part.held n + (if n = r.account then amount else 0))
        (r.state = .settling → answers (.holdGone holdId job)) ∧
          (r.state = .lapsed → spare < r.amount + increment → answers (.holdGone holdId job)) ∧
          (r.state = .lapsed → r.amount + increment ≤ spare → s.part.store.queue = [] →
            (s.part.isBlocked r.account = true → becomes (taken.sendFrame source (.holdDeny r.job 2)) r.amount []) ∧
              (s.part.isBlocked r.account = false → grant < s.part.config.values.minGrant →
                becomes (taken.sendFrame source (.holdDeny r.job 3)) r.amount []) ∧
              (s.part.isBlocked r.account = false → s.part.config.values.minGrant ≤ grant →
                becomes taken (r.amount + grant) [.grant source slot r.id r.job])) := by
  intro taken answers
  have htaken : taken.Calm := (h.taken ahead behind).calm
  have hready : taken.Ready (.more source holdId job increment) := .inr fun _ => rfl
  have hstep : (Task.more source holdId job increment).step taken = some (taken.takeMore source holdId job increment) := rfl
  refine ⟨fun hjob => ?none, fun slot r hfound hjob => ?own⟩
  case none =>
    have hnothing : taken.takeMore source holdId job increment = (taken, []) := if_pos hjob
    rw [hnothing] at hstep
    exact event_holdDone h hf hstep hready htaken rfl rfl
  case own =>
    intro spare grant becomes
    obtain ⟨-, hsettling, hshort, hcovers⟩ :=
      (Part.takeMore_cases (p := taken) (source := source) (holdId := holdId) hjob increment).2 slot r hfound
    have leaves {q : Part} {amount : Nat} {notes : List Note} (hstate : r.state = .lapsed) (hqueue : s.part.store.queue = [])
        (hsent : ∃ m, q = taken ∨ q = taken.sendFrame source m)
        (hposts : (Task.more source holdId job increment).step taken =
          some (q, [.putHold slot { r with state := .active, amount := amount, touched := s.part.now / 1000 } notes])) :
        becomes q amount notes := by
      have hcalm : q.Calm := by
        obtain ⟨m, rfl | rfl⟩ := hsent
        · exact htaken
        · exact htaken.sendFrame _ _
      have hsame : q.store = s.part.store ∧ q.journal = s.part.journal ∧ q.accounts = s.part.accounts := by
        obtain ⟨m, rfl | rfl⟩ := hsent
        · exact ⟨rfl, rfl, rfl⟩
        · rw [Part.sendFrame_eq]
          exact ⟨rfl, rfl, rfl⟩
      obtain ⟨hstore, hjournal, haccounts⟩ := hsame
      have hheld (n : Nat) : (q.heldPost slot (some { r with state := .active, amount := amount, touched := s.part.now / 1000 })
          notes).held n = (taken.heldPost slot (some { r with state := .active, amount := amount, touched := s.part.now / 1000 })
          notes).held n := by
        obtain ⟨m, rfl | rfl⟩ := hsent
        · rfl
        · exact heldPost_sent_held _ _ _ _ _ _ _
      obtain ⟨t, hevent, ht, hleft⟩ := event_holdLeaves (P := tableGet s.part.ledger.holds slot = some r ∧ Rising s.part.accounts.held)
        (change := fun n => s.part.held n + if n = r.account then amount else 0) h hf hposts hready hcalm hstore hjournal haccounts hqueue
        fun ⟨hslot, hrising⟩ n => (hheld n).trans
          (Part.heldPost_restored (p := taken) hrising hslot (by rw [hstate]; decide) amount _ _ n)
      exact ⟨t, hevent, ht, fun hslot hrising => hleft ⟨hslot, hrising⟩⟩
    refine ⟨fun hstate => ?_, fun hstate hs => ?_, fun hstate hc hqueue => ?_⟩
    · rw [hsettling hstate, Part.answerGone_sends (p := taken) hremote] at hstep
      exact event_holdAnswers h hf hstep hready
    · rw [hshort hstate hs, Part.answerGone_sends (p := taken) hremote] at hstep
      exact event_holdAnswers h hf hstep hready
    · rw [hcovers hstate hc] at hstep
      obtain ⟨hblocked, hlow, hgrants⟩ := Part.decideMore_cases (p := taken) hremote increment slot (taken.availableOf r.account - r.amount)
        { r with state := .active, touched := taken.seconds } true
      refine ⟨fun hb => ?_, fun hb hg => ?_, fun hb hg => ?_⟩
      · rw [hblocked hb] at hstep
        exact leaves hstate hqueue ⟨_, .inr rfl⟩ hstep
      · rw [hlow hb hg] at hstep
        exact leaves hstate hqueue ⟨_, .inr rfl⟩ hstep
      · rw [hgrants hb hg] at hstep
        exact leaves hstate hqueue ⟨.holdGone 0 0, .inl rfl⟩ hstep

/-- A request to keep a hold (R93, R96). -/
theorem event_holdKeep (h : s.part.AtRest) (hremote : source ≠ s.part.config.values.station)
    (hf : f s.part = (s.part.taken ahead behind).assign .hold [.keep source holdId job]) :
    let taken : Part := { s.part with line := { s.part.line with inbound := ahead ++ behind } }
    let gone := event s f = .next { s with part := (taken.sendFrame source (.holdGone holdId job)).alert }
    let touches := fun (slot : Nat) (value : HoldRecord) (change : Nat → Nat) (P : Prop) =>
      ∃ t, event s f = .next t ∧
        t =
          { s with
            part :=
              ({ taken with
                  accounts := { s.part.accounts with held := t.part.accounts.held }
                  store := { s.part.store with queue := [{ write := .hold slot (some value), notes := [] }] } } : Part).alert } ∧
        (P → ∀ n, t.part.held n = change n)
    (job = 0 → event s f = .next { s with part := taken.alert }) ∧
      (job ≠ 0 → ownHold s.part.ledger source holdId job = none → gone) ∧
      ∀ slot r, ownHold s.part.ledger source holdId job = some (slot, r) → job ≠ 0 →
        (r.state = .active → s.part.store.queue = [] →
            touches slot { r with touched := s.part.now / 1000 } s.part.held
              (tableGet s.part.ledger.holds slot = some r ∧ r.amount ≤ s.part.held r.account ∧ Rising s.part.accounts.held)) ∧
          (r.state = .settling → gone) ∧ (r.state = .lapsed → s.part.availableOf r.account < r.amount → gone) ∧
          (r.state = .lapsed → r.amount ≤ s.part.availableOf r.account → s.part.store.queue = [] →
            touches slot { r with state := .active, touched := s.part.now / 1000 }
              (fun n => s.part.held n + if n = r.account then r.amount else 0)
              (tableGet s.part.ledger.holds slot = some r ∧ Rising s.part.accounts.held)) := by
  intro taken gone touches
  have htaken : taken.Calm := (h.taken ahead behind).calm
  have hready : taken.Ready (.keep source holdId job) := .inr fun _ => rfl
  have hstep : (Task.keep source holdId job).step taken = some (taken.takeKeep source holdId job) := rfl
  refine ⟨fun hjob => ?none, fun hjob hnone => ?unknown, fun slot r hfound hjob => ?own⟩
  case none =>
    have hnothing : taken.takeKeep source holdId job = (taken, []) := if_pos hjob
    rw [hnothing] at hstep
    exact event_holdDone h hf hstep hready htaken rfl rfl
  case unknown =>
    rw [(Part.takeKeep_cases (p := taken) hjob).1 hnone, Part.answerGone_sends (p := taken) hremote] at hstep
    exact event_holdAnswers h hf hstep hready
  case own =>
    obtain ⟨hactive, hsettling, hshort, hcovers⟩ := (Part.takeKeep_cases (p := taken) hjob).2 slot r hfound
    refine ⟨fun hstate hqueue => ?_, fun hstate => ?_, fun hstate hs => ?_, fun hstate hc hqueue => ?_⟩
    · rw [hactive hstate] at hstep
      refine event_holdLeaves h hf hstep hready htaken rfl rfl rfl hqueue fun ⟨hslot, hle, hrising⟩ n => ?_
      have hsame := Part.heldPost_enlarged (p := taken) hrising hslot hstate hle 0 (s.part.now / 1000) [] n
      rw [ite_self] at hsame
      exact hsame
    · rw [hsettling hstate, Part.answerGone_sends (p := taken) hremote] at hstep
      exact event_holdAnswers h hf hstep hready
    · rw [hshort hstate hs, Part.answerGone_sends (p := taken) hremote] at hstep
      exact event_holdAnswers h hf hstep hready
    · rw [hcovers hstate hc] at hstep
      exact event_holdLeaves h hf hstep hready htaken rfl rfl rfl hqueue fun ⟨hslot, hrising⟩ n =>
        Part.heldPost_restored (p := taken) hrising hslot (by rw [hstate]; decide) r.amount _ _ n

end

/-! ### The sweep (R97, R98, R99) -/

section
variable {s : State} {due : Nat}

/-- The part whose next visit is due (R97, R104). -/
def Part.sweptAt (p : Part) (due : Nat) : Part := { p with holds := { p.holds with due := some (nextSweep due p.now) } }

theorem sweep_visits (h : s.part.AtRest) (hdue : s.part.holds.due = some due) (hcome : due ≤ s.part.now) :
    inService Part.sweep s.part = s.part.sweepVisit due := by
  rw [inService_serving h.1]
  unfold Part.sweep
  rw [hdue]
  exact if_neg (by simp [Part.busy_none h.2.1, hcome])

/-- A visit that has not come is not made (R97). -/
theorem exec_sweepVisit_early (h : s.part.AtRest) (hdue : s.part.holds.due = some due) (hcome : s.part.now < due) :
    exec .sweepVisit s = .next { s with part := s.part.alert } := by
  refine event_ignored h ?_
  rw [inService_serving h.1]
  unfold Part.sweep
  rw [hdue]
  exact if_pos (by simp [hcome])

/-- A visit that finds nothing to do (R97). -/
theorem exec_sweepVisit_passes (h : s.part.AtRest) (hdue : s.part.holds.due = some due) (hcome : due ≤ s.part.now)
    (hnone : s.part.sweepTasks s.part.holds.pointer = []) :
    exec .sweepVisit s = .next { s with part := ((s.part.sweptAt due).advanceSweep).alert } := by
  refine event_rest h ((sweep_visits h hdue hcome).trans ?_) ⟨rfl, rfl, rfl, rfl, rfl, rfl, rfl, rfl⟩
    (Part.freeSlots_congr ⟨rfl, rfl, rfl, rfl⟩)
  unfold Part.sweepVisit
  rw [hnone]
  rfl

/-- What the sweep does at a slot (R97, R98, R99). -/
theorem sweepTasks_cases (p : Part) (slot : Nat) :
    (tableGet p.ledger.holds slot = none → p.sweepTasks slot = []) ∧
      ∀ r, tableGet p.ledger.holds slot = some r →
        (r.state = .settling → p.sweepTasks slot = []) ∧
          (r.state = .active → p.seconds - r.touched < p.config.values.lifetime → p.sweepTasks slot = []) ∧
          (r.state = .active → p.config.values.lifetime ≤ p.seconds - r.touched →
            p.sweepTasks slot = [.putHold slot { r with state := .lapsed, touched := p.seconds } []]) ∧
          (r.state = .lapsed → p.seconds - r.touched < 3600 * p.config.values.grace → p.sweepTasks slot = []) ∧
          (r.state = .lapsed → 3600 * p.config.values.grace ≤ p.seconds - r.touched →
            p.sweepTasks slot = [.journal (lapseBody r .sweep), .dropHold slot]) := by
  refine ⟨fun hnone => ?_, fun r hslot => ⟨fun hstate => ?_, fun hstate hyoung => ?_, fun hstate hold => ?_, fun hstate hyoung => ?_,
    fun hstate hold => ?_⟩⟩ <;> unfold Part.sweepTasks
  · rw [hnone]
  · rw [hslot]
    dsimp only
    rw [hstate]
  · rw [hslot]
    dsimp only
    rw [hstate]
    exact if_neg (by omega)
  · rw [hslot]
    dsimp only
    rw [hstate]
    exact if_pos hold
  · rw [hslot]
    dsimp only
    rw [hstate]
    exact if_neg (by omega)
  · rw [hslot]
    dsimp only
    rw [hstate]
    exact if_pos (by omega)

/-- A visit that posts (R97, R98, R99). -/
theorem exec_sweepVisit_works {t : Task} {tasks : List Task} {q : Part} {n : Nat} (h : s.part.AtRest)
    (hdue : s.part.holds.due = some due) (hcome : due ≤ s.part.now) (htasks : s.part.sweepTasks s.part.holds.pointer = t :: tasks)
    (hworks : (s.part.sweptAt due).Works n (t :: tasks ++ [.advanceSweep]) q) (hn : n ≤ 4096)
    (hfree : q.freeSlots = s.part.freeSlots ∨ 16 < q.freeSlots) : exec .sweepVisit s = .next { s with part := q.alert } := by
  obtain ⟨hs, hwork, hpending, -⟩ := id h
  have hcalm : (s.part.sweptAt due).Calm := h.calm.same ⟨rfl, rfl, rfl, rfl, rfl⟩
  have hf : inService Part.sweep s.part = (s.part.sweptAt due).assign .hold (t :: tasks ++ [.advanceSweep]) := by
    rw [sweep_visits h hdue hcome]
    unfold Part.sweepVisit
    rw [htasks]
    rfl
  have hlow : q.journalLow s.part = q := by
    rcases hfree with hfree | hfree
    · exact Part.journalLow_same hfree
    · exact if_neg (by simp [hfree])
  show event s (inService Part.sweep) = _
  rw [event_works (p := s.part.sweptAt due) hf hs hwork hpending (List.cons_ne_nil _ _) (Part.reactIdle_path rfl) hcalm.react_withWork rfl
    hworks hn, hlow]

theorem Works.advanceSweep {p : Part} (hcalm : p.Calm) (hwork : p.store.work = []) (hpending : p.store.pending = []) :
    p.Works 1 [.advanceSweep] p.advanceSweep :=
  .calm (more := []) rfl (.inr fun _ => rfl) hwork hpending (hcalm.same ⟨rfl, rfl, rfl, rfl, rfl⟩) (.done _)

/-- The record dropped by the sweep, journalled first (R99, R171). -/
def Part.sweptAway (p : Part) (slot : Nat) (r : HoldRecord) : Part :=
  (p.joined (p.bodyPosts (lapseBody r .sweep))).heldPost slot none []

theorem Part.sweptAway_works {p : Part} (hcalm : p.Calm) (hwork : p.store.work = []) (hpending : p.store.pending = [])
    (hqueue : p.store.queue = []) (hfree : 1 ≤ p.freeSlots) (slot : Nat) (r : HoldRecord) :
    p.Works 5 [.journal (lapseBody r .sweep), .dropHold slot, .advanceSweep] (p.sweptAway slot r).advanceSweep := by
  let told := p.joined (p.bodyPosts (lapseBody r .sweep))
  have htold : told.Calm := hcalm.joined _
  have htwo : told.store.queue.length < 8 := by
    show (p.store.queue ++ _).length < 8
    rw [hqueue]
    exact (by decide : 2 < 8)
  have hdrop : (Task.dropHold slot).step told = some (told.heldPost slot none [], []) := by
    show (told.changeHold slot none []).map _ = _
    rw [changeHold_eq htwo]
    rfl
  refine .journal (n := 2) rfl hcalm hwork hpending (by rw [hqueue]; decide) (by simp [hqueue]) (by simp [hqueue]) hfree ?_
  refine .calm (p := told) hdrop (.inl htwo) hwork hpending (htold.heldPost _ _ _) ?_
  exact Works.advanceSweep (htold.heldPost _ _ _) hwork hpending

theorem Part.sweptAway_freeSlots {p : Part} (hpending : p.store.pending = []) (slot : Nat) (r : HoldRecord) :
    p.freeSlots - 1 ≤ ((p.sweptAway slot r).advanceSweep).freeSlots := by
  let told := p.joined (p.bodyPosts (lapseBody r .sweep))
  have hsame : (told.heldPost slot none []).freeSlots = told.freeSlots := heldPost_freeSlots (p := told) hpending slot none []
  have hadvance : ((p.sweptAway slot r).advanceSweep).freeSlots = (told.heldPost slot none []).freeSlots :=
    freeSlots_congr ⟨rfl, rfl, rfl, rfl⟩
  rw [hadvance, hsame]
  exact bodyPosts_freeSlots (p := p) hpending _

/-- A LAPSED record that is dropped was not held (R86, R99). -/
theorem Part.sweptAway_held {p : Part} (hpending : p.store.pending = []) (hrising : Rising p.accounts.held) {slot : Nat} {r : HoldRecord}
    (hslot : tableGet p.ledger.holds slot = some r) (hstate : r.state ≠ .active) (n : Nat) :
    ((p.sweptAway slot r).advanceSweep).held n = p.held n := by
  have hledger : (p.joined (p.bodyPosts (lapseBody r .sweep))).ledger.holds = p.ledger.holds := by
    unfold bodyPosts
    rw [← List.singleton_append, ← joined_joined, newestFree_joined (by exact hpending), newestFree_joined hpending]
    rfl
  exact heldPost_removed (p := p.joined (p.bodyPosts (lapseBody r .sweep))) hrising (by rw [hledger]; exact hslot) hstate [] n

end

/-- Settles O51: each request by the state of the record that it belongs to, and each visit by the state and the age of its slot. -/
theorem holdsAreEnlargedKeptAndSwept : Obligations.HoldsAreEnlargedKeptAndSwept := by
  refine ⟨?more, ?restores, ?keep, ?keeps, ?sweep, ?drops⟩
  case more =>
    intro s ahead behind source dest holdId job increment h hinbound hahead hremote hjob
    exact event_holdMore h hremote hjob (holdMore_takes h hinbound hahead)
  case restores =>
    intro s ahead behind source dest holdId job increment h hinbound hahead hremote
    exact event_holdMore_restores h hremote (holdMore_takes h hinbound hahead)
  case keep =>
    intro s ahead behind source dest holdId job h hinbound hahead hremote hjob taken
    obtain ⟨-, hnone, hown⟩ := event_holdKeep h hremote (holdKeep_takes h hinbound hahead)
    refine ⟨hnone hjob, fun slot r hfound hstate hqueue => ?_⟩
    obtain ⟨t, hevent, ht, hheld⟩ := (hown slot r hfound hjob).1 hstate hqueue
    exact ⟨t, hevent, ht, fun hslot hle hrising => hheld ⟨hslot, hle, hrising⟩⟩
  case keeps =>
    intro s ahead behind source dest holdId job h hinbound hahead hremote taken gone
    obtain ⟨hzero, -, hown⟩ := event_holdKeep h hremote (holdKeep_takes h hinbound hahead)
    refine ⟨hzero, fun slot r hfound hjob => ?_⟩
    obtain ⟨-, hsettling, hshort, hcovers⟩ := hown slot r hfound hjob
    refine ⟨hsettling, hshort, fun hstate hc hqueue => ?_⟩
    obtain ⟨t, hevent, ht, hheld⟩ := hcovers hstate hc hqueue
    exact ⟨t, hevent, ht, fun hslot hrising => hheld ⟨hslot, hrising⟩⟩
  case sweep =>
    intro s due h hdue slot visited
    obtain ⟨hs, hwork, hpending, -⟩ := id h
    obtain ⟨hnone, hrecord⟩ := sweepTasks_cases s.part s.part.holds.pointer
    refine ⟨fun hcome => exec_sweepVisit_early h hdue hcome, fun hcome hempty => exec_sweepVisit_passes h hdue hcome (hnone hempty),
      fun r hslot hcome hstate => ?_⟩
    obtain ⟨-, hyoung, hold, -⟩ := hrecord r hslot
    refine ⟨fun hage => exec_sweepVisit_passes h hdue hcome (hyoung hstate hage), fun hage hqueue => ?_⟩
    let swept := s.part.sweptAt due
    let lapsed := swept.heldPost s.part.holds.pointer (some { r with state := .lapsed, touched := s.part.now / 1000 }) []
    have hcalm : swept.Calm := h.calm.same ⟨rfl, rfl, rfl, rfl, rfl⟩
    have hworks : swept.Works 2 _ lapsed.advanceSweep :=
      .putHold (p := swept) hcalm hwork hpending (by show s.part.store.queue.length < 8; rw [hqueue]; decide)
        (Works.advanceSweep (hcalm.heldPost _ _ _) hwork hpending)
    have hfree : lapsed.advanceSweep.freeSlots = s.part.freeSlots := by
      have hsame := Part.heldPost_freeSlots (p := swept) hpending s.part.holds.pointer
        (some { r with state := .lapsed, touched := s.part.now / 1000 }) []
      exact (Part.freeSlots_congr ⟨rfl, rfl, rfl, rfl⟩).trans (hsame.trans (Part.freeSlots_congr ⟨rfl, rfl, rfl, rfl⟩))
    have hresult := Part.heldPost_alone (p := swept) hqueue s.part.holds.pointer
      (some { r with state := .lapsed, touched := s.part.now / 1000 }) []
    refine ⟨_, exec_sweepVisit_works h hdue hcome (hold hstate hage) hworks (by decide) (.inl hfree),
      congrArg (fun q : Part => ({ s with part := q.advanceSweep.alert } : State)) hresult,
      fun hrising n => Part.heldPost_lapsed (p := swept) hrising hslot hstate _ [] n⟩
  case drops =>
    intro s due r h hdue hcome hslot slot visited
    obtain ⟨hs, hwork, hpending, -⟩ := id h
    obtain ⟨hsettling, -, -, hyoung, hold⟩ := (sweepTasks_cases s.part s.part.holds.pointer).2 r hslot
    refine ⟨fun hstate => exec_sweepVisit_passes h hdue hcome (hsettling hstate),
      fun hstate hage => exec_sweepVisit_passes h hdue hcome (hyoung hstate hage), fun hstate hage hqueue hroom => ?_⟩
    intro sequence
    let swept := s.part.sweptAt due
    have hcalm : swept.Calm := h.calm.same ⟨rfl, rfl, rfl, rfl, rfl⟩
    have hsweptFree : swept.freeSlots = s.part.freeSlots := Part.freeSlots_congr ⟨rfl, rfl, rfl, rfl⟩
    have hworks := Part.sweptAway_works (p := swept) hcalm hwork hpending hqueue (by rw [hsweptFree]; omega) s.part.holds.pointer r
    have hfree := Part.sweptAway_freeSlots (p := swept) hpending s.part.holds.pointer r
    rw [hsweptFree] at hfree
    refine ⟨_, exec_sweepVisit_works h hdue hcome (hold hstate hage) hworks (by decide) (.inr (by omega)), ?_,
      fun hrising n => Part.sweptAway_held (p := swept) hpending hrising hslot (by rw [hstate]; decide) n⟩
    have hresult := Part.joined_alone (p := swept) hqueue (swept.bodyPosts (lapseBody r .sweep))
    unfold Part.sweptAway
    rw [hresult]
    rfl

end Sys2Proof.Machine
end


section
/-! Proofs that the close walk carries each record once, at most four slot writes at a time (R116, R117, R119, R120). -/

-- One theorem after another: many small theorems elaborated at once need more threads than the check allows.
set_option Elab.async false

namespace Sys2Proof.Machine

open Sys2Proof

/-! ### The slots that the walk carries (R117) -/

theorem walkCarries_eq (pointer number : Nat) (e : Nat × AccountSlot) :
    walkCarries pointer number e = (decide (pointer ≤ e.1) && decide (e.1 < Config.accountSlots) && carries number e.2) := by
  obtain ⟨slot, value⟩ := e
  cases value <;> rfl

/-- The next slot that the walk carries is the first of those that it carries (R117). -/
theorem nextCarried_eq (t : Table AccountSlot) (pointer number : Nat) :
    nextCarried t pointer number = ((t.filter (walkCarries pointer number)).head?).map Prod.fst := by
  have hsame : (fun e : Nat × AccountSlot => decide (pointer ≤ e.1) && decide (e.1 < Config.accountSlots) && carries number e.2) =
      walkCarries pointer number := funext fun e => (walkCarries_eq pointer number e).symm
  unfold nextCarried
  rw [hsame, List.head?_filter]

theorem walkCarries_used {pointer number : Nat} {e : Nat × AccountSlot} (h : walkCarries pointer number e = true) :
    ∃ a, e.2 = .used a ∧ a.closedPeriod < number := by
  obtain ⟨slot, value⟩ := e
  cases value with
  | vacated => simp [walkCarries] at h
  | used a =>
    simp only [walkCarries, Bool.and_eq_true, decide_eq_true_eq] at h
    exact ⟨a, rfl, h.2⟩

theorem filter_tablePut {α : Type} {t : Table α} {k : Nat} {v : α} {test : Nat × α → Bool} (h : ∀ w, test (k, w) = false) :
    (tablePut t k v).filter test = t.filter test := by
  induction t with
  | nil => simp [tablePut, h]
  | cons x t ih =>
    obtain ⟨i, w⟩ := x
    unfold tablePut
    split
    · simp [h]
    · split
      · subst_vars
        simp [h]
      · rw [List.filter_cons, List.filter_cons, ih]

/-- Once a record has been carried, the walk carries those behind it (R117). -/
theorem walkCarries_rest {t : Table AccountSlot} (ht : Rising t) {pointer number slot : Nat} {v : AccountSlot}
    {rest : List (Nat × AccountSlot)} (hdue : t.filter (walkCarries pointer number) = (slot, v) :: rest) (value : AccountSlot) :
    (tablePut t slot value).filter (walkCarries (slot + 1) number) = rest := by
  have hrising : ((slot, v) :: rest).Pairwise (fun a b => a.1 < b.1) := hdue ▸ List.Pairwise.filter _ ht
  obtain ⟨hlow, -⟩ := List.pairwise_cons.mp hrising
  have hpointer : pointer ≤ slot := by
    have hmem : (slot, v) ∈ t.filter (walkCarries pointer number) := by rw [hdue]; exact List.mem_cons_self
    have htest := (List.mem_filter.mp hmem).2
    simp only [walkCarries_eq, Bool.and_eq_true, decide_eq_true_eq] at htest
    exact htest.1.1
  have hsplit : t.filter (walkCarries (slot + 1) number) =
      (t.filter (walkCarries pointer number)).filter (fun e => decide (slot < e.1)) := by
    rw [List.filter_filter]
    refine List.filter_congr fun e _ => ?_
    rw [walkCarries_eq, walkCarries_eq]
    by_cases hle : slot < e.1
    · have hge : pointer ≤ e.1 := by omega
      simp [hle, hge, Nat.succ_le_of_lt hle]
    · simp [hle]
  rw [filter_tablePut fun w => by simp [walkCarries_eq], hsplit, hdue, List.filter_cons_of_neg (by simp)]
  exact List.filter_eq_self.mpr fun e he => by simpa using hlow e he

theorem walkPosts_used (number slot : Nat) (a : Account) (rest : List (Nat × AccountSlot)) :
    walkPosts number ((slot, .used a) :: rest) =
      { write := .account slot (.used (a.carried number)), notes := [.walk] } :: walkPosts number rest := by
  obtain ⟨n, st, overdrawn, credit⟩ := a
  cases credit <;> rfl

/-! ### The walk as work (R116, R117) -/

/-- The post that ends a walk (R117). -/
def walkEnd (number : Nat) : Post := { write := .period { current := number, walking := false }, notes := [] }

/-- What the walk leaves when it stops: it has carried the first of the slots due, up to four queued in all (R117). -/
def Part.walked (p : Part) (number : Nat) (due : List (Nat × AccountSlot)) : Part :=
  { p with
    accounts :=
      { p.accounts with
        pointer :=
          if due.length < 4 - p.accounts.queued then 512
          else (((due.take (4 - p.accounts.queued)).getLast?).map (fun e => e.1 + 1)).getD p.accounts.pointer
        queued := p.accounts.queued + (due.take (4 - p.accounts.queued)).length }
    store :=
      { p.store with
        queue :=
          p.store.queue ++
            (walkPosts number (due.take (4 - p.accounts.queued)) ++
              if due = [] ∧ p.accounts.queued = 0 then [walkEnd number] else []) } }

namespace Part

theorem Calm.walked {p : Part} (h : p.Calm) (number : Nat) (due : List (Nat × AccountSlot)) : (p.walked number due).Calm :=
  h.same ⟨rfl, rfl, rfl, rfl, rfl⟩

theorem tryPost_appends {p : Part} {w : Write} (hplace : p.store.queue.length < 8) (hmerges : p.store.merges w = false)
    (notes : List Note) : p.tryPost w notes = some (p.joined [{ write := w, notes := notes }]) := by
  have hhas : p.store.hasPlace w = true := by
    unfold Store.hasPlace
    rw [hmerges, Bool.or_false]
    exact decide_eq_true hplace
  unfold tryPost
  rw [if_pos hhas]
  unfold Store.post
  rw [if_neg (by simp [hmerges])]
  rfl

/-- With four slot writes queued the walk waits (R117). -/
theorem walked_full {p : Part} {number : Nat} {due : List (Nat × AccountSlot)} (h : 4 ≤ p.accounts.queued) : p.walked number due = p := by
  have hzero : 4 - p.accounts.queued = 0 := by omega
  have hnot : ¬(due = [] ∧ p.accounts.queued = 0) := fun hd => by omega
  unfold walked
  simp only [hzero, List.take_zero, List.length_nil, Nat.not_lt_zero, if_false, List.getLast?_nil, Option.map_none, Option.getD_none,
    Nat.add_zero, walkPosts, List.filterMap_nil, List.nil_append, if_neg hnot, List.append_nil]

/-- With none left to carry and a write still queued the walk waits for it (R117). -/
theorem walked_nil_waits {p : Part} {number : Nat} (h : p.accounts.queued < 4) (hwrites : p.accounts.queued ≠ 0) :
    p.walked number [] = { p with accounts := { p.accounts with pointer := 512 } } := by
  have hroom : 0 < 4 - p.accounts.queued := by omega
  unfold walked
  simp only [List.length_nil, hroom, if_true, List.take_nil, Nat.add_zero, walkPosts, List.filterMap_nil, List.nil_append, hwrites,
    and_false, if_false, List.append_nil]

/-- With none left to carry and no write queued the walk ends (R117). -/
theorem walked_nil_ends {p : Part} {number : Nat} (h : p.accounts.queued = 0) :
    p.walked number [] = ({ p with accounts := { p.accounts with pointer := 512 } } : Part).joined [walkEnd number] := by
  have hroom : 0 < 4 - p.accounts.queued := by omega
  unfold walked
  rw [if_pos (show ([] : List (Nat × AccountSlot)).length < 4 - p.accounts.queued from hroom), if_pos ⟨rfl, h⟩, List.take_nil]
  rfl

/-- The part in which the walk has carried one record (R117). -/
def carriedSlot (p : Part) (number slot : Nat) (a : Account) : Part :=
  { p.joined [{ write := .account slot (.used (a.carried number)), notes := [.walk] }] with
    accounts := { p.accounts with pointer := slot + 1, queued := p.accounts.queued + 1 } }

/-- Carrying one record, then the rest (R117). -/
theorem walked_cons {p : Part} {number slot : Nat} {a : Account} {rest : List (Nat × AccountSlot)} (hroom : p.accounts.queued < 4) :
    p.walked number ((slot, .used a) :: rest) = (p.carriedSlot number slot a).walked number rest := by
  obtain ⟨k, hk⟩ : ∃ k, 4 - p.accounts.queued = k + 1 := ⟨3 - p.accounts.queued, by omega⟩
  have hk' : 4 - (p.accounts.queued + 1) = k := by omega
  have hpointer : (if rest.length + 1 < k + 1 then 512
      else (((((slot, AccountSlot.used a) :: rest).take (k + 1)).getLast?).map (fun e => e.1 + 1)).getD p.accounts.pointer) =
      if rest.length < k then 512 else (((rest.take k).getLast?).map (fun e => e.1 + 1)).getD (slot + 1) := by
    by_cases hlt : rest.length < k
    · rw [if_pos hlt, if_pos (by omega)]
    · rw [if_neg hlt, if_neg (by omega), List.take_succ_cons, List.getLast?_cons]
      cases (rest.take k).getLast? <;> rfl
  have hqueued : p.accounts.queued + (((slot, AccountSlot.used a) :: rest).take (k + 1)).length =
      p.accounts.queued + 1 + (rest.take k).length := by
    rw [List.take_succ_cons, List.length_cons]
    omega
  have hqueue : p.store.queue ++ (walkPosts number (((slot, AccountSlot.used a) :: rest).take (k + 1)) ++
        if (slot, AccountSlot.used a) :: rest = [] ∧ p.accounts.queued = 0 then [walkEnd number] else []) =
      p.store.queue ++ [{ write := .account slot (.used (a.carried number)), notes := [.walk] }] ++
        (walkPosts number (rest.take k) ++ if rest = [] ∧ p.accounts.queued + 1 = 0 then [walkEnd number] else []) := by
    rw [List.take_succ_cons, walkPosts_used, if_neg (by simp), if_neg (by simp)]
    simp
  have haccounts : (p.walked number ((slot, .used a) :: rest)).accounts = ((p.carriedSlot number slot a).walked number rest).accounts := by
    unfold walked carriedSlot
    dsimp only
    rw [hk, hk', List.length_cons, hpointer, hqueued]
  have hstore : (p.walked number ((slot, .used a) :: rest)).store = ((p.carriedSlot number slot a).walked number rest).store := by
    unfold walked carriedSlot joined
    dsimp only
    rw [hk, hk', hqueue]
  unfold walked at haccounts hstore ⊢
  dsimp only at haccounts hstore
  rw [haccounts, hstore]
  rfl

/-- The walk goes on until four of its writes are queued, or every slot is visited (R117). -/
theorem walk_works (number : Nat) : ∀ (due : List (Nat × AccountSlot)) (p : Part), p.Calm → p.store.work = [] → p.store.pending = [] →
    p.ledger.period.walking = true → p.ledger.period.current = number → Rising p.ledger.accounts → p.accounts.pendingClose = none →
    p.accounts.queued ≤ 4 → p.ledger.accounts.filter (walkCarries p.accounts.pointer number) = due →
    p.store.queue.length + (due.take (4 - p.accounts.queued)).length < 8 →
    (∀ post ∈ p.store.queue, ∀ e ∈ due, post.write.name ≠ .account e.1) →
    (p.accounts.queued = 0 → ∀ v, p.store.merges (.period v) = false) →
    ∃ n, n ≤ 2 * (due.take (4 - p.accounts.queued)).length + 2 ∧ p.Works n [.walk] (p.walked number due) := by
  intro due
  induction due with
  | nil =>
    intro p hcalm hwork hpending hwalking hcurrent hrising hclose hqueued hdue hplace _ hend
    have hplace' : p.store.queue.length < 8 := by simpa using hplace
    by_cases hfour : 4 ≤ p.accounts.queued
    · have hstep : (Task.walk).step p = some (p, []) := by
        show some p.visitSlots = _
        unfold visitSlots
        rw [if_pos (by simp [hfour])]
      rw [walked_full hfour]
      exact ⟨1, by omega, .calm hstep (.inr fun _ => rfl) hwork hpending hcalm (.done _)⟩
    · let visited : Part := { p with accounts := { p.accounts with pointer := 512 } }
      have hcalm' : visited.Calm := hcalm.same ⟨rfl, rfl, rfl, rfl, rfl⟩
      have hstep : (Task.walk).step p = some (visited, if p.accounts.queued = 0 then [.endWalk] else []) := by
        show some p.visitSlots = _
        unfold visitSlots
        rw [if_neg (by simp [hfour, hwalking]), nextCarried_eq, hcurrent, hdue]
        rfl
      have hroom : 0 < 4 - p.accounts.queued := by omega
      by_cases hzero : p.accounts.queued = 0
      · rw [if_pos hzero] at hstep
        have hjoins := tryPost_appends (p := visited) (w := (walkEnd number).write) hplace' (hend hzero _) []
        have hendStep : (Task.endWalk).step visited = some (visited.joined [walkEnd number], []) := by
          have hcurrent' : visited.ledger.period.current = number := hcurrent
          show visited.stepEndWalk = _
          unfold stepEndWalk
          rw [hcurrent', show visited.tryPost (.period { current := number, walking := false }) [] =
            some (visited.joined [walkEnd number]) from hjoins, Option.map_some]
          rw [show (visited.joined [walkEnd number]).accounts.pendingClose = none from hclose]
        rw [walked_nil_ends hzero]
        exact ⟨2, by omega, .calm hstep (.inr fun _ => rfl) hwork hpending hcalm'
          (.calm hendStep (.inl hplace') hwork hpending (hcalm'.joined _) (.done _))⟩
      · rw [if_neg hzero] at hstep
        rw [walked_nil_waits (by omega) hzero]
        exact ⟨1, by omega, .calm hstep (.inr fun _ => rfl) hwork hpending hcalm' (.done _)⟩
  | cons e rest ih =>
    intro p hcalm hwork hpending hwalking hcurrent hrising hclose hqueued hdue hplace hnames hend
    by_cases hfour : 4 ≤ p.accounts.queued
    · have hstep : (Task.walk).step p = some (p, []) := by
        show some p.visitSlots = _
        unfold visitSlots
        rw [if_pos (by simp [hfour])]
      rw [walked_full hfour]
      exact ⟨1, by omega, .calm hstep (.inr fun _ => rfl) hwork hpending hcalm (.done _)⟩
    · obtain ⟨slot, value⟩ := e
      have hmem : (slot, value) ∈ p.ledger.accounts.filter (walkCarries p.accounts.pointer number) := by
        rw [hdue]; exact List.mem_cons_self
      obtain ⟨a, rfl, -⟩ : ∃ a, value = .used a ∧ a.closedPeriod < number := walkCarries_used (List.mem_filter.mp hmem).2
      have hget : tableGet p.ledger.accounts slot = some (.used a) := hrising.mem_iff.mp (List.mem_filter.mp hmem).1
      obtain ⟨k, hk⟩ : ∃ k, 4 - p.accounts.queued = k + 1 := ⟨3 - p.accounts.queued, by omega⟩
      have hlength : p.store.queue.length + 1 + (rest.take k).length < 8 := by
        rw [hk, List.take_succ_cons, List.length_cons] at hplace
        omega
      have hplace' : p.store.queue.length < 8 := by omega
      have hslot : ∀ post ∈ p.store.queue, post.write.name ≠ .account slot := fun post hpost =>
        hnames post hpost (slot, .used a) List.mem_cons_self
      let visited : Part := { p with accounts := { p.accounts with pointer := slot } }
      have hcalm' : visited.Calm := hcalm.same ⟨rfl, rfl, rfl, rfl, rfl⟩
      have hstep : (Task.walk).step p = some (visited, [.carry]) := by
        show some p.visitSlots = _
        unfold visitSlots
        rw [if_neg (by simp [hfour, hwalking]), nextCarried_eq, hcurrent, hdue]
        rfl
      let next := p.carriedSlot number slot a
      have hcarry : (Task.carry).step visited = some (next, [.walk]) := by
        have hcarries : visited.carryOf = some (a.carried number) := by
          unfold carryOf
          rw [show tableGet visited.ledger.accounts visited.accounts.pointer = some (.used a) from hget]
          dsimp only
          rw [show visited.ledger.period.current = number from hcurrent]
        show visited.stepCarry = _
        unfold stepCarry
        rw [hcarries]
        dsimp only
        rw [tryPost_joins (p := visited) (w := .account slot (.used (a.carried number))) hplace' hslot]
        rfl
      have hnext : next.Calm := hcalm.same ⟨rfl, rfl, rfl, rfl, rfl⟩
      have hledger : next.ledger = program p.ledger (.account slot (.used (a.carried number))) := newestFree_joined hpending _
      have hrising' : Rising next.ledger.accounts := by
        rw [hledger]
        exact hrising.put _ _
      have hdue' : next.ledger.accounts.filter (walkCarries next.accounts.pointer number) = rest := by
        rw [hledger]
        exact walkCarries_rest hrising hdue _
      have hnames' : ∀ post ∈ next.store.queue, ∀ e ∈ rest, post.write.name ≠ .account e.1 := by
        intro post hpost e he
        have hlow : ((slot, AccountSlot.used a) :: rest).Pairwise (fun a b => a.1 < b.1) := hdue ▸ List.Pairwise.filter _ hrising
        rcases List.mem_append.mp (show post ∈ p.store.queue ++ [_] from hpost) with hp | hp
        · exact hnames post hp e (List.mem_cons_of_mem _ he)
        · rw [List.mem_singleton.mp hp]
          have hlt := (List.pairwise_cons.mp hlow).1 e he
          intro heq
          have hsame : slot = e.1 := RecordName.account.inj heq
          omega
      have hqueued' : next.accounts.queued = p.accounts.queued + 1 := rfl
      have hlength' : next.store.queue.length + (rest.take (4 - next.accounts.queued)).length < 8 := by
        rw [hqueued', show 4 - (p.accounts.queued + 1) = k by omega]
        show (p.store.queue ++ [_]).length + _ < 8
        simpa using hlength
      obtain ⟨n, hn, hworks⟩ := ih next hnext hwork hpending (by rw [hledger]; exact hwalking) (by rw [hledger]; exact hcurrent) hrising'
        hclose (by rw [hqueued']; omega) hdue' hlength' hnames' (fun hzero => by rw [hqueued'] at hzero; omega)
      have hcount : n + 2 ≤ 2 * (((slot, AccountSlot.used a) :: rest).take (4 - p.accounts.queued)).length + 2 := by
        rw [hqueued', show 4 - (p.accounts.queued + 1) = k by omega] at hn
        rw [hk, List.take_succ_cons, List.length_cons]
        omega
      refine ⟨n + 2, hcount, ?_⟩
      rw [walked_cons (by omega)]
      exact .calm hstep (.inr fun _ => rfl) hwork hpending hcalm' (.calm hcarry (.inl hplace') hwork hpending hnext hworks)

end Part

end Sys2Proof.Machine
end


section
/-! Proofs that PERIOD_CLOSE and ANNOUNCE start the close walk, and that its write-dones carry it on (R116, R117, R119, R120). -/

-- One theorem after another: many small theorems elaborated at once need more threads than the check allows.
set_option Elab.async false

namespace Sys2Proof.Machine

open Sys2Proof

namespace Part

/-- A number that is not above the current period, or comes during a walk (R116, R119). -/
theorem takeClose_cases (p : Part) (number : Nat) :
    (number ≤ p.ledger.period.current → p.takeClose number = (p, [])) ∧
      (p.ledger.period.current < number → p.ledger.period.walking = true →
        p.takeClose number =
          ({ p with accounts := { p.accounts with pendingClose := some (max number (p.accounts.pendingClose.getD 0)) } }, [])) ∧
      (p.ledger.period.current < number → p.ledger.period.walking = false → p.takeClose number = (p, [.startWalk number])) := by
  refine ⟨fun hold => ?_, fun hnew hwalking => ?_, fun hnew hidle => ?_⟩ <;> unfold takeClose <;> dsimp only
  · rw [if_pos hold]
  · rw [if_neg (by omega), if_neg (by simp [hwalking])]
    cases hpending : p.accounts.pendingClose with
    | none =>
      dsimp only
      rw [Option.getD_none, Nat.max_zero]
    | some waiting =>
      dsimp only
      by_cases hless : waiting < number
      · rw [if_pos hless, Option.getD_some, Nat.max_eq_left (by omega)]
      · rw [if_neg hless, Option.getD_some, Nat.max_eq_right (by omega), ← hpending]
  · rw [if_neg (by omega), if_pos (by simp [hidle])]

/-- The posts of the walk leave the journal's free count as it was (R173). -/
theorem walkPosts_freeSlots {p : Part} (hpending : p.store.pending = []) (number : Nat) (due : List (Nat × AccountSlot)) :
    (p.walked number due).freeSlots = p.freeSlots := by
  let posts := walkPosts number (due.take (4 - p.accounts.queued)) ++
    if due = [] ∧ p.accounts.queued = 0 then [walkEnd number] else []
  have hkinds : ∀ post ∈ posts, (∃ slot value, post.write = .account slot value) ∨ ∃ value, post.write = .period value := by
    intro post hpost
    rcases List.mem_append.mp hpost with hp | hp
    · obtain ⟨⟨slot, value⟩, -, he⟩ := List.mem_filterMap.mp hp
      cases value with
      | vacated => cases he
      | used a => exact .inl ⟨slot, _, by rw [← Option.some.inj he]⟩
    · split at hp
      · rw [List.mem_singleton.mp hp]
        exact .inr ⟨_, rfl⟩
      · cases hp
  have hjoined : (p.joined posts).freeSlots = p.freeSlots := freeSlots_joined (p := p) hpending posts fun post hpost l => by
    rcases hkinds post hpost with ⟨slot, value, hw⟩ | ⟨value, hw⟩ <;> rw [hw] <;> exact ⟨rfl, rfl⟩
  exact (freeSlots_congr (p := p.joined posts) ⟨rfl, rfl, rfl, rfl⟩).trans hjoined

/-- A part whose walk has just started (R116). -/
def walkStarted (p : Part) (number : Nat) : Part :=
  { p.joined [{ write := .period { current := number, walking := true }, notes := [] }] with
    accounts := { p.accounts with pointer := 0 } }

/-- A new period starts a walk of the table (R116, R117, R120). -/
theorem close_works {p : Part} {number : Nat} (hcalm : p.Calm) (hwork : p.store.work = []) (hpending : p.store.pending = [])
    (hqueue : p.store.queue = []) (hstart : p.store.starting = false) (hnew : p.ledger.period.current < number)
    (hidle : p.ledger.period.walking = false) (hqueued : p.accounts.queued = 0) (hclose : p.accounts.pendingClose = none)
    (hrising : Rising p.ledger.accounts) :
    ∃ n, n ≤ 12 ∧
      p.Works n [.close number] ((p.walkStarted number).walked number (p.ledger.accounts.filter (walkCarries 0 number))) := by
  let started := p.walkStarted number
  have hstep : (Task.close number).step p = some (p, [.startWalk number]) := congrArg some ((p.takeClose_cases number).2.2 hnew hidle)
  have hstarts : (Task.startWalk number).step p = some (started, [.walk]) := by
    show p.stepStartWalk number = _
    unfold stepStartWalk
    rw [tryPost_joins (p := p) (w := .period { current := number, walking := true }) (by simp [hqueue]) (by simp [hqueue])]
    rfl
  have hcalm' : started.Calm := hcalm.same ⟨rfl, rfl, rfl, rfl, rfl⟩
  have hledger : started.ledger = program p.ledger (.period { current := number, walking := true }) := newestFree_joined hpending _
  have hone : started.store.queue = [{ write := .period { current := number, walking := true }, notes := [] }] := by
    show p.store.queue ++ [_] = _
    rw [hqueue]
    rfl
  have hfew : ((p.ledger.accounts.filter (walkCarries 0 number)).take (4 - started.accounts.queued)).length ≤ 4 :=
    (List.length_take_le _ _).trans (Nat.sub_le _ _)
  obtain ⟨n, hn, hworks⟩ := walk_works number (p.ledger.accounts.filter (walkCarries 0 number)) started hcalm' hwork hpending
    (by rw [hledger]; rfl) (by rw [hledger]; rfl) (by rw [hledger]; exact hrising) hclose (by show p.accounts.queued ≤ 4; omega)
    (by rw [hledger]; rfl) (by rw [hone, List.length_singleton]; omega)
    (fun post hpost e _ => by
      rw [hone, List.mem_singleton] at hpost
      rw [hpost]
      exact RecordName.noConfusion)
    (fun _ v => by
      unfold Store.merges Store.waiting
      rw [show started.store.starting = false from hstart, hone]
      simp)
  exact ⟨n + 2, by omega, .calm hstep (.inr fun _ => rfl) hwork hpending hcalm
    (.calm hstarts (.inl (by simp [hqueue])) hwork hpending hcalm' hworks)⟩

end Part

/-- Where the walk stands when it pauses (R117). -/
theorem walk_pointer (due : List (Nat × AccountSlot)) {room : Nat} (hroom : 0 < room) (pointer : Nat) :
    (if due.length < room then 512 else (((due.take room).getLast?).map (fun e => e.1 + 1)).getD pointer) =
      if due.length < room then 512 else (((due.take room).getLast?).map (fun e => e.1 + 1)).getD 512 := by
  by_cases hlt : due.length < room
  · rw [if_pos hlt, if_pos hlt]
  · rw [if_neg hlt, if_neg hlt]
    cases hlast : (due.take room).getLast? with
    | some e => rfl
    | none =>
      have hempty : due.take room = [] := List.getLast?_eq_none_iff.mp hlast
      have hlength := congrArg List.length hempty
      rw [List.length_take, List.length_nil] at hlength
      omega

section
variable {s : State} {c : Instr} {m : Message} {ahead behind : List InFrame} {source dest number : Nat}

/-- PERIOD_CLOSE and ANNOUNCE are one request of the account table (R116, R119, R120). -/
theorem exec_close (h : s.part.AtRest)
    (hc : c = .periodClose ∧ m = .periodClose number ∨ c = .announce ∧ m = .announce number)
    (hinbound : s.part.line.inbound = ahead ++ { source := source, dest := dest, message := m } :: behind)
    (hahead : ∀ f ∈ ahead, f.message.isAccountFrame = false) :
    ∃ f : Part → Part, exec c s = event s f ∧ f s.part = (s.part.taken ahead behind).assign .account [.close number] := by
  rcases hc with ⟨rfl, rfl⟩ | ⟨rfl, rfl⟩
  · exact ⟨_, rfl, Part.account_takes h hinbound hahead rfl _⟩
  · exact ⟨_, rfl, Part.account_takes h hinbound hahead rfl _⟩

/-- A request of the account table whose work is one step that posts nothing. -/
theorem event_accountDone {f : Part → Part} {q : Part} (h : s.part.AtRest)
    (hf : f s.part = (s.part.taken ahead behind).assign .account [.close number])
    (hstep : (s.part.taken ahead behind).takeClose number = (q, [])) (hcalm : q.Calm) (hstore : q.store = s.part.store)
    (hjournal : q.journal = s.part.journal) : event s f = .next { s with part := q.alert } := by
  obtain ⟨hs, hwork, hpending, -⟩ := id h
  let taken := s.part.taken ahead behind
  have htaken : taken.Calm := (h.taken ahead behind).calm
  have hworks : taken.Works 1 [.close number] q :=
    .calm (congrArg some hstep) (.inr fun _ => rfl) (by rw [hstore]; exact hwork) (by rw [hstore]; exact hpending) hcalm (.done _)
  have hfree : q.freeSlots = s.part.freeSlots :=
    Part.freeSlots_congr ⟨congrArg Store.stored hstore, congrArg Store.queue hstore, congrArg Store.pending hstore, hjournal⟩
  rw [event_works (p := taken) hf hs hwork hpending (List.cons_ne_nil _ _) (Part.reactIdle_path rfl) htaken.react_withWork rfl hworks
    (by decide), Part.journalLow_same hfree]

/-- What the start of a walk leaves (R116, R117). -/
theorem Part.walkStarted_walked {p : Part} (hqueue : p.store.queue = []) (hqueued : p.accounts.queued = 0)
    (due : List (Nat × AccountSlot)) :
    (p.walkStarted number).walked number due =
      { p with
        accounts :=
          { p.accounts with
            pointer := if due.length < 4 then 512 else (((due.take 4).getLast?).map (fun e => e.1 + 1)).getD 512
            queued := (due.take 4).length }
        store :=
          { p.store with
            queue :=
              { write := .period { current := number, walking := true }, notes := [] } ::
                (walkPosts number (due.take 4) ++ if due = [] then [walkEnd number] else []) } } := by
  have hpointer := walk_pointer due (room := 4) (by decide) 0
  unfold walked walkStarted joined
  dsimp only
  rw [hqueue, hqueued, Nat.sub_zero, hpointer, Nat.zero_add]
  simp only [and_true]
  rfl

end

section
variable {s : State} {slot : Nat} {value : AccountSlot} {rest : List Post}

/-- A write-done of the walk takes its write from those queued, and the walk goes on (R117). -/
def Part.walkWritten (p : Part) (slot : Nat) (value : AccountSlot) (rest : List Post) : Part :=
  { p.stored { write := .account slot value, notes := [.walk] } rest with
    accounts := { p.accounts with queued := p.accounts.queued - 1 } }

/-- What a write-done of the walk leaves (R117). -/
theorem Part.walkWritten_walked {p : Part} (hlow : 1 ≤ p.accounts.queued) (hhigh : p.accounts.queued ≤ 4) {number : Nat}
    (due : List (Nat × AccountSlot)) :
    ((p.walkWritten slot value rest).walked number due).setStarting p.store.starting =
      { p with
        accounts :=
          { p.accounts with
            pointer :=
              if due.length < 5 - p.accounts.queued then 512
              else (((due.take (5 - p.accounts.queued)).getLast?).map (fun e => e.1 + 1)).getD 512
            queued := p.accounts.queued - 1 + (due.take (5 - p.accounts.queued)).length }
        store :=
          { p.store with
            stored := program p.store.stored (.account slot value)
            queue :=
              rest ++ walkPosts number (due.take (5 - p.accounts.queued)) ++
                if due = [] ∧ p.accounts.queued = 1 then [walkEnd number] else [] } } := by
  have hroom : 4 - (p.accounts.queued - 1) = 5 - p.accounts.queued := by omega
  have hlast : p.accounts.queued - 1 = 0 ↔ p.accounts.queued = 1 := by omega
  have hpointer := walk_pointer due (room := 5 - p.accounts.queued) (by omega) p.accounts.pointer
  unfold walked walkWritten stored setStarting
  dsimp only
  rw [hroom, hpointer, List.append_assoc]
  simp only [hlast]

theorem exec_writeComplete_walks (h : s.part.AtRest)
    (hqueue : s.part.store.queue = { write := .account slot value, notes := [.walk] } :: rest)
    (hwalking : s.part.ledger.period.walking = true) (hclose : s.part.accounts.pendingClose = none)
    (hlow : 1 ≤ s.part.accounts.queued) (hhigh : s.part.accounts.queued ≤ 4) (hrising : Rising s.part.ledger.accounts) :
    let number := s.part.ledger.period.current
    let due := s.part.ledger.accounts.filter (walkCarries s.part.accounts.pointer number)
    rest.length + (due.take (5 - s.part.accounts.queued)).length < 8 →
    (∀ post ∈ rest, post.write.name ≠ .period ∧ ∀ e ∈ due, post.write.name ≠ .account e.1) →
    exec .writeComplete s =
      .next
        { s with
          part :=
            ({ s.part with
                accounts :=
                  { s.part.accounts with
                    pointer :=
                      if due.length < 5 - s.part.accounts.queued then 512
                      else (((due.take (5 - s.part.accounts.queued)).getLast?).map (fun e => e.1 + 1)).getD 512
                    queued := s.part.accounts.queued - 1 + (due.take (5 - s.part.accounts.queued)).length }
                store :=
                  { s.part.store with
                    stored := program s.part.store.stored (.account slot value)
                    queue :=
                      rest ++ walkPosts number (due.take (5 - s.part.accounts.queued)) ++
                        if due = [] ∧ s.part.accounts.queued = 1 then [walkEnd number] else [] } } : Part).alert } := by
  intro number due hplace hnames
  obtain ⟨hs, hwork, hpending, -⟩ := id h
  let p := s.part.walkWritten slot value rest
  have hcalm : p.Calm := h.calm.same ⟨rfl, rfl, rfl, rfl, rfl⟩
  have hledger : p.ledger = s.part.ledger := Part.stored_ledger hqueue
  have hqueued : p.accounts.queued = s.part.accounts.queued - 1 := rfl
  have hroom : 4 - p.accounts.queued = 5 - s.part.accounts.queued := by omega
  obtain ⟨n, hn, hworks⟩ := Part.walk_works number due p hcalm hwork hpending (by rw [hledger]; exact hwalking) (by rw [hledger])
    (by rw [hledger]; exact hrising) hclose (by omega) (by rw [hledger]; rfl) (by rw [hroom]; exact hplace)
    (fun post hpost => (hnames post hpost).2)
    (fun _ v => by
      have hnone : ¬p.store.waiting.any (fun post => decide (post.write.name = (Write.period v).name)) = true := by
        simp only [List.any_eq_true, decide_eq_true_eq, not_exists, not_and]
        exact fun post hpost => (hnames post (p.store.waiting_subset hpost)).1
      unfold Store.merges
      rw [Bool.eq_false_iff.mpr hnone, Bool.and_false])
  have hassign : p.assign .account [.walk] = p.withWork (worksOf .account [.walk] false) := Part.assign_alone (p := p) hwork _ _
  have hpumps := hworks.pumps .account false hwork hpending
  rw [← hcalm.react_withWork] at hpumps
  have hfew : (due.take (4 - p.accounts.queued)).length ≤ 4 := (List.length_take_le _ _).trans (Nat.sub_le _ _)
  have hfree : (p.walked number due).freeSlots = s.part.freeSlots := by
    refine (Part.walkPosts_freeSlots (p := p) hpending number due).trans ?_
    show journalFree p.ledger s.part.journal.reserved = journalFree s.part.ledger s.part.journal.reserved
    rw [hledger]
  rw [event_writeDone (p := p.withWork (worksOf .account [.walk] false)) h hqueue hassign hs (Part.reactIdle_path rfl) hpumps (by omega)
    (hcalm.walked number due) hwork hpending rfl hfree, Part.walkWritten_walked hlow hhigh]

end

/-- Settles O54: a close is told by its number and the walk's flag, and the walk goes on by induction on the slots that are due. -/
theorem periodClosesWalkTheTable : Obligations.PeriodClosesWalkTheTable := by
  refine ⟨?starts, ?goesOn⟩
  case starts =>
    intro s c m ahead behind source dest number h hc hinbound hahead taken period
    obtain ⟨hs, hwork, hpending, -, -, -, -, hstart⟩ := id h
    have htaken : taken.Calm := (h.taken ahead behind).calm
    obtain ⟨f, hexec, hf⟩ := exec_close h hc hinbound hahead
    obtain ⟨hold, hwaits, -⟩ := taken.takeClose_cases number
    rw [hexec]
    refine ⟨fun hle => event_accountDone h hf (hold hle) htaken rfl rfl,
      fun hlt hwalking => event_accountDone h hf (hwaits hlt hwalking) (htaken.same ⟨rfl, rfl, rfl, rfl, rfl⟩) rfl rfl,
      fun hlt hidle hqueue hqueued hclose hcanonical => ?walk⟩
    intro due first
    have hrising : Rising taken.ledger.accounts := (Ledger.wf.newest hcanonical).1
    obtain ⟨n, hn, hworks⟩ := Part.close_works (p := taken) htaken hwork hpending hqueue hstart hlt hidle hqueued hclose hrising
    have hfree : ((taken.walkStarted number).walked number due).freeSlots = s.part.freeSlots := by
      have hstarted : (taken.walkStarted number).freeSlots = taken.freeSlots :=
        (Part.freeSlots_congr (p := taken.joined [{ write := .period { current := number, walking := true }, notes := [] }])
          ⟨rfl, rfl, rfl, rfl⟩).trans (Part.freeSlots_joined (p := taken) hpending _ fun post hpost l => by
            rw [List.mem_singleton.mp hpost]
            exact ⟨rfl, rfl⟩)
      exact (Part.walkPosts_freeSlots (p := taken.walkStarted number) hpending number due).trans
        (hstarted.trans (Part.freeSlots_congr ⟨rfl, rfl, rfl, rfl⟩))
    have hevent : event s f =
        .next { s with part := (((taken.walkStarted number).walked number due).journalLow s.part).alert } :=
      event_works (p := taken) hf hs hwork hpending (List.cons_ne_nil _ _) (Part.reactIdle_path rfl) htaken.react_withWork rfl hworks
        (by omega)
    rw [hevent, Part.journalLow_same hfree, Part.walkStarted_walked (p := taken) hqueue hqueued]
    subst first
    cases (due.take 4).getLast? <;> rfl
  case goesOn =>
    intro s slot value rest h hqueue hwalking hclose hlow hhigh hrising number due next hplace hnames
    have hevent := exec_writeComplete_walks h hqueue hwalking hclose hlow hhigh hrising hplace hnames
    rw [hevent]
    subst next
    cases (due.take (5 - s.part.accounts.queued)).getLast? <;> rfl

end Sys2Proof.Machine
end


section
/-! Proofs that JOURNAL_RELEASE raises the mark of exported records, and that a free count which falls to 16 raises JOURNAL_LOW (R173, R175, R177). -/

-- One theorem after another: many small theorems elaborated at once need more threads than the check allows.
set_option Elab.async false

namespace Sys2Proof.Machine

open Sys2Proof

/-! ### JOURNAL_LOW (R175) -/

/-- A flag that is raised is set (R184). -/
theorem Panel.isSet_raise_journalLow (panel : Panel) : (panel.raise .journalLow).isSet .journalLow = true := by
  unfold isSet raise
  rw [bne_iff_ne]
  intro hzero
  have hbit := congrArg (fun b : Byte => b.getLsbD 5) hzero
  simp [Alert.mask, Alert.bit] at hbit

namespace Part

/-- What a decision of the part's own leaves JOURNAL_LOW raised after a fall of the free count (R173, R175). -/
theorem journalLow_raises {p before : Part} (hbefore : before.phase = .serving) (hafter : p.phase = .serving)
    (hroom : 16 < before.freeSlots) (hlow : p.freeSlots ≤ 16) : (p.journalLow before).panel.isSet .journalLow = true := by
  unfold journalLow
  rw [if_pos (by simp [serving, hbefore, hafter, hroom, hlow])]
  exact p.panel.isSet_raise_journalLow

/-- The free count reads the store and the reservations alone, which raising a flag leaves as they are (R173). -/
theorem journalLow_freeSlots (p before : Part) : (p.journalLow before).freeSlots = p.freeSlots := by
  unfold journalLow
  split <;> rfl

end Part

/-- A command that takes the free count from above 16 to 16 or less leaves JOURNAL_LOW raised (R175). -/
theorem Instr.result_journalLow {c : Instr} {p : Part} (hbefore : p.phase = .serving) (hafter : (Instr.result c p).phase = .serving)
    (hroom : 16 < p.freeSlots) (hlow : (Instr.result c p).freeSlots ≤ 16) : (Instr.result c p).panel.isSet .journalLow = true := by
  cases hbare : Instr.isBare c with
  | true =>
    have hsame : (Instr.result c p).freeSlots = p.freeSlots := by
      rw [Instr.result_bare hbare]
      rcases Instr.effect_bare hbare p with heffect | ⟨code, result, body, heffect⟩ <;> rw [heffect]
      exact Part.freeSlots_congr ⟨rfl, rfl, rfl, rfl⟩
    omega
  | false =>
    rw [Instr.result_event hbare] at hafter hlow ⊢
    let q := (Instr.effect c p).follow p
    have hphase : q.phase = .serving := ((q.journalLow_frame p).1).symm.trans hafter
    have hfree : q.freeSlots ≤ 16 := (q.journalLow_freeSlots p).symm.trans_le hlow
    exact Part.journalLow_raises hbefore hphase hroom hfree

/-! ### JOURNAL_RELEASE (R177) -/

/-- A request that is refused out of service, decided at rest with its effect on the store alone: what follows it is ALERT. -/
theorem event_decided {s : State} {code : Nat} {decision : Part → Answer} {q : Part} {result : PanelResult} {body : List Byte}
    (h : s.part.AtRest) (ho : s.part.config.outcome ≠ .bad) (hr : s.part.panel.response = none)
    (hd : decision s.part = ⟨q, result, body⟩)
    (hs : q.phase = s.part.phase ∧ q.job = s.part.job ∧ q.path = s.part.path ∧ q.config = s.part.config ∧
      q.permit = s.part.permit ∧ q.store.work = s.part.store.work ∧ q.store.pending = s.part.store.pending ∧
      q.store.starting = s.part.store.starting)
    (hfree : s.part.freeSlots ≤ q.freeSlots) :
    event s (fun p => p.request code false decision) = .next { s with part := (q.answering code result body).alert } := by
  have heffect : s.part.request code false decision = q.answering code result body := by rw [h.request ho hr, hd]
  exact event_atRest heffect (h.same hs) (congrArg PathMonitor.sheets hs.2.2.1) hfree

/-- A mark that rises leaves the journal no fuller (R173). -/
theorem journalFree_releaseMark_le (l : Ledger) {mark : Nat} (h : l.releaseMark ≤ mark) (reserved : Nat) :
    journalFree l reserved ≤ journalFree { l with releaseMark := mark } reserved := by
  unfold journalFree
  show _ ≤ min (_ - ((l.journalSequence : Int) - (mark : Int))) (_ - (l.journalSequence : Int)) - _
  omega

/-- A mark that moves with no place for its post is BUSY, and otherwise it is posted (R164, R177). -/
theorem Part.releaseRequest_moves {p : Part} {upTo : Nat} (hmoves : newMark p.ledger upTo ≠ p.ledger.releaseMark)
    (hmerges : p.store.merges (.counter .releaseMark (newMark p.ledger upTo)) = false) :
    p.releaseRequest upTo =
      if p.store.queue.length < 8 then
        let q := p.joined [{ write := .counter .releaseMark (newMark p.ledger upTo), notes := [] }]
        ⟨q, .ok, q.releaseBody⟩
      else ⟨p, .busy, []⟩ := by
  unfold releaseRequest
  dsimp only
  rw [if_neg hmoves]
  by_cases hplace : p.store.queue.length < 8
  · rw [if_pos hplace, tryPost_appends hplace hmerges]
    rfl
  · have hnone : p.tryPost (.counter .releaseMark (newMark p.ledger upTo)) [] = none := by
      unfold tryPost
      rw [if_neg (by simp [Store.hasPlace, hmerges, Config.queuePlaces, hplace])]
    rw [if_neg hplace, hnone]
    rfl

/-- Settles O34: the decision by whether the mark moves and a place is free; JOURNAL_LOW follows the count after every command. -/
theorem journalReleaseRaisesTheExportMark : Obligations.JournalReleaseRaisesTheExportMark := by
  refine ⟨fun s upTo h ho hr hmerges => ⟨fun hstays => ?stays, fun hmoves hplace => ?posts, fun hmoves hfull => ?busy⟩,
    fun c s t hexec hbefore hafter hroom hlow => ?low⟩
  case stays =>
    refine event_decided (q := s.part) h ho hr ?_ ⟨rfl, rfl, rfl, rfl, rfl, rfl, rfl, rfl⟩ (le_refl _)
    have hmark : newMark s.part.ledger upTo = s.part.ledger.releaseMark := hstays
    show s.part.releaseRequest upTo = _
    unfold Part.releaseRequest
    rw [if_pos hmark, hstays]
    rfl
  case posts =>
    let mark := newMark s.part.ledger upTo
    let q := s.part.joined [{ write := .counter .releaseMark mark, notes := [] }]
    have hledger : q.ledger = { s.part.ledger with releaseMark := mark } := newestFree_joined h.2.2.1 _
    have hbody : q.releaseBody =
        field 4 mark ++ signedField 2 (journalFree { s.part.ledger with releaseMark := mark } s.part.journal.reserved) := by
      unfold Part.releaseBody Part.freeSlots
      rw [hledger]
      rfl
    have hfree : s.part.freeSlots ≤ q.freeSlots := by
      have hrises : s.part.ledger.releaseMark ≤ mark := le_max_left _ _
      have hmore := journalFree_releaseMark_le s.part.ledger hrises s.part.journal.reserved
      unfold Part.freeSlots
      rw [hledger]
      exact hmore
    refine event_decided (q := q) h ho hr ?_ ⟨rfl, rfl, rfl, rfl, rfl, rfl, rfl, rfl⟩ hfree
    show s.part.releaseRequest upTo = _
    rw [Part.releaseRequest_moves hmoves hmerges, if_pos hplace]
    exact congrArg (Answer.mk q .ok) hbody
  case busy =>
    refine event_decided (q := s.part) h ho hr ?_ ⟨rfl, rfl, rfl, rfl, rfl, rfl, rfl, rfl⟩ (le_refl _)
    show s.part.releaseRequest upTo = _
    rw [Part.releaseRequest_moves hmoves hmerges, if_neg (by omega)]
  case low =>
    have hpart := exec_part hexec
    rw [hpart] at hafter hlow ⊢
    exact Instr.result_journalLow hbefore hafter hroom hlow

end Sys2Proof.Machine
end


section
/-! Proofs that a rest starts the head of the outbound queue, or is counted while the line is WITHDRAWN (R143, R144, R151, R152). -/

-- One theorem after another: many small theorems elaborated at once need more threads than the check allows.
set_option Elab.async false

namespace Sys2Proof.Machine

open Sys2Proof

namespace Part

/-- What a rest does, by the line state (R143, R151, R152). -/
theorem rest_active {p : Part} (h : p.line.state = .active) (quiet : Bool) : p.rest quiet = p.startFrame := by
  unfold rest
  rw [h]

theorem rest_guarded {p : Part} (h : p.line.state = .guarded) (quiet : Bool) :
    p.rest quiet = if quiet then p.startFrame else p := by
  unfold rest
  rw [h]

theorem rest_counted {p : Part} (h : p.line.state = .withdrawn) (hrests : p.line.rests < 63) (quiet : Bool) :
    p.rest quiet = p.withLine { p.line with rests := p.line.rests + 1 } := by
  unfold rest
  rw [h]
  exact if_pos (by omega)

theorem rest_ends {p : Part} (h : p.line.state = .withdrawn) (hrests : 63 ≤ p.line.rests) (quiet : Bool) :
    p.rest quiet = p.endWithdrawal := by
  unfold rest
  rw [h]
  exact if_neg (by omega)

theorem rest_silent {p : Part} (h : p.line.state = .silent) (quiet : Bool) : p.rest quiet = p := by
  unfold rest
  rw [h]

theorem quietRest_idle {p : Part} (h : p.line.sending = none) : p.quietRest = p.rest true := by
  unfold quietRest
  rw [h]
  rfl

end Part

/-- What changes the line and the panel alone leaves a part at rest with nothing to follow. -/
theorem event_line {s : State} {f : Part → Part} (h : s.part.AtRest) {line : Line} {panel : Panel}
    (hf : f s.part = { s.part with line := line, panel := panel }) :
    event s f = .next { s with part := ({ s.part with line := line, panel := panel } : Part).alert } :=
  event_rest h hf ⟨rfl, rfl, rfl, rfl, rfl, rfl, rfl, rfl⟩ (Part.freeSlots_congr ⟨rfl, rfl, rfl, rfl⟩)

/-- A frame handed over by a part at rest leaves nothing to follow (R146). -/
theorem event_announces {s : State} {f : Part → Part} (h : s.part.AtRest) {line : Line} {panel : Panel} {dest : Nat} {m : Message}
    (hf : f s.part = ({ s.part with line := line, panel := panel } : Part).sendFrame dest m) :
    event s f = .next { s with part := (({ s.part with line := line, panel := panel } : Part).sendFrame dest m).alert } := by
  have hline := ({ s.part with line := line, panel := panel } : Part).sendFrame_eq dest m
  rw [hline] at hf ⊢
  exact event_line h hf

/-- Settles O58: by the line state; during a send the rest does nothing, and contention lost ends the send. -/
theorem restsStartSendsOrAreCounted : Obligations.RestsStartSendsOrAreCounted := by
  intro s h
  have serves {f : Part → Part} {p : Part} (hf : f s.part = p) : inService f s.part = p := by
    rw [inService_serving h.1, hf]
  refine ⟨fun hidle => ⟨fun hopen => ?starts, fun hout hrests => ?counted, fun hout hrests => ?ends, fun hsilent => ?silent⟩,
    fun hsending => ?busy, event_line h (serves rfl)⟩
  case starts =>
    refine event_line h (serves ?_)
    rw [Part.quietRest_idle hidle]
    rcases hopen with hactive | hguarded
    · rw [Part.rest_active hactive]
      rfl
    · rw [Part.rest_guarded hguarded]
      rfl
  case counted => exact event_line h (serves ((Part.quietRest_idle hidle).trans (Part.rest_counted hout hrests true)))
  case ends => exact event_announces h (serves ((Part.quietRest_idle hidle).trans (Part.rest_ends hout hrests true)))
  case silent => exact event_ignored h (serves ((Part.quietRest_idle hidle).trans (Part.rest_silent hsilent true)))
  case busy => exact event_ignored h (serves (if_pos hsending))

end Sys2Proof.Machine
end


section
/-! Proof that a transmission does not always leave what the command of its answer leaves: more local requests may wait than the steps
of one command can take (R132, R148; log entry 18). -/

-- One theorem after another: many small theorems elaborated at once need more threads than the check allows.
set_option Elab.async false

namespace Sys2Proof.Machine

open Sys2Proof

/-! ### A line of local requests (R132, R138) -/

/-- A request of a cancelled ask that has ended: its settlement is a duplicate, and nobody waits for its result (R133, R138). -/
def staleRequest : Settlement where
  source := 9
  holdId := 5
  account := 0
  job := 3
  charge := 0
  impressions := 0
  requester := .cancelledAsk 3

/-- The settlement of the cancelled ask below, whose hold is granted (R26). -/
def grantedRequest : Settlement where
  source := 1
  holdId := 5
  account := 0
  job := 7
  charge := 0
  impressions := 0
  requester := .cancelledAsk 7

/-- A part in service with a cancelled ask of station 1 that its home answers itself, and requests that wait for a FREE procedure. -/
def asking (requests : List Settlement) : Part :=
  { State.reset.part with
    phase := .serving
    settlement := { cancelled := some { job := 7, home := 1, account := 0, due := none, frame := none }, requests := requests } }

/-- The same part once it has heard station 1 and drives the answer slot (R145, R154). -/
def heardAsking (requests : List Settlement) : Part :=
  { asking requests with line := { answered := true, heard := [(1, 0)] } }

/-- The part whose next request is to be taken, and the part with what that request leaves to be decided. -/
def taking (requests : List Settlement) (begun : Bool) : Part := (heardAsking requests).withWork (worksOf .settlement [.nextRequest] begun)

def deciding (requests : List Settlement) (r : Settlement) : Part :=
  (heardAsking requests).withWork (worksOf .settlement [.decide r] false)

theorem heardAsking_calm (requests : List Settlement) : (heardAsking requests).Calm := by
  have hnone : (heardAsking []).Calm := ⟨rfl, by decide, by decide, rfl, rfl⟩
  exact hnone.same ⟨rfl, rfl, rfl, rfl, rfl⟩

/-- A work that is alone takes its next step, with the rules that follow it; what the step gives away stands behind. -/
theorem Part.pump_next {p q : Part} {owner : Owner} {t : Task} {tasks more : List Task} {begun : Bool}
    (hpending : p.store.pending = []) (hwork : p.store.work = []) (hstep : t.step p = some (q, more)) (hr : p.Ready t) (fuel : Nat) :
    (p.withWork (worksOf owner (t :: tasks) begun)).pump (fuel + 1) =
      (q.withWork (putBack q.store.work { owner := owner, tasks := more ++ tasks, begun := true })).react.pump fuel := by
  have hmark := markWait_alone (p := p) (w := { owner := owner, tasks := t :: tasks, begun := begun }) rfl hr
  refine pump_advances (p := p.withWork (worksOf owner (t :: tasks) begun)) hpending hmark
    (advanceFirst_runs (canRun_single _) ?_) fuel
  unfold advance
  simp only [List.append_nil, withWork_withWork, withWork_nil hwork, hstep, Option.map_some]

/-- A stale request is taken and decided in two steps, and the next one follows (R132, R133). -/
theorem taking_pump (requests : List Settlement) (begun : Bool) (fuel : Nat) :
    (taking (staleRequest :: requests) begun).pump (fuel + 2) = (taking requests true).pump fuel := by
  have htake : (Task.nextRequest).step (heardAsking (staleRequest :: requests)) =
      some ((heardAsking requests).assign .settlement [.decide staleRequest], []) := rfl
  have hdecide : (Task.decide staleRequest).step (heardAsking requests) = some (heardAsking requests, [.nextRequest]) := rfl
  have hfirst : (taking (staleRequest :: requests) begun).pump (fuel + 2) = (deciding requests staleRequest).react.pump (fuel + 1) :=
    Part.pump_next (p := heardAsking (staleRequest :: requests)) rfl rfl htake (.inr fun _ => rfl) (fuel + 1)
  have hsecond : (deciding requests staleRequest).pump (fuel + 1) = (taking requests true).react.pump fuel :=
    Part.pump_next (p := heardAsking requests) rfl rfl hdecide (.inr fun _ => rfl) fuel
  have hcalm := heardAsking_calm requests
  rw [hfirst, show (deciding requests staleRequest).react = deciding requests staleRequest from hcalm.react_withWork _, hsecond,
    show (taking requests true).react = taking requests true from hcalm.react_withWork _]

/-- Two steps a request: the steps of one command take as many requests as half their bound. -/
theorem taking_pump_many (n : Nat) (requests : List Settlement) (begun : Bool) :
    (taking (List.replicate (n + 1) staleRequest ++ requests) begun).pump (2 * (n + 1)) = taking requests true := by
  induction n generalizing begun with
  | zero => exact taking_pump requests begun 0
  | succ n ih =>
    have hstep := taking_pump (List.replicate (n + 1) staleRequest ++ requests) begun (2 * (n + 1))
    rw [List.replicate_succ, List.cons_append, show 2 * (n + 1 + 1) = 2 * (n + 1) + 2 by ring, hstep]
    exact ih true

/-- The requests of the refuting state: half of the step bound is left when the first command's steps are spent. -/
@[irreducible] def longLine : List Settlement := List.replicate 2048 staleRequest

/-- What follows an event goes on with the line of requests, a command's worth of steps further. -/
theorem taking_follow (requests : List Settlement) (begun : Bool) (before : Part) (hbefore : before.path.sheets = []) :
    (taking (longLine ++ requests) begun).follow before = taking requests true := by
  have hcalm := heardAsking_calm (longLine ++ requests)
  have hidle : (taking (longLine ++ requests) begun).reactIdle before = taking (longLine ++ requests) begun :=
    Part.reactIdle_path hbefore.symm
  show (((taking (longLine ++ requests) begun).reactIdle before).react).goOn = _
  rw [hidle, show (taking (longLine ++ requests) begun).react = taking (longLine ++ requests) begun from hcalm.react_withWork _]
  unfold longLine
  exact taking_pump_many 2047 requests begun

/-! ### A grant that stands behind two such lines (R26) -/

/-- The grant of the cancelled ask's hold, and the transmission that carries it to all stations (section 12.1). -/
def grantMessage : Message := .holdGive 5 7 1 0 0

@[irreducible] def grantBytes : List Byte := frameBytes 1 0 grantMessage

theorem judge_grantBytes : judge grantBytes = .good 1 0 (some grantMessage) := by decide +kernel

/-- The grant gives a further request, which is taken in its turn (R26, R132). -/
theorem heardAsking_granted (requests : List Settlement) :
    (heardAsking requests).takeGive 1 5 7 1 0 0 = taking (requests ++ [grantedRequest]) false := rfl

/-- The transmission of the grant is judged good, known and for this station, and is accepted (R141, R145, R148). -/
theorem asking_receive (requests : List Settlement) :
    (asking requests).receive grantBytes = taking (requests ++ [grantedRequest]) false := by
  unfold Part.receive Part.takeTransmission
  rw [judge_grantBytes]
  rfl

theorem asking_atRest (requests : List Settlement) : (asking requests).AtRest := by
  have hnone : (asking []).AtRest := by decide +kernel
  exact hnone.same ⟨rfl, rfl, rfl, rfl, rfl, rfl, rfl, rfl⟩

theorem taking_requests (requests : List Settlement) (begun : Bool) (before : Part) :
    ((taking requests begun).journalLow before).alert.settlement.requests = requests := by
  show ((taking requests begun).journalLow before).settlement.requests = _
  unfold Part.journalLow
  split <;> rfl

/-- The command of the grant takes one line of requests. -/
theorem holdGive_requests (requests : List Settlement) :
    (Instr.result (.holdGive 1 5 7 1 0 0) (heardAsking (longLine ++ requests))).settlement.requests = requests ++ [grantedRequest] := by
  have heffect : Instr.effect (.holdGive 1 5 7 1 0 0) (heardAsking (longLine ++ requests)) =
      taking (longLine ++ (requests ++ [grantedRequest])) false := by
    rw [← List.append_assoc]
    exact heardAsking_granted _
  rw [Instr.result_event rfl, Part.command, heffect, taking_follow _ _ _ rfl, taking_requests]

/-- A transmission that ends in service is received (R145). -/
theorem Instr.effect_frameReceived {p : Part} (h : p.phase = .serving) (bytes : List Byte) :
    Instr.effect (.frameReceived bytes) p = p.frameReceived bytes := if_pos (by simp [Part.serving, h])

/-- The transmission of the grant takes two, for what follows an event acts before and after the rest that ends it. -/
theorem frameReceived_requests (requests : List Settlement) :
    (Instr.result (.frameReceived grantBytes) (asking (longLine ++ (longLine ++ requests)))).settlement.requests =
      requests ++ [grantedRequest] := by
  let p := asking (longLine ++ (longLine ++ requests))
  have hrest (left : List Settlement) : (taking left true).restAfter p = taking left true := rfl
  have heffect : Instr.effect (.frameReceived grantBytes) p = taking (longLine ++ (requests ++ [grantedRequest])) true := by
    rw [Instr.effect_frameReceived (p := p) rfl, Part.frameReceived, asking_receive, List.append_assoc,
      List.append_assoc, taking_follow _ _ _ rfl, hrest]
  rw [Instr.result_event rfl, Part.command, heffect, taking_follow _ _ _ rfl, taking_requests]

/-- Refutes O60: the hypotheses allow any number of local requests that wait. What follows an event acts twice at a transmission and
once at the command of its answer, so with more requests than one command's steps can take the two leave different parts. -/
theorem not_transmissionsAreJudgedAndTaken : ¬Obligations.TransmissionsAreJudgedAndTaken := by
  rintro ⟨-, -, hanswers, -⟩
  obtain ⟨t, hcommand, hframe⟩ := hanswers { pending := [], part := asking (longLine ++ (longLine ++ [])) } grantBytes 1 0 grantMessage
    (.holdGive 1 5 7 1 0 0) (asking_atRest _) rfl (.inl ⟨rfl, Nat.zero_lt_succ _⟩) judge_grantBytes (Nat.succ_ne_zero 0) (.inl rfl)
    rfl (Nat.zero_lt_succ _) rfl
  have hone : t.part.settlement.requests = longLine ++ [] ++ [grantedRequest] := by
    rw [exec_part hcommand]
    exact holdGive_requests (longLine ++ [])
  have hboth : t.part.settlement.requests = [] ++ [grantedRequest] :=
    (congrArg (fun q : Part => q.settlement.requests) (exec_part hframe)).trans (frameReceived_requests [])
  have hempty : longLine ++ [] = [] := List.append_cancel_right (hone.symm.trans hboth)
  have hlength : longLine.length = 2048 := by
    unfold longLine
    exact List.length_replicate
  rw [List.append_nil] at hempty
  rw [hempty] at hlength
  exact absurd hlength (by decide)

end Sys2Proof.Machine
end


section
/-! Facts about the fault score, the line states and the outcome of a send, each said once (R147, R149, R150, R151). -/

-- One theorem after another: many small theorems elaborated at once need more threads than the check allows.
set_option Elab.async false

namespace Sys2Proof.Machine

open Sys2Proof

/-! ### The score and the line state that it sets (R149, R150) -/

theorem stateOfScore_active {score : Nat} (h : score < 96) : stateOfScore score = .active := if_pos h

theorem stateOfScore_guarded {score : Nat} (hlow : 96 ≤ score) (hhigh : score < 192) : stateOfScore score = .guarded := by
  unfold stateOfScore
  rw [if_neg (by omega), if_pos hhigh]

theorem stateOfScore_withdrawn {score : Nat} (h : 192 ≤ score) : stateOfScore score = .withdrawn := by
  unfold stateOfScore
  rw [if_neg (by omega), if_neg (by omega)]

namespace Part

/-- A score of the state that the line is in leaves that state (R150). -/
theorem setScore_same {p : Part} {score : Nat} (hopen : p.line.state.isOpen = true) (h : stateOfScore score = p.line.state) :
    p.setScore score = p.withLine { p.line with score := score } := by
  have hline : ({ p.line with score := score, state := stateOfScore score } : Line) = { p.line with score := score } := by rw [h]
  unfold setScore
  cases hst : stateOfScore score with
  | withdrawn => simp [← h, hst, LineState.isOpen] at hopen
  | active | guarded | silent =>
    dsimp only
    rw [hst] at h hline
    rw [if_pos h.symm, hline]

/-- A score of another open state enters that state, and raises LINE (R150). -/
theorem setScore_enters {p : Part} {score : Nat} {st : LineState} (h : stateOfScore score = st) (hst : st.isOpen = true)
    (hnew : p.line.state ≠ st) :
    p.setScore score = { p with line := { p.line with score := score, state := st }, panel := p.panel.raise .line } := by
  unfold setScore
  rw [h]
  cases st with
  | withdrawn | silent => cases hst
  | active | guarded => exact if_neg hnew

theorem setScore_withdraws {p : Part} {score : Nat} (h : 192 ≤ score) : p.setScore score = p.withdraw score := by
  unfold setScore
  rw [stateOfScore_withdrawn h]

theorem raiseScore_open {p : Part} (hopen : p.line.state.isOpen = true) (n : Nat) :
    p.raiseScore n = p.setScore (min 255 (p.line.score + n)) := if_pos hopen

theorem lowerScore_open {p : Part} (hopen : p.line.state.isOpen = true) : p.lowerScore = p.setScore (p.line.score - 1) := if_pos hopen

/-- A rise within the line's state (R149). -/
theorem raiseScore_same {p : Part} {n : Nat} (hopen : p.line.state.isOpen = true)
    (h : stateOfScore (p.line.score + n) = p.line.state) : p.raiseScore n = p.withLine { p.line with score := p.line.score + n } := by
  have hlow : p.line.score + n < 192 := by
    by_contra hhigh
    rw [stateOfScore_withdrawn (by omega)] at h
    simp [← h, LineState.isOpen] at hopen
  rw [raiseScore_open hopen, Nat.min_eq_right (by omega), setScore_same hopen h]

/-- Entering WITHDRAWN with an attempt left for each owner (R150, R151). -/
theorem withdraw_told {p : Part} (h : p.AttemptsLeft) (score : Nat) :
    p.withdraw score =
      { p with
        job := p.job.told p.line.outbound p.now
        settlement := p.settlement.told p.line.outbound
        line := { p.line with state := .withdrawn, score := score, rests := 0, outbound := [], sending := none }
        panel := p.panel.raise .line } := by
  obtain ⟨hask, htopup, hcancelled⟩ := h
  exact dropFrames_told p.line.outbound
    ((p.withLine { p.line with state := .withdrawn, score := score, rests := 0, outbound := [], sending := none }).raise .line)
    (.inl rfl) (fun hst => ⟨(hask hst).1, fun _ => (hask hst).2⟩) (fun hout _ => htopup hout) hcancelled

/-! ### The rest that ends a transmission (R143) -/

theorem restAfter_open {p : Part} (before : Part) (h : p.line.state.isOpen = true) :
    p.restAfter before =
      p.withLine
        { p.line with
          sending := if p.line.state = .active then p.line.outbound.head?.map OutFrame.ticket else p.line.sending } := by
  unfold restAfter
  cases hst : p.line.state with
  | withdrawn | silent => simp [hst, LineState.isOpen] at h
  | active => rw [if_neg (by simp), rest_active hst, if_pos rfl]; rfl
  | guarded => rw [if_neg (by simp), rest_guarded hst, if_neg (by simp)]; rfl

theorem restAfter_closed {p before : Part} (h : p.line.state = .silent ∨ (p.line.state = .withdrawn ∧ before.line.state ≠ .withdrawn)) :
    p.restAfter before = p.withLine p.line := by
  unfold restAfter
  rcases h with hsilent | hout
  · rw [if_neg (by simp [hsilent]), rest_silent hsilent]
    rfl
  · rw [if_pos hout]
    rfl

/-! ### The outcome of a send (R147) -/

/-- An unanswered send raises the frame's attempts; the 16th is told by attempts of 15 before it. -/
theorem countAttempt_any (queue : List OutFrame) (ticket : Nat) :
    (countAttempt queue ticket).any (fun f => decide (f.ticket = ticket) && decide (16 ≤ f.attempts)) =
      queue.any (fun f => decide (f.ticket = ticket) && decide (15 ≤ f.attempts)) := by
  unfold countAttempt
  rw [List.any_map]
  congr 1
  funext f
  by_cases hticket : f.ticket = ticket
  · simp [hticket]
  · simp [hticket]

/-- A frame that is dropped takes its raised attempts with it. -/
theorem dropTicket_countAttempt (queue : List OutFrame) (ticket : Nat) :
    dropTicket (countAttempt queue ticket) ticket = dropTicket queue ticket := by
  induction queue with
  | nil => rfl
  | cons f queue ih =>
    unfold dropTicket countAttempt at ih ⊢
    by_cases hticket : f.ticket = ticket
    · simpa [hticket] using ih
    · simpa [hticket] using ih

theorem sendUnanswered_kept {p : Part} {ticket : Nat}
    (hlast : p.line.outbound.any (fun f => decide (f.ticket = ticket) && decide (15 ≤ f.attempts)) = false) :
    p.sendUnanswered ticket =
      (p.withLine { p.line with outbound := countAttempt p.line.outbound ticket, sending := none }).raiseScore 8 := by
  unfold sendUnanswered
  dsimp only
  rw [countAttempt_any, hlast]
  rfl

theorem sendUnanswered_last {p : Part} {ticket : Nat}
    (hlast : p.line.outbound.any (fun f => decide (f.ticket = ticket) && decide (15 ≤ f.attempts)) = true) :
    p.sendUnanswered ticket =
      ((p.withLine
        { p.line with
          outbound := dropTicket p.line.outbound ticket, sending := none
          dropped := min 65535 (p.line.dropped + 1) }).raiseScore 8).sendFailed ticket := by
  unfold sendUnanswered
  dsimp only
  rw [countAttempt_any, hlast, dropTicket_countAttempt]
  rfl

/-- A frame of no ask, no top-up and no cancelled ask has no owner to tell (R147). -/
theorem sendFailed_nobody {p : Part} (hask : p.job.state ≠ .authorize) (htopup : p.job.topupOutstanding = false)
    (hcancelled : p.settlement.cancelled = none) (ticket : Nat) : p.sendFailed ticket = p := by
  unfold sendFailed
  rw [if_neg (by simp [hask]), if_neg (by simp [htopup]), hcancelled]

end Part

/-- What ends a transmission and leaves a part at rest has nothing more to follow than the rest that ends it. -/
theorem event_ends {s : State} {f : Part → Part} {p q : Part} {line : Line}
    (h : s.part.AtRest) (hf : f s.part = (p.follow s.part).restAfter s.part) (hp : p = q) (hcalm : q.Calm)
    (hsame : q.path = s.part.path ∧ q.store = s.part.store ∧ q.journal = s.part.journal)
    (hr : q.restAfter s.part = q.withLine line) : event s f = .next { s with part := (q.withLine line).alert } := by
  subst hp
  obtain ⟨-, hwork, hpending, -, -, -, -, hstarting⟩ := h
  obtain ⟨hpath, hstore, hjournal⟩ := hsame
  have hrest : (p.withLine line).AtRest :=
    (hcalm.same (q := p.withLine line) ⟨rfl, rfl, rfl, rfl, rfl⟩).atRest (hstore ▸ hwork) (hstore ▸ hpending) (hstore ▸ hstarting)
  have hfollow : p.follow s.part = p :=
    hcalm.follow (hstore ▸ hwork) (hstore ▸ hpending) (congrArg PathMonitor.sheets hpath)
  rw [hfollow, hr] at hf
  refine event_atRest hf hrest (congrArg PathMonitor.sheets hpath) (le_of_eq (Part.freeSlots_congr ?_).symm)
  exact ⟨congrArg Store.stored hstore, congrArg Store.queue hstore, congrArg Store.pending hstore, hjournal⟩

/-- The outcome of a send, in service, and the rest that ends the transmission (R147). -/
theorem exec_sendResult {s : State} {ticket : Nat} {answered : Bool} {q : Part} {line : Line} (h : s.part.AtRest)
    (hsending : s.part.line.sending = some ticket) (hq : (s.part.driveFrame ticket).sendOutcome ticket answered = q)
    (hcalm : q.Calm) (hsame : q.path = s.part.path ∧ q.store = s.part.store ∧ q.journal = s.part.journal)
    (hr : q.restAfter s.part = q.withLine line) :
    exec (.sendResult answered) s = .next { s with part := (q.withLine line).alert } := by
  have hf : inService (Part.sendResult answered) s.part =
      (((s.part.driveFrame ticket).sendOutcome ticket answered).follow s.part).restAfter s.part := by
    rw [inService_serving h.1]
    unfold Part.sendResult
    rw [hsending]
  exact event_ends h hf hq hcalm hsame hr

end Sys2Proof.Machine
end


section
/-! Proofs that a send is answered or counted, and told at last to its owner (R147, R149, R150, R151). -/

-- One theorem after another: many small theorems elaborated at once need more threads than the check allows.
set_option Elab.async false

namespace Sys2Proof.Machine

open Sys2Proof

section
variable {s : State} {ticket : Nat}

/-- The ticket that goes out next, if the rest that ends a transmission starts a frame (R143). -/
def startedTicket (state : LineState) (outbound : List OutFrame) : Option Nat :=
  if state = .active then outbound.head?.map OutFrame.ticket else none

theorem startedTicket_active (outbound : List OutFrame) : startedTicket .active outbound = outbound.head?.map OutFrame.ticket := rfl

theorem startedTicket_guarded (outbound : List OutFrame) : startedTicket .guarded outbound = none := rfl

/-- The rest after a transmission that ends a send, or in which none goes on (R143). -/
theorem Part.restAfter_starts {p : Part} (before : Part) (h : p.line.state.isOpen = true) (hidle : p.line.sending = none) :
    p.restAfter before = p.withLine { p.line with sending := startedTicket p.line.state p.line.outbound } := by
  rw [restAfter_open before h, hidle]
  rfl

/-- A send, with what it leaves of the line alone, and of the panel when the state changes. -/
theorem exec_sendResult_line {answered : Bool} {line : Line} {panel : Panel} (h : s.part.AtRest)
    (hsending : s.part.line.sending = some ticket)
    (hq : (s.part.driveFrame ticket).sendOutcome ticket answered = { s.part.driveFrame ticket with line := line, panel := panel })
    (hopen : line.state.isOpen = true) (hidle : line.sending = none) :
    exec (.sendResult answered) s =
      .next
        { s with
          part :=
            ({ s.part.driveFrame ticket with
                line := { line with sending := startedTicket line.state line.outbound }, panel := panel } : Part).alert } :=
  exec_sendResult h hsending hq (h.calm.same ⟨rfl, rfl, rfl, rfl, rfl⟩) ⟨rfl, rfl, rfl⟩
    (Part.restAfter_starts (p := { s.part.driveFrame ticket with line := line, panel := panel }) s.part hopen hidle)

/-- An answered send that leaves the line in its state (R147, R149). -/
theorem exec_answered (h : s.part.AtRest) (hsending : s.part.line.sending = some ticket)
    (hopen : s.part.line.state.isOpen = true) (hscore : stateOfScore (s.part.line.score - 1) = s.part.line.state) :
    exec (.sendResult true) s =
      .next
        { s with
          part :=
            (({ s.part.driveFrame ticket with
                line :=
                  { s.part.line with
                    outbound := dropTicket s.part.line.outbound ticket, score := s.part.line.score - 1
                    sending := startedTicket s.part.line.state (dropTicket s.part.line.outbound ticket) } } : Part)).alert } := by
  let sent : Part := (s.part.driveFrame ticket).withLine
    { s.part.line with outbound := dropTicket s.part.line.outbound ticket, sending := none }
  have hq : sent.lowerScore = sent.withLine { sent.line with score := s.part.line.score - 1 } :=
    (Part.lowerScore_open (p := sent) hopen).trans (Part.setScore_same (p := sent) hopen hscore)
  exact exec_sendResult_line (answered := true) (line := { sent.line with score := s.part.line.score - 1 }) (panel := s.part.panel) h
    hsending hq hopen rfl

/-- An unanswered send with an attempt left, that leaves the line in its state (R147, R149). -/
theorem exec_unanswered (h : s.part.AtRest) (hsending : s.part.line.sending = some ticket)
    (hlast : s.part.line.outbound.any (fun f => decide (f.ticket = ticket) && decide (15 ≤ f.attempts)) = false)
    (hopen : s.part.line.state.isOpen = true) (hscore : stateOfScore (s.part.line.score + 8) = s.part.line.state) :
    exec (.sendResult false) s =
      .next
        { s with
          part :=
            (({ s.part.driveFrame ticket with
                line :=
                  { s.part.line with
                    outbound := countAttempt s.part.line.outbound ticket, score := s.part.line.score + 8
                    sending := startedTicket s.part.line.state (countAttempt s.part.line.outbound ticket) } } : Part)).alert } := by
  let sent : Part := (s.part.driveFrame ticket).withLine
    { s.part.line with outbound := countAttempt s.part.line.outbound ticket, sending := none }
  have hq : (s.part.driveFrame ticket).sendUnanswered ticket = sent.withLine { sent.line with score := s.part.line.score + 8 } :=
    (Part.sendUnanswered_kept (p := s.part.driveFrame ticket) hlast).trans (Part.raiseScore_same (p := sent) hopen hscore)
  exact exec_sendResult_line (answered := false) (line := { sent.line with score := s.part.line.score + 8 }) (panel := s.part.panel) h
    hsending hq hopen rfl

/-- The part after the 16th unanswered send, before its owner is told (R147). -/
def Part.droppedSend (p : Part) (ticket : Nat) : Part :=
  { p.driveFrame ticket with
    line :=
      { p.line with
        outbound := dropTicket p.line.outbound ticket, sending := none, dropped := min 65535 (p.line.dropped + 1)
        score := p.line.score + 8 } }

theorem Part.sendUnanswered_told {p : Part}
    (hlast : p.line.outbound.any (fun f => decide (f.ticket = ticket) && decide (15 ≤ f.attempts)) = true)
    (hopen : p.line.state.isOpen = true) (hscore : stateOfScore (p.line.score + 8) = p.line.state) :
    (p.driveFrame ticket).sendOutcome ticket false = (p.droppedSend ticket).sendFailed ticket := by
  have hraised := Part.raiseScore_same (p := (p.driveFrame ticket).withLine
    { p.line with
      outbound := dropTicket p.line.outbound ticket, sending := none, dropped := min 65535 (p.line.dropped + 1) }) hopen hscore
  exact (Part.sendUnanswered_last (p := p.driveFrame ticket) hlast).trans (congrArg (fun q : Part => q.sendFailed ticket) hraised)

/-- A 16th unanswered send of a frame without an owner (R147). -/
theorem exec_dropped (h : s.part.AtRest) (hsending : s.part.line.sending = some ticket)
    (hlast : s.part.line.outbound.any (fun f => decide (f.ticket = ticket) && decide (15 ≤ f.attempts)) = true)
    (hask : s.part.job.state ≠ .authorize) (htopup : s.part.job.topupOutstanding = false)
    (hcancelled : s.part.settlement.cancelled = none)
    (hopen : s.part.line.state.isOpen = true) (hscore : stateOfScore (s.part.line.score + 8) = s.part.line.state) :
    exec (.sendResult false) s =
      .next
        { s with
          part :=
            (({ s.part.driveFrame ticket with
                line :=
                  { s.part.line with
                    outbound := dropTicket s.part.line.outbound ticket, score := s.part.line.score + 8
                    dropped := min 65535 (s.part.line.dropped + 1)
                    sending := startedTicket s.part.line.state (dropTicket s.part.line.outbound ticket) } } : Part)).alert } := by
  have hq : (s.part.driveFrame ticket).sendOutcome ticket false = s.part.droppedSend ticket :=
    (Part.sendUnanswered_told hlast hopen hscore).trans
      (Part.sendFailed_nobody (p := s.part.droppedSend ticket) hask htopup hcancelled ticket)
  exact exec_sendResult_line (answered := false) (line := (s.part.droppedSend ticket).line) (panel := s.part.panel) h hsending hq hopen rfl

end

end Sys2Proof.Machine
end


section
/-! Proof that a send is answered or counted, or ends in a withdrawal, and that the owner of a dropped frame is told (R147, R149, R150,
R151). -/

-- One theorem after another: many small theorems elaborated at once need more threads than the check allows.
set_option Elab.async false

namespace Sys2Proof.Machine

open Sys2Proof

section
variable {s : State} {ticket : Nat}

/-! ### In ACTIVE (R147, R149) -/

/-- The outcomes of a send that leaves ACTIVE, or enters GUARDED. -/
theorem exec_sendResult_active (h : s.part.AtRest) (hsending : s.part.line.sending = some ticket) (hactive : s.part.line.state = .active) :
    let line := s.part.line
    let sent := s.part.driveFrame ticket
    let last := line.outbound.any (fun f => decide (f.ticket = ticket) && decide (15 ≤ f.attempts))
    let others := dropTicket line.outbound ticket
    let counted := countAttempt line.outbound ticket
    let becomes := fun (answered : Bool) (l : Line) (panel : Panel) =>
      exec (.sendResult answered) s = .next { s with part := ({ sent with line := l, panel := panel } : Part).alert }
    (line.score < 97 →
        becomes true { line with outbound := others, score := line.score - 1, sending := others.head?.map OutFrame.ticket }
          s.part.panel) ∧
      (line.score < 88 → last = false →
        becomes false { line with outbound := counted, score := line.score + 8, sending := counted.head?.map OutFrame.ticket }
          s.part.panel) ∧
      (line.score < 88 → last = true → s.part.job.state ≠ .authorize → s.part.job.topupOutstanding = false →
        s.part.settlement.cancelled = none →
        becomes false
          { line with
            outbound := others, score := line.score + 8, dropped := min 65535 (line.dropped + 1)
            sending := others.head?.map OutFrame.ticket }
          s.part.panel) ∧
      (88 ≤ line.score → line.score < 184 → last = false →
        becomes false { line with outbound := counted, score := line.score + 8, state := .guarded, sending := none }
          (s.part.panel.raise .line)) := by
  intro line sent last others counted becomes
  have hopen : s.part.line.state.isOpen = true := by rw [hactive]; rfl
  have hstart (outbound : List OutFrame) : startedTicket s.part.line.state outbound = outbound.head?.map OutFrame.ticket := by
    rw [hactive]
    rfl
  have hstays {score : Nat} (hscore : score < 96) : stateOfScore score = s.part.line.state := by
    rw [hactive, stateOfScore_active hscore]
  refine ⟨fun (hscore : s.part.line.score < 97) => ?answered, fun (hscore : s.part.line.score < 88) hlast => ?counted,
    fun (hscore : s.part.line.score < 88) hlast hask htopup hcancelled => ?dropped, fun hlow hhigh hlast => ?guarded⟩
  case answered =>
    have hexec := exec_answered h hsending hopen (hstays (by omega))
    rw [hstart] at hexec
    exact hexec
  case counted =>
    have hexec := exec_unanswered h hsending hlast hopen (hstays (by omega))
    rw [hstart] at hexec
    exact hexec
  case dropped =>
    have hexec := exec_dropped h hsending hlast hask htopup hcancelled hopen (hstays (by omega))
    rw [hstart] at hexec
    exact hexec
  case guarded =>
    let whole : Part := sent.withLine { line with outbound := counted, sending := none }
    have hraised : whole.raiseScore 8 =
        { whole with line := { whole.line with score := line.score + 8, state := .guarded }, panel := s.part.panel.raise .line } := by
      rw [Part.raiseScore_open (p := whole) hopen, Nat.min_eq_right (by show line.score + 8 ≤ 255; omega)]
      exact Part.setScore_enters (stateOfScore_guarded (by show 96 ≤ line.score + 8; omega) (by show line.score + 8 < 192; omega)) rfl
        (by show s.part.line.state ≠ _; simp [hactive])
    have hq : sent.sendUnanswered ticket = _ := (Part.sendUnanswered_kept (p := sent) hlast).trans hraised
    exact exec_sendResult_line (answered := false) (line := { whole.line with score := line.score + 8, state := .guarded })
      (panel := s.part.panel.raise .line) h hsending hq rfl rfl

/-! ### In GUARDED (R143, R147, R149) -/

/-- The outcomes of a send that leaves GUARDED, or enters ACTIVE. -/
theorem exec_sendResult_guarded (h : s.part.AtRest) (hsending : s.part.line.sending = some ticket) (hguarded : s.part.line.state = .guarded) :
    let line := s.part.line
    let sent := s.part.driveFrame ticket
    let last := line.outbound.any (fun f => decide (f.ticket = ticket) && decide (15 ≤ f.attempts))
    let others := dropTicket line.outbound ticket
    let counted := countAttempt line.outbound ticket
    let becomes := fun (answered : Bool) (l : Line) (panel : Panel) =>
      exec (.sendResult answered) s = .next { s with part := ({ sent with line := l, panel := panel } : Part).alert }
    (97 ≤ line.score → line.score ≤ 192 →
        becomes true { line with outbound := others, score := line.score - 1, sending := none } s.part.panel) ∧
      (line.score = 96 →
        becomes true
          { line with outbound := others, score := 95, state := .active, sending := others.head?.map OutFrame.ticket }
          (s.part.panel.raise .line)) ∧
      (88 ≤ line.score → line.score < 184 → last = false →
        becomes false { line with outbound := counted, score := line.score + 8, sending := none } s.part.panel) ∧
      (88 ≤ line.score → line.score < 184 → last = true → s.part.job.state ≠ .authorize → s.part.job.topupOutstanding = false →
        s.part.settlement.cancelled = none →
        becomes false
          { line with outbound := others, score := line.score + 8, sending := none, dropped := min 65535 (line.dropped + 1) }
          s.part.panel) := by
  intro line sent last others counted becomes
  have hopen : s.part.line.state.isOpen = true := by rw [hguarded]; rfl
  have hstart (outbound : List OutFrame) : startedTicket s.part.line.state outbound = none := by
    rw [hguarded]
    rfl
  have hstays {score : Nat} (hlow : 96 ≤ score) (hhigh : score < 192) : stateOfScore score = s.part.line.state := by
    rw [hguarded, stateOfScore_guarded hlow hhigh]
  refine ⟨fun (hlow : 97 ≤ s.part.line.score) (hhigh : s.part.line.score ≤ 192) => ?answered, fun hscore => ?active,
    fun (hlow : 88 ≤ s.part.line.score) (hhigh : s.part.line.score < 184) hlast => ?counted,
    fun (hlow : 88 ≤ s.part.line.score) (hhigh : s.part.line.score < 184) hlast hask htopup hcancelled => ?dropped⟩
  case answered =>
    have hexec := exec_answered h hsending hopen (hstays (by omega) (by omega))
    rw [hstart] at hexec
    exact hexec
  case active =>
    let whole : Part := sent.withLine { line with outbound := others, sending := none }
    have hscore' : whole.line.score - 1 = 95 := by show line.score - 1 = 95; omega
    have hlowered : whole.lowerScore =
        { whole with line := { whole.line with score := 95, state := .active }, panel := s.part.panel.raise .line } := by
      rw [Part.lowerScore_open (p := whole) hopen, hscore']
      exact Part.setScore_enters (stateOfScore_active (by decide)) rfl (by show s.part.line.state ≠ _; simp [hguarded])
    exact exec_sendResult_line (answered := true) (line := { whole.line with score := 95, state := .active })
      (panel := s.part.panel.raise .line) h hsending hlowered rfl rfl
  case counted =>
    have hexec := exec_unanswered h hsending hlast hopen (hstays (by omega) (by omega))
    rw [hstart] at hexec
    exact hexec
  case dropped =>
    have hexec := exec_dropped h hsending hlast hask htopup hcancelled hopen (hstays (by omega) (by omega))
    rw [hstart] at hexec
    exact hexec

/-! ### At a withdrawal (R150, R151) -/

/-- The owners of the frames are told alike in whatever order. -/
theorem Job.told_congr {a b : List OutFrame} (h : ∀ t, dropsTicket a t = dropsTicket b t) (j : Job) (now : Nat) :
    j.told a now = j.told b now := by
  unfold told
  rw [h, h]

theorem SettlementUnit.told_congr {a b : List OutFrame} (h : ∀ t, dropsTicket a t = dropsTicket b t) (u : SettlementUnit) :
    u.told a = u.told b := by
  unfold told
  simp only [h]

theorem dropsTicket_countAttempt (queue : List OutFrame) (ticket : Nat) (t : Option Nat) :
    dropsTicket (countAttempt queue ticket) t = dropsTicket queue t := by
  unfold dropsTicket countAttempt
  rw [List.any_map]
  congr 1
  funext f
  by_cases hticket : f.ticket = ticket <;> simp [hticket]

/-- A part at rest told of dropped frames is as calm as before: no rule that follows an event reads the attempts. -/
theorem Part.Calm.told {p : Part} (h : p.Calm) (frames : List OutFrame) (now : Nat) : ({ p with job := p.job.told frames now } : Part).Calm := by
  unfold Job.told
  split
  · split
    · exact h
    · exact h
  · split
    · exact h
    · exact h

end

end Sys2Proof.Machine
end


section
/-! Proof that a send is answered or counted, or ends in a withdrawal, and that the owner of a dropped frame is told (R147, R149, R150,
R151). -/

-- One theorem after another: many small theorems elaborated at once need more threads than the check allows.
set_option Elab.async false

namespace Sys2Proof.Machine

open Sys2Proof

namespace Part

/-! ### The withdrawal (R151) -/

/-- The part in WITHDRAWN, before the owners of its frames are told. -/
def withdrawing (p : Part) (score : Nat) : Part :=
  (p.withLine { p.line with state := .withdrawn, score := score, rests := 0, outbound := [], sending := none }).raise .line

theorem withdraw_eq (p : Part) (score : Nat) : p.withdraw score = (p.withdrawing score).dropFrames p.line.outbound := rfl

/-- The owners of any frames told in WITHDRAWN, with an attempt left for each. -/
theorem withdrawing_told {p : Part} (h : p.AttemptsLeft) (score : Nat) (frames : List OutFrame) :
    (p.withdrawing score).dropFrames frames =
      { p.withdrawing score with job := p.job.told frames p.now, settlement := p.settlement.told frames } := by
  obtain ⟨hask, htopup, hcancelled⟩ := h
  exact dropFrames_told frames (p.withdrawing score) (.inl rfl) (fun hst => ⟨(hask hst).1, fun _ => (hask hst).2⟩)
    (fun hout _ => htopup hout) hcancelled

/-- A frame dropped ahead of the others is told after them, to the same effect (R147, R151; log entry 14). -/
theorem dropsTicket_dropTicket {queue : List OutFrame} {f : OutFrame} (hf : f ∈ queue) (t : Option Nat) :
    dropsTicket (dropTicket queue f.ticket ++ [f]) t = dropsTicket queue t := by
  unfold dropsTicket dropTicket
  rw [Bool.eq_iff_iff]
  simp only [List.any_append, List.any_cons, List.any_nil, Bool.or_false, Bool.or_eq_true, List.any_eq_true, List.mem_filter,
    decide_eq_true_eq]
  constructor
  · rintro (⟨g, ⟨hg, -⟩, hgt⟩ | hft)
    · exact ⟨g, hg, hgt⟩
    · exact ⟨f, hf, hft⟩
  · rintro ⟨g, hg, hgt⟩
    by_cases hsame : g.ticket = f.ticket
    · exact .inr (hsame ▸ hgt)
    · exact .inl ⟨g, ⟨hg, hsame⟩, hgt⟩

/-- The part after a withdrawal, with the frames' owners told. -/
def withdrawn (p : Part) (score : Nat) (frames : List OutFrame) : Part :=
  { p.withdrawing score with job := p.job.told frames p.now, settlement := p.settlement.told frames }

theorem withdrawn_congr (p : Part) (score : Nat) {a b : List OutFrame} (h : ∀ t, dropsTicket a t = dropsTicket b t) :
    p.withdrawn score a = p.withdrawn score b := by
  unfold withdrawn
  rw [Job.told_congr h, SettlementUnit.told_congr h]

theorem withdrawn_calm {p : Part} (h : p.Calm) (score : Nat) (frames : List OutFrame) : (p.withdrawn score frames).Calm :=
  (h.told frames p.now).same ⟨rfl, rfl, rfl, rfl, rfl⟩

theorem withdrawn_same (p : Part) (score : Nat) (frames : List OutFrame) :
    (p.withdrawn score frames).path = p.path ∧ (p.withdrawn score frames).store = p.store ∧
      (p.withdrawn score frames).journal = p.journal := ⟨rfl, rfl, rfl⟩

/-- The rest that ends the transmission of a withdrawal is not counted (log entry 17). -/
theorem withdrawn_restAfter {before : Part} (h : before.line.state = .guarded) (p : Part) (score : Nat) (frames : List OutFrame) :
    (p.withdrawn score frames).restAfter before = (p.withdrawn score frames).withLine (p.withdrawn score frames).line :=
  restAfter_closed (.inr ⟨rfl, by rw [h]; decide⟩)

/-- The count of dropped frames after an unanswered send: the 16th drops its frame (R147). -/
def droppedAfter (p : Part) (ticket : Nat) : Nat :=
  if p.line.outbound.any (fun f => decide (f.ticket = ticket) && decide (15 ≤ f.attempts)) then min 65535 (p.line.dropped + 1)
  else p.line.dropped

/-- An unanswered send whose score ends the line's service (R147, R150, R151). -/
theorem sendUnanswered_withdraws {p : Part} {ticket : Nat} (hopen : p.line.state.isOpen = true) (h : p.AttemptsLeft)
    (hscore : 184 ≤ p.line.score) :
    p.sendUnanswered ticket =
      (p.withLine { p.line with dropped := p.droppedAfter ticket }).withdrawn (min 255 (p.line.score + 8)) p.line.outbound := by
  unfold droppedAfter
  cases hlast : p.line.outbound.any (fun f => decide (f.ticket = ticket) && decide (15 ≤ f.attempts)) with
  | false =>
    let sent := p.withLine { p.line with outbound := countAttempt p.line.outbound ticket, sending := none }
    have hraise : sent.raiseScore 8 = sent.withdraw (min 255 (p.line.score + 8)) :=
      (raiseScore_open (p := sent) hopen 8).trans (setScore_withdraws (by show 192 ≤ min 255 (p.line.score + 8); omega))
    rw [sendUnanswered_kept hlast, hraise, withdraw_eq, withdrawing_told (by exact h)]
    exact withdrawn_congr sent _ (dropsTicket_countAttempt p.line.outbound ticket)
  | true =>
    obtain ⟨f, hf, hticket⟩ := List.any_eq_true.mp hlast
    rw [Bool.and_eq_true, decide_eq_true_eq] at hticket
    obtain ⟨rfl, -⟩ := hticket
    let sent := p.withLine
      { p.line with outbound := dropTicket p.line.outbound f.ticket, sending := none, dropped := min 65535 (p.line.dropped + 1) }
    have hraise : sent.raiseScore 8 = sent.withdraw (min 255 (p.line.score + 8)) :=
      (raiseScore_open (p := sent) hopen 8).trans (setScore_withdraws (by show 192 ≤ min 255 (p.line.score + 8); omega))
    have htold : (sent.withdraw (min 255 (p.line.score + 8))).sendFailed f.ticket =
        (sent.withdrawing (min 255 (p.line.score + 8))).dropFrames (sent.line.outbound ++ [f]) := by
      unfold dropFrames
      rw [List.foldl_append]
      rfl
    rw [sendUnanswered_last hlast, hraise, htold, withdrawing_told (by exact h)]
    exact withdrawn_congr sent _ (dropsTicket_dropTicket hf)

end Part

section
variable {s : State}

/-- A transmission that ends in service, and the rest that ends it (R143, R145). -/
theorem exec_frameReceived {bytes : List Byte} {q : Part} {line : Line} (h : s.part.AtRest) (hq : s.part.receive bytes = q)
    (hcalm : q.Calm) (hsame : q.path = s.part.path ∧ q.store = s.part.store ∧ q.journal = s.part.journal)
    (hr : q.restAfter s.part = q.withLine line) :
    exec (.frameReceived bytes) s = .next { s with part := (q.withLine line).alert } :=
  event_ends (p := s.part.receive bytes) h (Instr.effect_frameReceived h.1 bytes) hq hcalm hsame hr

/-- A bad transmission whose score ends the line's service, during a send or not (R149, R150, R151). -/
theorem Part.receive_withdraws {p : Part} {bytes : List Byte} (hguarded : p.line.state = .guarded) (h : p.AttemptsLeft)
    (hscore : 191 ≤ p.line.score) (hbad : judge bytes = .bad) :
    p.receive bytes =
      (p.withLine { p.line with sending := none, answered := false }).withdrawn (min 255 (p.line.score + 1)) p.line.outbound := by
  let heard := p.withLine { p.line with sending := none, answered := false }
  have htaken : heard.takeTransmission bytes = heard.withdrawn (min 255 (p.line.score + 1)) p.line.outbound := by
    have hopen : heard.line.state.isOpen = true := by show p.line.state.isOpen = true; rw [hguarded]; rfl
    unfold takeTransmission
    rw [show heard.line.state = .guarded from hguarded, hbad]
    dsimp only
    rw [raiseScore_open (p := heard) hopen, setScore_withdraws (by show 192 ≤ min 255 (p.line.score + 1); omega), withdraw_eq,
      withdrawing_told (by exact h)]
    rfl
  unfold receive
  dsimp only
  rw [show (p.withLine { p.line with sending := none, answered := false }).takeTransmission bytes = _ from htaken]
  cases p.line.sending with
  | none => rfl
  | some ticket => rfl

/-- An unanswered send that ends the line's service (R147, R150, R151). -/
theorem exec_sendResult_withdraws {ticket : Nat} (h : s.part.AtRest) (hsending : s.part.line.sending = some ticket)
    (hguarded : s.part.line.state = .guarded) (hleft : s.part.AttemptsLeft) (hscore : 184 ≤ s.part.line.score) :
    exec (.sendResult false) s =
      .next
        { s with
          part :=
            (((s.part.driveFrame ticket).withLine { s.part.line with dropped := s.part.droppedAfter ticket }).withdrawn
              (min 255 (s.part.line.score + 8)) s.part.line.outbound).alert } := by
  let sent := (s.part.driveFrame ticket).withLine { s.part.line with dropped := s.part.droppedAfter ticket }
  let q := sent.withdrawn (min 255 (s.part.line.score + 8)) s.part.line.outbound
  have hopen : s.part.line.state.isOpen = true := by rw [hguarded]; rfl
  have hq : (s.part.driveFrame ticket).sendOutcome ticket false = q :=
    Part.sendUnanswered_withdraws (p := s.part.driveFrame ticket) hopen hleft hscore
  have hsent : sent.Calm := h.calm.same ⟨rfl, rfl, rfl, rfl, rfl⟩
  have hclosed : q.restAfter s.part = q.withLine q.line := Part.withdrawn_restAfter hguarded _ _ _
  exact exec_sendResult (q := q) (line := q.line) h hsending hq (Part.withdrawn_calm hsent _ _)
    (sent.withdrawn_same _ _) hclosed

/-- A bad transmission that ends the line's service (R149, R150, R151). -/
theorem exec_frameReceived_withdraws {bytes : List Byte} (h : s.part.AtRest) (hguarded : s.part.line.state = .guarded)
    (hleft : s.part.AttemptsLeft) (hbad : judge bytes = .bad) (hscore : 191 ≤ s.part.line.score) :
    exec (.frameReceived bytes) s =
      .next
        { s with
          part :=
            ((s.part.withLine { s.part.line with sending := none, answered := false }).withdrawn
              (min 255 (s.part.line.score + 1)) s.part.line.outbound).alert } := by
  let heard := s.part.withLine { s.part.line with sending := none, answered := false }
  let q := heard.withdrawn (min 255 (s.part.line.score + 1)) s.part.line.outbound
  have hq : s.part.receive bytes = q := Part.receive_withdraws hguarded hleft hscore hbad
  have hheard : heard.Calm := h.calm.same ⟨rfl, rfl, rfl, rfl, rfl⟩
  have hclosed : q.restAfter s.part = q.withLine q.line := Part.withdrawn_restAfter hguarded _ _ _
  exact exec_frameReceived (q := q) (line := q.line) h hq (Part.withdrawn_calm hheard _ _) (heard.withdrawn_same _ _) hclosed

end

end Sys2Proof.Machine
end


section
/-! Proof that a frame dropped at its 16th send is told to its owner, and the outcomes of a send together (R24, R26, R31, R147). -/

-- One theorem after another: many small theorems elaborated at once need more threads than the check allows.
set_option Elab.async false

namespace Sys2Proof.Machine

open Sys2Proof

namespace Part

/-- A further top-up attempt of one that is outstanding (R31). -/
theorem topupAttempt_again {p : Part} (h : p.job.topupOutstanding = true) :
    p.topupAttempt =
      { p with
        job :=
          { p.job with
            topupAttempts := p.job.topupAttempts + 1, topupDue := some (p.now + 400)
            topupFrame := if p.refusesFrame (p.job.home.getD 0) then none else some p.line.nextTicket }
        line :=
          (p.sendFrame (p.job.home.getD 0)
            (.holdMore (p.job.holdId.getD 0) p.job.number (min p.config.values.holdStep (100000 - p.job.amount)))).line } := by
  have hjob (frame : Option Nat) :
      ({ p.job with
          topupOutstanding := true, topupAttempts := p.job.topupAttempts + 1, topupDue := some (p.now + 400)
          topupFrame := frame } : Job) =
        { p.job with topupAttempts := p.job.topupAttempts + 1, topupDue := some (p.now + 400), topupFrame := frame } := by
    rw [← h]
  rw [topupAttempt_eq, hjob]

/-- The owners of a dropped frame: the asking job, the topping-up job, the cancelled ask (R24, R26, R31, R147). -/
theorem sendFailed_asking {p : Part} {ticket : Nat} (hstate : p.job.state = .authorize) (hframe : p.job.askFrame = some ticket)
    (hleft : p.job.askAttempts < 3) : p.sendFailed ticket = p.askAttempt := by
  unfold sendFailed askAttemptEnded
  rw [if_pos ⟨hstate, hframe⟩, if_pos hleft]

theorem sendFailed_topping {p : Part} {ticket : Nat} (hstate : p.job.state ≠ .authorize) (hout : p.job.topupOutstanding = true)
    (hframe : p.job.topupFrame = some ticket) (hleft : p.job.topupAttempts < 3) : p.sendFailed ticket = p.topupAttempt := by
  unfold sendFailed topupAttemptEnded
  rw [if_neg (by simp [hstate]), if_pos ⟨hout, hframe⟩, if_pos hleft]

theorem sendFailed_cancelled {p : Part} {ticket : Nat} {c : CancelledAsk} (hstate : p.job.state ≠ .authorize)
    (hout : p.job.topupOutstanding = false) (hc : p.settlement.cancelled = some c) (hframe : c.frame = some ticket) :
    p.sendFailed ticket = p.dropCancelled.releaseDeferred := by
  unfold sendFailed
  rw [if_neg (by simp [hstate]), if_neg (by simp [hout]), hc]
  exact if_pos hframe

/-- No rule that follows an event reads the attempts of an ask or of a top-up. -/
theorem Calm.asked {p : Part} (h : p.Calm) (attempts : Nat) (due frame : Option Nat) :
    ({ p with job := { p.job with askAttempts := attempts, askDue := due, askFrame := frame } } : Part).Calm := h

theorem Calm.topped {p : Part} (h : p.Calm) (attempts : Nat) (due frame : Option Nat) :
    ({ p with job := { p.job with topupAttempts := attempts, topupDue := due, topupFrame := frame } } : Part).Calm := h

/-- A frame for another station finds a place in an ACTIVE line with fewer than eight queued (R146). -/
theorem refusesFrame_active {p : Part} {dest : Nat} (hactive : p.line.state = .active) (hplace : p.line.outbound.length < 8)
    (hother : dest ≠ p.config.values.station) (hknown : dest ≠ 31) : p.refusesFrame dest = false := by
  unfold refusesFrame station
  simp [hactive, Config.queuePlaces, Nat.not_le.mpr hplace, hother, hknown]

end Part

section
variable {s : State} {ticket home : Nat}

/-- A frame dropped at its 16th send in ACTIVE, with what its owner does (R147). -/
theorem exec_dropped_told {q : Part} (h : s.part.AtRest) (hsending : s.part.line.sending = some ticket)
    (hactive : s.part.line.state = .active) (hscore : s.part.line.score < 88)
    (hlast : s.part.line.outbound.any (fun f => decide (f.ticket = ticket) && decide (15 ≤ f.attempts)) = true)
    (hq : (s.part.droppedSend ticket).sendFailed ticket = q) (hcalm : q.Calm)
    (hsame : q.path = s.part.path ∧ q.store = s.part.store ∧ q.journal = s.part.journal)
    (hline : q.line.state = .active ∧ q.line.sending = none) :
    exec (.sendResult false) s =
      .next
        { s with part := (q.withLine { q.line with sending := q.line.outbound.head?.map OutFrame.ticket }).alert } := by
  obtain ⟨hstate, hidle⟩ := hline
  have hopen : s.part.line.state.isOpen = true := by rw [hactive]; rfl
  have hscore' : stateOfScore (s.part.line.score + 8) = s.part.line.state := by rw [hactive, stateOfScore_active (by omega)]
  have hsend : (s.part.driveFrame ticket).sendOutcome ticket false = q := (Part.sendUnanswered_told hlast hopen hscore').trans hq
  have hstarts := Part.restAfter_starts s.part (p := q) (by rw [hstate]; rfl) hidle
  rw [hstate, startedTicket_active] at hstarts
  exact exec_sendResult h hsending hsend hcalm hsame hstarts

/-- An asking job asks again (R24). -/
theorem exec_dropped_asks (h : s.part.AtRest) (hsending : s.part.line.sending = some ticket)
    (hactive : s.part.line.state = .active) (hscore : s.part.line.score < 88) (hother : home ≠ s.part.config.values.station)
    (hknown : home ≠ 31)
    (hlast : s.part.line.outbound.any (fun f => decide (f.ticket = ticket) && decide (15 ≤ f.attempts)) = true)
    (hplace : (dropTicket s.part.line.outbound ticket).length < 8) (hhome : s.part.job.home = some home)
    (hstate : s.part.job.state = .authorize) (hframe : s.part.job.askFrame = some ticket) (hleft : s.part.job.askAttempts < 3) :
    let outbound := insertFrame (dropTicket s.part.line.outbound ticket)
      { ticket := s.part.line.nextTicket, dest := home
        message := .holdAsk s.part.job.payer s.part.job.number s.part.config.values.holdStep }
    exec (.sendResult false) s =
      .next
        { s with
          part :=
            ({ s.part.droppedSend ticket with
                job :=
                  { s.part.job with
                    askAttempts := s.part.job.askAttempts + 1, askDue := some (s.part.now + 400)
                    askFrame := some s.part.line.nextTicket }
                line :=
                  { (s.part.droppedSend ticket).line with
                    outbound := outbound, nextTicket := s.part.line.nextTicket + 1
                    sending := outbound.head?.map OutFrame.ticket } } : Part).alert } := by
  intro outbound
  let dropped := s.part.droppedSend ticket
  have hgoes : dropped.refusesFrame home = false := Part.refusesFrame_active hactive hplace hother hknown
  have hasks : dropped.sendFailed ticket =
      { dropped with
        job :=
          { s.part.job with
            askAttempts := s.part.job.askAttempts + 1, askDue := some (s.part.now + 400)
            askFrame := some s.part.line.nextTicket }
        line := { dropped.line with outbound := outbound, nextTicket := s.part.line.nextTicket + 1 } } := by
    have hdest : dropped.job.home.getD 0 = home := by
      rw [show dropped.job.home = some home from hhome]
      rfl
    rw [Part.sendFailed_asking (p := dropped) hstate hframe hleft, Part.askAttempt_eq, hdest, Part.sendFrame_line hgoes, hgoes]
    rfl
  have hcalm := (h.calm.asked (s.part.job.askAttempts + 1) (some (s.part.now + 400)) (some s.part.line.nextTicket)).same
    (q := { dropped with
      job :=
        { s.part.job with
          askAttempts := s.part.job.askAttempts + 1, askDue := some (s.part.now + 400), askFrame := some s.part.line.nextTicket }
      line := { dropped.line with outbound := outbound, nextTicket := s.part.line.nextTicket + 1 } }) ⟨rfl, rfl, rfl, rfl, rfl⟩
  exact exec_dropped_told h hsending hactive hscore hlast hasks hcalm ⟨rfl, rfl, rfl⟩ ⟨hactive, rfl⟩

/-- A topping-up job asks for more again (R31). -/
theorem exec_dropped_tops (h : s.part.AtRest) (hsending : s.part.line.sending = some ticket)
    (hactive : s.part.line.state = .active) (hscore : s.part.line.score < 88) (hother : home ≠ s.part.config.values.station)
    (hknown : home ≠ 31)
    (hlast : s.part.line.outbound.any (fun f => decide (f.ticket = ticket) && decide (15 ≤ f.attempts)) = true)
    (hplace : (dropTicket s.part.line.outbound ticket).length < 8) (hhome : s.part.job.home = some home)
    (hstate : s.part.job.state ≠ .authorize) (hout : s.part.job.topupOutstanding = true)
    (hframe : s.part.job.topupFrame = some ticket) (hleft : s.part.job.topupAttempts < 3) :
    let outbound := insertFrame (dropTicket s.part.line.outbound ticket)
      { ticket := s.part.line.nextTicket, dest := home
        message :=
          .holdMore (s.part.job.holdId.getD 0) s.part.job.number
            (min s.part.config.values.holdStep (100000 - s.part.job.amount)) }
    exec (.sendResult false) s =
      .next
        { s with
          part :=
            ({ s.part.droppedSend ticket with
                job :=
                  { s.part.job with
                    topupAttempts := s.part.job.topupAttempts + 1, topupDue := some (s.part.now + 400)
                    topupFrame := some s.part.line.nextTicket }
                line :=
                  { (s.part.droppedSend ticket).line with
                    outbound := outbound, nextTicket := s.part.line.nextTicket + 1
                    sending := outbound.head?.map OutFrame.ticket } } : Part).alert } := by
  intro outbound
  let dropped := s.part.droppedSend ticket
  let q : Part :=
    { dropped with
      job :=
        { s.part.job with
          topupAttempts := s.part.job.topupAttempts + 1, topupDue := some (s.part.now + 400)
          topupFrame := some s.part.line.nextTicket }
      line := { dropped.line with outbound := outbound, nextTicket := s.part.line.nextTicket + 1 } }
  have hgoes : dropped.refusesFrame home = false := Part.refusesFrame_active hactive hplace hother hknown
  have htops : dropped.sendFailed ticket = q := by
    have hdest : dropped.job.home.getD 0 = home := by
      rw [show dropped.job.home = some home from hhome]
      rfl
    rw [Part.sendFailed_topping (p := dropped) hstate hout hframe hleft, Part.topupAttempt_again (p := dropped) hout, hdest,
      Part.sendFrame_line hgoes, hgoes]
    rfl
  have hcalm : q.Calm :=
    (h.calm.topped (s.part.job.topupAttempts + 1) (some (s.part.now + 400)) (some s.part.line.nextTicket)).same ⟨rfl, rfl, rfl, rfl, rfl⟩
  exact exec_dropped_told h hsending hactive hscore hlast htops hcalm ⟨rfl, rfl, rfl⟩ ⟨hactive, rfl⟩

/-- A cancelled ask ends and gives its slot back (R26). -/
theorem exec_dropped_cancelled {c : CancelledAsk} (h : s.part.AtRest) (hsending : s.part.line.sending = some ticket)
    (hactive : s.part.line.state = .active) (hscore : s.part.line.score < 88)
    (hlast : s.part.line.outbound.any (fun f => decide (f.ticket = ticket) && decide (15 ≤ f.attempts)) = true)
    (hstate : s.part.job.state ≠ .authorize) (hout : s.part.job.topupOutstanding = false)
    (hc : s.part.settlement.cancelled = some c) (hframe : c.frame = some ticket) :
    exec (.sendResult false) s =
      .next
        { s with
          part :=
            ({ s.part.droppedSend ticket with
                settlement := { s.part.settlement with cancelled := none, reserved := s.part.settlement.reserved - 1 }
                line :=
                  { (s.part.droppedSend ticket).line with
                    sending := (dropTicket s.part.line.outbound ticket).head?.map OutFrame.ticket } } : Part).alert } := by
  let q : Part :=
    { s.part.droppedSend ticket with
      settlement := { s.part.settlement with cancelled := none, reserved := s.part.settlement.reserved - 1 } }
  have hq : (s.part.droppedSend ticket).sendFailed ticket = q :=
    Part.sendFailed_cancelled (p := s.part.droppedSend ticket) hstate hout hc hframe
  have hcalm : q.Calm := h.calm.same ⟨rfl, rfl, rfl, rfl, rfl⟩
  exact exec_dropped_told h hsending hactive hscore hlast hq hcalm ⟨rfl, rfl, rfl⟩ ⟨hactive, rfl⟩

end

theorem Part.withdrawn_eq (p : Part) (score : Nat) (frames : List OutFrame) :
    p.withdrawn score frames =
      { p with
        job := p.job.told frames p.now
        settlement := p.settlement.told frames
        line := { p.line with state := .withdrawn, score := score, rests := 0, outbound := [], sending := none }
        panel := p.panel.raise .line } := rfl

/-- Both ways into WITHDRAWN from GUARDED (R150, R151). -/
theorem withdrawals {s : State} (h : s.part.AtRest) (hguarded : s.part.line.state = .guarded) (hleft : s.part.AttemptsLeft) :
    let line := s.part.line
    let withdrawn := fun (score dropped : Nat) (answered : Bool) (sent : List (List Byte)) =>
      { s with
        part :=
          ({ s.part with
              job := s.part.job.told line.outbound s.part.now
              settlement := s.part.settlement.told line.outbound
              line :=
                { line with
                  state := .withdrawn, score := score, rests := 0, outbound := [], sending := none, answered := answered
                  dropped := dropped }
              outputs := { s.part.outputs with line := s.part.outputs.line ++ sent }
              panel := s.part.panel.raise .line } : Part).alert }
    (∀ ticket, line.sending = some ticket → 184 ≤ line.score →
        exec (.sendResult false) s =
          .next
            (withdrawn (min 255 (line.score + 8)) (s.part.droppedAfter ticket) line.answered
              ((line.outbound.find? (fun f => decide (f.ticket = ticket))).toList.map
                (fun f => frameBytes s.part.config.values.station f.dest f.message)))) ∧
      ∀ bytes, judge bytes = .bad → 191 ≤ line.score →
        exec (.frameReceived bytes) s = .next (withdrawn (min 255 (line.score + 1)) line.dropped false []) := by
  intro line withdrawn
  constructor
  · intro ticket hsending hscore
    have hexec := exec_sendResult_withdraws h hsending hguarded hleft hscore
    rw [Part.withdrawn_eq] at hexec
    exact hexec
  · intro bytes hbad hscore
    have hexec := exec_frameReceived_withdraws h hguarded hleft hbad hscore
    rw [Part.withdrawn_eq, Part.withLine] at hexec
    have hnothing : s.part.outputs.line ++ [] = s.part.outputs.line := List.append_nil _
    simp only [withdrawn, hnothing]
    exact hexec

/-- Settles O59: by the line state, and in ACTIVE by whether the send is answered, has an attempt left, and has an owner. -/
theorem sendsAreAnsweredOrCounted : Obligations.SendsAreAnsweredOrCounted := by
  refine ⟨?active, fun s h hguarded hleft => withdrawals h hguarded hleft,
    fun s ticket h hsending hguarded => exec_sendResult_guarded h hsending hguarded, ?owners⟩
  case active =>
    intro s ticket h hsending hactive line outputs others counted last
    obtain ⟨hanswered, hcounted, hdropped, hguarded⟩ := exec_sendResult_active h hsending hactive
    refine ⟨hanswered, hcounted, fun hscore hlast hask htopup hcancelled => ?_, hguarded⟩
    have hsame : counted.filter (fun f => decide (f.ticket ≠ ticket)) = dropTicket s.part.line.outbound ticket :=
      Part.dropTicket_countAttempt s.part.line.outbound ticket
    rw [hsame]
    exact hdropped hscore hlast hask htopup hcancelled
  case owners =>
    intro s ticket home h hsending hactive hscore hother hknown line job left hlast hplace becomes
    exact ⟨fun hhome hstate hframe hleft =>
        exec_dropped_asks h hsending hactive hscore hother hknown hlast hplace hhome hstate hframe hleft,
      fun hhome hstate hout hframe hleft =>
        exec_dropped_tops h hsending hactive hscore hother hknown hlast hplace hhome hstate hout hframe hleft,
      fun c hc hframe hstate hout => exec_dropped_cancelled h hsending hactive hscore hlast hstate hout hc hframe⟩

end Sys2Proof.Machine
end


section
/-! Facts about a part with no job and an empty response store: what its work does leaves it so (R182, R190). -/

-- One theorem after another: many small theorems elaborated at once need more threads than the check allows.
set_option Elab.async false

namespace Sys2Proof.Machine

open Sys2Proof

/-- No job, PERMIT released, no response and no reset waiting, and these responses read out so far. -/
def Part.Vacant (read : List (List Byte)) (p : Part) : Prop :=
  p.job = {} ∧ p.permit = false ∧ p.panel.response = none ∧ p.panel.resetWaits = false ∧ p.outputs.panel = read

namespace Part

variable {read : List (List Byte)}

theorem Vacant.same {p q : Part} (h : p.Vacant read)
    (hs : q.job = p.job ∧ q.permit = p.permit ∧ q.panel.response = p.panel.response ∧ q.panel.resetWaits = p.panel.resetWaits ∧
      q.outputs.panel = p.outputs.panel) : q.Vacant read := by
  obtain ⟨hjob, hpermit, hresponse, hwaits, hread⟩ := hs
  unfold Vacant
  rw [hjob, hpermit, hresponse, hwaits, hread]
  exact h

theorem Vacant.tryPost {p q : Part} {w : Write} {notes : List Note} (h : p.Vacant read) (hq : p.tryPost w notes = some q) :
    q.Vacant read := by
  obtain ⟨-, rfl⟩ := tryPost_eq_some.mp hq
  exact h

theorem Vacant.justPost {p : Part} {w : Write} {notes : List Note} {r : Part × List Task} (h : p.Vacant read)
    (hr : p.justPost w notes = some r) : r.1.Vacant read := by
  obtain ⟨q, hq, rfl⟩ := Option.map_eq_some_iff.mp hr
  exact h.tryPost hq

/-- A step whose post is followed by a change that leaves the part vacant. -/
theorem Vacant.tryPost_map {p : Part} {w : Write} {notes : List Note} {f : Part → Part × List Task} {r : Part × List Task}
    (h : p.Vacant read) (hr : (p.tryPost w notes).map f = some r) (hf : ∀ q : Part, q.Vacant read → (f q).1.Vacant read) :
    r.1.Vacant read := by
  obtain ⟨q, hq, rfl⟩ := Option.map_eq_some_iff.mp hr
  exact hf q (h.tryPost hq)

theorem Vacant.changeHold {p : Part} {slot : Nat} {value : Option HoldRecord} {notes : List Note} {r : Part × List Task}
    (h : p.Vacant read) (hr : (p.changeHold slot value notes).map (fun q => (q, [])) = some r) : r.1.Vacant read := by
  obtain ⟨q, hq, rfl⟩ := Option.map_eq_some_iff.mp hr
  obtain ⟨q', hq', rfl⟩ := Option.map_eq_some_iff.mp hq
  exact (h.tryPost hq').same (by simp)

theorem Vacant.unchanged {p : Part} {tasks : List Task} {r : Part × List Task} (h : p.Vacant read) (hr : some (p, tasks) = some r) :
    r.1.Vacant read := by
  cases hr
  exact h

theorem Vacant.sendFrame {p : Part} (h : p.Vacant read) (dest : Nat) (m : Message) : (p.sendFrame dest m).Vacant read := by
  rw [sendFrame_eq]
  exact h

/-! ### Answers of the hold table (R92, R102) -/

/-- With no job no answer is the open job's (R24). -/
theorem Vacant.answersJob {p : Part} (h : p.Vacant read) (source job : Nat) : p.answersJob source job = false := by
  obtain ⟨hjob, -⟩ := h
  simp [Part.answersJob, hjob]

theorem Vacant.takeGive {p : Part} (h : p.Vacant read) (source holdId job amount cls lifetime : Nat) :
    (p.takeGive source holdId job amount cls lifetime).Vacant read := by
  unfold Part.takeGive Part.cancelledGive
  rw [if_neg (by simp [h.answersJob])]
  split
  · cases p.settlement.cancelled with
    | none => exact h
    | some c =>
      dsimp only
      split
      · exact h.same (by simp)
      · exact h
  · exact h

theorem Vacant.takeDeny {p : Part} (h : p.Vacant read) (source job reason : Nat) : (p.takeDeny source job reason).Vacant read := by
  unfold Part.takeDeny
  rw [if_neg (by simp [h.answersJob])]
  split <;> exact h

theorem Vacant.takeGone {p : Part} (h : p.Vacant read) (source holdId job : Nat) : (p.takeGone source holdId job).Vacant read := by
  unfold Part.takeGone
  rw [if_neg (by simp [h.answersJob])]
  exact h

theorem Vacant.answerGive {p : Part} (h : p.Vacant read) (source slot holdId job : Nat) :
    (p.answerGive source slot holdId job).Vacant read := by
  unfold Part.answerGive
  cases tableGet p.ledger.holds slot with
  | none => exact h
  | some r =>
    dsimp only
    split
    · exact h
    · split
      · exact h.takeGive _ _ _ _ _ _
      · exact h.sendFrame _ _

theorem Vacant.answerDeny {p : Part} (h : p.Vacant read) (source job : Nat) (r : DenyReason) : (p.answerDeny source job r).Vacant read := by
  unfold Part.answerDeny
  split
  · exact h.takeDeny _ _ _
  · exact h.sendFrame _ _

theorem Vacant.answerGone {p : Part} (h : p.Vacant read) (source holdId job : Nat) : (p.answerGone source holdId job).Vacant read := by
  unfold Part.answerGone
  split
  · exact h.takeGone _ _ _
  · exact h.sendFrame _ _

theorem Vacant.decideAsk {p : Part} (h : p.Vacant read) (source account job wanted : Nat) :
    (p.decideAsk source account job wanted).1.Vacant read := by
  unfold Part.decideAsk
  split
  · exact h.answerDeny _ _ _
  · dsimp only
    split
    · exact h.answerDeny _ _ _
    · split
      · exact h.answerDeny _ _ _
      · split
        · exact h
        · split
          · exact h.answerDeny _ _ _
          · exact h

theorem Vacant.takeAsk {p : Part} (h : p.Vacant read) (source account job wanted : Nat) :
    (p.takeAsk source account job wanted).1.Vacant read := by
  unfold Part.takeAsk
  split
  · exact h
  · split
    · dsimp only
      split
      · exact h
      · exact h.answerGive _ _ _ _
    · exact h.decideAsk _ _ _ _

theorem Vacant.decideMore {p : Part} (h : p.Vacant read) (source increment slot spare : Nat) (r : HoldRecord) (restored : Bool) :
    (p.decideMore source increment slot spare r restored).1.Vacant read := by
  unfold Part.decideMore
  dsimp only
  split
  · exact h.answerDeny _ _ _
  · split
    · exact h.answerDeny _ _ _
    · exact h

theorem Vacant.takeMore {p : Part} (h : p.Vacant read) (source holdId job increment : Nat) :
    (p.takeMore source holdId job increment).1.Vacant read := by
  unfold Part.takeMore
  split
  · exact h
  · split
    · exact h.answerGone _ _ _
    · dsimp only
      split
      · exact h.decideMore _ _ _ _ _ _
      · exact h.answerGone _ _ _
      · split
        · exact h.decideMore _ _ _ _ _ _
        · exact h.answerGone _ _ _

theorem Vacant.takeKeep {p : Part} (h : p.Vacant read) (source holdId job : Nat) : (p.takeKeep source holdId job).1.Vacant read := by
  unfold Part.takeKeep
  split
  · exact h
  · split
    · exact h.answerGone _ _ _
    · split
      · exact h
      · exact h.answerGone _ _ _
      · split
        · exact h
        · exact h.answerGone _ _ _

/-! ### Entry into service (R192) -/

theorem Vacant.lineInService {p : Part} (h : p.Vacant read) : p.lineInService.Vacant read := by
  unfold Part.lineInService
  split
  · exact h
  · have hannounced : ((p.withLine { p.line with state := .active }).announceSelf).Vacant read :=
      Vacant.sendFrame (p := p.withLine { p.line with state := .active }) h _ _
    dsimp only
    split
    · exact hannounced
    · exact hannounced.sendFrame _ _

theorem Vacant.raise {p : Part} (h : p.Vacant read) (a : Alert) : (p.raise a).Vacant read := h

theorem Vacant.assigns {p : Part} (h : p.Vacant read) (homes : List Nat) :
    (homes.foldl (fun q home => q.assign .settlement [.intoFlight home]) p).Vacant read := by
  induction homes generalizing p with
  | nil => exact h
  | cons home homes ih => exact ih (p := p.assign .settlement [.intoFlight home]) h

theorem Vacant.enterService {p : Part} (h : p.Vacant read) : p.enterService.Vacant read := by
  have hline : (({ p with phase := .serving } : Part).lineInService).Vacant read := Vacant.lineInService h
  unfold Part.enterService
  extract_lets line told carded flying due swept low
  have hcarded : carded.Vacant read := hline
  have hswept : swept.Vacant read := hcarded.assigns _
  have hlow : low.Vacant read := by
    show (if swept.freeSlots ≤ 16 then swept.raise .journalLow else swept).Vacant read
    split <;> exact hswept
  split <;> exact hlow

theorem Vacant.handedOff {p : Part} (h : p.Vacant read) : p.handedOff.Vacant read := by
  obtain ⟨-, hrest⟩ := h
  exact ⟨rfl, hrest⟩

/-! ### One step, and all that follow (R164) -/

theorem Vacant.step {t : Task} {p : Part} {r : Part × List Task} (h : p.Vacant read) (hr : t.step p = some r) : r.1.Vacant read := by
  cases t <;> simp only [Task.step, always, Option.some.injEq] at hr
  case ask source account job wanted => exact hr ▸ h.takeAsk _ _ _ _
  case more source holdId job increment => exact hr ▸ h.takeMore _ _ _ _
  case keep source holdId job => exact hr ▸ h.takeKeep _ _ _
  case handedOff => exact hr ▸ h.handedOff
  case enterService => exact hr ▸ h.enterService
  case journalCount body =>
    refine h.tryPost_map hr fun q hq => ?_
    cases body.losable <;> exact hq
  case startWalk number => exact h.tryPost_map hr fun q hq => hq
  case carry =>
    unfold Part.stepCarry at hr
    split at hr
    · exact h.same (by cases hr; simp)
    · exact h.tryPost_map hr fun q hq => hq
  case endWalk =>
    refine h.tryPost_map hr fun q hq => ?_
    cases q.accounts.pendingClose <;> exact hq
  case markSettling holdId =>
    unfold Part.stepMarkSettling at hr
    split at hr
    · exact h.unchanged hr
    · exact h.changeHold hr
  case removeHold holdId notes =>
    unfold Part.stepRemoveHold at hr
    split at hr
    · exact h.unchanged hr
    · exact h.changeHold hr
  case debit =>
    unfold Part.stepDebit at hr
    split at hr
    · exact h.unchanged hr
    · split at hr
      · exact h.same (by cases hr; simp)
      · exact h.justPost hr
  case putEntry =>
    unfold Part.stepPutEntry at hr
    split at hr
    · cases hr
    · refine h.tryPost_map hr fun q hq => ?_
      dsimp only
      split <;> exact hq
  case countSend =>
    unfold Part.stepCountSend at hr
    split at hr
    · exact h.unchanged hr
    · exact h.justPost hr
  case vacate =>
    simp only [Part.stepVacate] at hr
    split at hr
    · exact h.same (by cases hr; simp)
    · exact h.justPost hr
  case removeEntry =>
    unfold Part.stepRemoveEntry at hr
    split at hr
    · exact h.unchanged hr
    · exact h.tryPost_map hr fun q hq => hq
  case recoverDebit =>
    unfold Part.stepRecoverDebit at hr
    split at hr
    · exact h.unchanged hr
    · exact h.justPost hr
  case quiet =>
    split at hr
    · exact h.unchanged hr
    · cases hr
  all_goals first
    | exact h.justPost hr
    | exact h.changeHold hr
    | exact h.same (by subst hr; simp)

/-- With no job the rules that follow an event have nothing to act on (R30, R31, R35, R36). -/
theorem Vacant.react {p : Part} (h : p.Vacant read) : p.react.Vacant read := by
  obtain ⟨hjob, hpermit, hrest⟩ := id h
  by_cases hs : p.phase = .serving
  · rw [react_notRunning hs (by simp [hjob]) (by simp [hjob])]
    exact ⟨by rw [hjob], rfl, hrest⟩
  · have hout : p.react = p := if_neg (by simpa [Part.serving] using hs)
    rw [hout]
    exact h

theorem Vacant.advanceFirst {p q : Part} {before after : List Work} (h : p.Vacant read) (hq : p.advanceFirst before after = some q) :
    q.Vacant read := by
  induction after generalizing before with
  | nil => cases hq
  | cons w after ih =>
    unfold Part.advanceFirst at hq
    split at hq
    · rename_i r hr
      cases hq
      split at hr
      · unfold Part.advance at hr
        split at hr
        · cases hr
          exact h
        · obtain ⟨next, hnext, rfl⟩ := Option.map_eq_some_iff.mp hr
          exact Vacant.step (p := p.withWork (before ++ after)) h hnext
      · cases hr
    · exact ih hq

/-- Work that goes on leaves the part vacant, however far it goes. -/
theorem Vacant.pump {p : Part} (h : p.Vacant read) (fuel : Nat) : (p.pump fuel).Vacant read := by
  induction fuel generalizing p with
  | zero => exact h
  | succ fuel ih =>
    have hfill : p.fill.Vacant read := h
    unfold Part.pump
    split
    · rename_i q hq
      obtain ⟨work, rfl⟩ := markWait_eq_some hq
      exact ih (p := p.fill.withWork work) hfill
    · split
      · exact hfill
      · rename_i q hq
        exact ih (hfill.advanceFirst hq).react

end Part

end Sys2Proof.Machine
end


section
/-! Proof that PANEL_READ carries the response out, and that RESET_STATION resets once its response is read (R167, R182, R191). -/

-- One theorem after another: many small theorems elaborated at once need more threads than the check allows.
set_option Elab.async false

namespace Sys2Proof.Machine

open Sys2Proof

namespace Part

/-- What PANEL_READ carries out: the response that waits, or one that says that none waits (section 12.5). -/
def responseRead (p : Part) : List Byte := (p.panel.response.getD noResponse).bytes

theorem responseRead_none {p : Part} (h : p.panel.response = none) : p.responseRead = [0, 0, 0, 0] := by
  unfold responseRead
  rw [h]
  decide

theorem responseRead_some {p : Part} {r : Response} (h : p.panel.response = some r) :
    p.responseRead = withCheck (field 1 r.code ++ field 1 r.result.code ++ field 1 r.body.length ++ r.body) := by
  unfold responseRead
  rw [h]
  rfl

/-- The part with its response read out (R182). -/
def responseOut (p : Part) : Part :=
  { p with
    panel := { p.panel with response := none, resetWaits := false }
    outputs := { p.outputs with panel := p.outputs.panel ++ [p.responseRead] } }

theorem panelRead_eq {p : Part} (h : p.phase = .serving) :
    p.panelRead = if p.panel.resetWaits then p.responseOut.beginSoftReset else p.responseOut := if_neg (by simp [h])

/-- The part whose drain begins with the response read out: no work waits at rest (R158, R191). -/
def resetDraining (p : Part) : Part :=
  { p.responseOut with
    phase := .draining false
    line := { p.line with answered := false }
    panel := { p.panel with response := none, resetWaits := false, flags := 0, reject := none } }

theorem panelRead_resets {p : Part} (h : p.AtRest) (hwaits : p.panel.resetWaits = true) : p.panelRead = p.resetDraining := by
  obtain ⟨hs, hwork, -⟩ := id h
  have hstore : ({ p.store with work := (p.store.work.filter (fun w => w.since.isSome)).map (fun w => { w with tasks := w.tasks.take 1 }) } :
      Store) = p.store := by
    rw [hwork]
    exact Store.of_noWork hwork
  rw [panelRead_eq hs, if_pos hwaits]
  unfold beginSoftReset
  rw [show p.responseOut.store = p.store from rfl, hstore, show p.responseOut.phase = .serving from hs]
  rfl

/-- Start-up without the load leaves a part with no job and an empty response store (R190). -/
theorem startUp_vacant (p : Part) : ((p.startUp false).goOn).Vacant p.outputs.panel := by
  have hstarts : (p.startUp false).Vacant p.outputs.panel := ⟨rfl, rfl, rfl, rfl, rfl⟩
  exact hstarts.pump pumpFuel

theorem Vacant.decided {read : List (List Byte)} {p : Part} (h : p.Vacant read) (before : Part) :
    ((p.journalLow before).alert).Vacant read := by
  unfold journalLow
  split <;> exact h

end Part

section
variable {s : State}

/-- With no reset waiting the response goes out, and nothing follows (R182). -/
theorem exec_panelRead_reads (h : s.part.AtRest) (hdecided : s.part.AlertDecided) (hno : s.part.panel.resetWaits = false) :
    exec .panelRead s =
      .next
        { s with
          part :=
            { s.part with
              panel := { s.part.panel with response := none }
              outputs := { s.part.outputs with panel := s.part.outputs.panel ++ [s.part.responseRead] } } } := by
  have heffect : Instr.effect .panelRead s.part = s.part.responseOut :=
    (Part.panelRead_eq h.1).trans (if_neg (by simp [hno]))
  have hsame : s.part.responseOut.alert =
      { s.part with
        panel := { s.part.panel with response := none }
        outputs := { s.part.outputs with panel := s.part.outputs.panel ++ [s.part.responseRead] } } := by
    unfold Part.alert
    rw [show s.part.responseOut.panel.drives = s.part.alertOut from hdecided.symm]
    unfold Part.responseOut
    rw [← hno]
  have hexec := event_rest h heffect ⟨rfl, rfl, rfl, rfl, rfl, rfl, rfl, rfl⟩ (Part.freeSlots_congr ⟨rfl, rfl, rfl, rfl⟩)
  rw [hsame] at hexec
  exact hexec

/-- With a reset waiting and a post left the drain begins, and ALERT is released (R186, R191). -/
theorem exec_panelRead_drains (h : s.part.AtRest) (hwaits : s.part.panel.resetWaits = true) (hqueue : s.part.store.queue ≠ []) :
    exec .panelRead s = .next { s with part := { s.part.resetDraining with alertOut := false } } := by
  obtain ⟨-, hwork, hpending, -⟩ := id h
  have hcommand := Part.command_drain_waits (load := false) (f := Instr.effect .panelRead) (Part.panelRead_resets h hwaits) rfl hwork
    hpending (.inl hqueue)
  have hsilent : s.part.resetDraining.alert = { s.part.resetDraining with alertOut := false } := by
    have hdrives : s.part.resetDraining.panel.drives = false := by
      show (s.part.panel.master && ((0 : Byte) &&& s.part.panel.enables != 0)) = false
      simp
    unfold Part.alert
    rw [hdrives]
  rw [exec_eq, Instr.result_event rfl, hcommand, hsilent]

/-- With a reset waiting and no post left start-up begins (R167, R190). -/
theorem exec_panelRead_starts (h : s.part.AtRest) (hwaits : s.part.panel.resetWaits = true) (hqueue : s.part.store.queue = [])
    (hpin : s.part.resetPin = false) :
    ∃ t, exec .panelRead s = .next t ∧ t.part.now = 0 ∧ t.part.path = {} ∧ t.part.config = s.part.config ∧
      t.part.store.stored = s.part.store.stored ∧ (t.part.phase = .recovering ∨ t.part.phase = .serving) ∧
      t.part.Vacant (s.part.outputs.panel ++ [s.part.responseRead]) := by
  obtain ⟨-, hwork, hpending, -⟩ := id h
  have hcommand := Part.command_drain_ends (load := false) (f := Instr.effect .panelRead) (Part.panelRead_resets h hwaits) rfl hwork
    hpending hqueue hpin
  obtain ⟨-, hnow, hpath, hconfig, hstored, hphase⟩ := s.part.resetDraining.startUp_recovery s.part
  have hvacant := (s.part.resetDraining.startUp_vacant).decided s.part
  refine ⟨_, exec_eq .panelRead s, ?_⟩
  rw [Instr.result_event rfl, hcommand]
  exact ⟨hnow, hpath, hconfig, hstored, hphase, hvacant⟩

end

/-- Settles O26: with a reset waiting the drain begins, and with no post left it ends at the same event. -/
theorem responsesAreReadAndResetWaits : Obligations.ResponsesAreReadAndResetWaits := by
  refine ⟨fun s h hdecided => ⟨fun hno => ?reads, fun hwaits hqueue => ?drains⟩, fun s h ho hr => ?reset, fun s h hwaits hqueue hpin => ?starts⟩
  case reads =>
    have hexec := exec_panelRead_reads h hdecided hno
    cases hresponse : s.part.panel.response with
    | none => rwa [Part.responseRead_none hresponse] at hexec
    | some r => rwa [Part.responseRead_some hresponse] at hexec
  case drains =>
    have hexec := exec_panelRead_drains h hwaits hqueue
    unfold Part.resetDraining Part.responseOut at hexec
    cases hresponse : s.part.panel.response with
    | none =>
      rw [Part.responseRead_none hresponse] at hexec
      exact hexec
    | some r =>
      rw [Part.responseRead_some hresponse] at hexec
      exact hexec
  case reset =>
    exact event_decided (decision := Part.resetRequest) h ho hr rfl ⟨rfl, rfl, rfl, rfl, rfl, rfl, rfl, rfl⟩ (le_refl _)
  case starts =>
    obtain ⟨t, hexec, hnow, hpath, hconfig, hstored, hphase, hjob, hpermit, hnone, hnowaits, hread⟩ :=
      exec_panelRead_starts h hwaits hqueue hpin
    refine ⟨t, hexec, hnow, hjob, hpath, hpermit, hnone, hnowaits, hconfig, hstored, ?_, hphase⟩
    cases hresponse : s.part.panel.response with
    | none => rwa [Part.responseRead_none hresponse] at hread
    | some r => rwa [Part.responseRead_some hresponse] at hread

end Sys2Proof.Machine
end


section
/-! Facts about how a post joins the queue, waits, or is kept as a pending value (R161, R162, R164, R165). -/

-- One theorem after another: many small theorems elaborated at once need more threads than the check allows.
set_option Elab.async false

namespace Sys2Proof.Machine

open Sys2Proof

/-! ### Coalescing (R162) -/

/-- The first waiting post of a record is replaced in place. -/
theorem replaceWaiting_found {old : Post} {w : Write} (hold : old.write.name = w.name) (notes : List Note) (behind : List Post) :
    ∀ {ahead : List Post}, (∀ x ∈ ahead, x.write.name ≠ w.name) →
      replaceWaiting (ahead ++ old :: behind) w notes = ahead ++ { write := w, notes := old.notes ++ notes } :: behind := by
  intro ahead
  induction ahead with
  | nil => exact fun _ => if_pos hold
  | cons x ahead ih =>
    intro hahead
    have hx : x.write.name ≠ w.name := hahead x (by simp)
    have hrest := ih fun y hy => hahead y (by simp [hy])
    have hskip : replaceWaiting (x :: (ahead ++ old :: behind)) w notes = x :: replaceWaiting (ahead ++ old :: behind) w notes :=
      if_neg hx
    rw [List.cons_append, hskip, hrest, List.cons_append]

namespace Store

/-- The posts that wait, behind the one that is being programmed (R161). -/
theorem waiting_behind {q : Store} {busy rest : List Post} (hqueue : q.queue = busy ++ rest)
    (hbusy : q.starting = false ∧ busy.length = 1 ∨ q.starting = true ∧ busy = []) : q.programming = busy ∧ q.waiting = rest := by
  unfold programming waiting
  rw [hqueue]
  rcases hbusy with ⟨hstarting, hone⟩ | ⟨hstarting, rfl⟩
  · obtain ⟨first, rfl⟩ := List.length_eq_one_iff.mp hone
    rw [hstarting]
    exact ⟨rfl, rfl⟩
  · rw [hstarting]
    exact ⟨rfl, rfl⟩

theorem merges_of_waiting {q : Store} {w : Write} {x : Post} (hw : coalesces w = true) (hx : x ∈ q.waiting)
    (hname : x.write.name = w.name) : q.merges w = true := by
  unfold merges
  rw [hw, Bool.true_and, List.any_eq_true]
  exact ⟨x, hx, decide_eq_true hname⟩

theorem merges_none {q : Store} {w : Write} (h : ∀ x ∈ q.waiting, x.write.name ≠ w.name) : q.merges w = false := by
  unfold merges
  rw [Bool.and_eq_false_iff]
  right
  simpa using h

theorem merges_never {q : Store} {w : Write} (h : coalesces w = false) : q.merges w = false := by
  unfold merges
  rw [h, Bool.false_and]

/-- A post that coalesces takes the place of the waiting one (R162). -/
theorem post_replaces {q : Store} {old : Post} {busy ahead behind : List Post} {w : Write} (hw : coalesces w = true)
    (hqueue : q.queue = busy ++ (ahead ++ old :: behind))
    (hbusy : q.starting = false ∧ busy.length = 1 ∨ q.starting = true ∧ busy = []) (hold : old.write.name = w.name)
    (hahead : ∀ x ∈ ahead, x.write.name ≠ w.name) (notes : List Note) :
    q.post w notes = { q with queue := busy ++ (ahead ++ { write := w, notes := old.notes ++ notes } :: behind) } := by
  obtain ⟨hprogramming, hwaiting⟩ := waiting_behind hqueue hbusy
  have hmerges : q.merges w = true := merges_of_waiting (x := old) hw (by rw [hwaiting]; simp) hold
  unfold post
  rw [if_pos hmerges, hprogramming, hwaiting, replaceWaiting_found hold notes behind hahead]

/-- A post that replaces none goes to the tail (R161). -/
theorem post_tail {q : Store} {w : Write} (h : q.merges w = false) (notes : List Note) :
    q.post w notes = { q with queue := q.queue ++ [{ write := w, notes := notes }] } := if_neg (by simp [h])

/-! ### No place (R164, R165) -/

theorem hasPlace_full {q : Store} {w : Write} (hfull : 8 ≤ q.queue.length) (hmerges : q.merges w = false) : q.hasPlace w = false := by
  unfold hasPlace
  rw [hmerges, Bool.or_false]
  exact decide_eq_false (by rw [show Config.queuePlaces = 8 from rfl]; omega)

theorem postRunning_full {q : Store} {w : Write} (hfull : 8 ≤ q.queue.length) (hmerges : q.merges w = false) :
    q.postRunning w = { q with pending := keepPending q.pending w } := by
  unfold postRunning
  rw [if_neg (by simp [hasPlace_full hfull hmerges])]

end Store

/-- A first pending value of its record goes behind the others (R165). -/
theorem keepPending_new {pending : List Write} {w : Write} (h : ∀ v ∈ pending, v.name ≠ w.name) :
    keepPending pending w = pending ++ [w] := by
  induction pending with
  | nil => rfl
  | cons v pending ih =>
    have hv : v.name ≠ w.name := h v (by simp)
    unfold keepPending
    rw [if_neg hv, ih fun x hx => h x (by simp [hx]), List.cons_append]

/-- A newer pending value takes the place of the older one (R165). -/
theorem keepPending_newer {old w : Write} {behind : List Write} (hold : old.name = w.name) :
    ∀ {ahead : List Write}, (∀ v ∈ ahead, v.name ≠ w.name) → keepPending (ahead ++ old :: behind) w = ahead ++ w :: behind := by
  intro ahead
  induction ahead with
  | nil => exact fun _ => if_pos hold
  | cons v ahead ih =>
    intro hahead
    have hv : v.name ≠ w.name := hahead v (by simp)
    have hskip : keepPending (v :: (ahead ++ old :: behind)) w = v :: keepPending (ahead ++ old :: behind) w := if_neg hv
    rw [List.cons_append, hskip, ih fun x hx => hahead x (by simp [hx]), List.cons_append]

theorem joinPending_full {pending : List Write} {queue : List Post} (hfull : 8 ≤ queue.length) :
    joinPending pending queue = (queue, pending) := by
  cases pending with
  | nil => rfl
  | cons w rest => exact if_neg (by rw [show Config.queuePlaces = 8 from rfl]; omega)

/-- One free place goes to the oldest pending value (R164). -/
theorem joinPending_one {w : Write} {more : List Write} {queue : List Post} (hplace : queue.length = 7) :
    joinPending (w :: more) queue = (queue ++ [{ write := w, notes := [] }], more) := by
  unfold joinPending
  rw [if_pos (by rw [hplace]; decide), joinPending_full (by simp [hplace])]

/-- The clearing of the checkpoint withdraws a waiting value, and then finds its place or is kept as a pending value (R162, R165). -/
theorem Store.clearCheckpoint_kept {q : Store} {first : Post} {rest : List Post} (hstarting : q.starting = false)
    (hqueue : q.queue = first :: rest) (hpending : q.pending = []) (hplaces : q.queue.length ≤ 8) :
    let kept := first :: rest.filter (fun x => !setsCheckpoint x)
    q.clearCheckpoint =
      if kept.length < 8 then { q with queue := kept ++ [{ write := .checkpoint none, notes := [] }] }
      else { q with queue := kept, pending := [.checkpoint none] } := by
  intro kept
  have hmerges : q.merges (.checkpoint none) = false := merges_never rfl
  have hkept : kept.length ≤ q.queue.length := by
    rw [hqueue]
    exact Nat.succ_le_succ (List.length_filter_le _ _)
  by_cases hplace : q.queue.length < 8
  · have hposted : q.postRunning (.checkpoint none) =
        { q with queue := first :: (rest ++ [{ write := .checkpoint none, notes := [] }]) } := by
      unfold postRunning
      rw [if_pos (by simp [hasPlace, Config.queuePlaces, hplace]), post_tail hmerges, hqueue]
      rfl
    have hfiltered : (rest ++ [({ write := .checkpoint none, notes := [] } : Post)]).filter (fun x => !setsCheckpoint x) =
        rest.filter (fun x => !setsCheckpoint x) ++ [{ write := .checkpoint none, notes := [] }] := by
      rw [List.filter_append]
      rfl
    let posted : Store := { q with queue := first :: (rest ++ [{ write := .checkpoint none, notes := [] }]) }
    obtain ⟨hprogramming, hwaiting⟩ := waiting_behind (q := posted) (busy := [first])
      (rest := rest ++ [{ write := .checkpoint none, notes := [] }]) rfl (.inl ⟨hstarting, rfl⟩)
    rw [if_pos (by omega)]
    unfold clearCheckpoint
    rw [hposted]
    dsimp only
    rw [hprogramming, hwaiting, hfiltered]
    exact fill_empty hpending
  · have hposted : q.postRunning (.checkpoint none) = { q with pending := [.checkpoint none] } := by
      rw [postRunning_full (by omega) hmerges, hpending]
      rfl
    let posted : Store := { q with pending := [.checkpoint none] }
    obtain ⟨hprogramming, hwaiting⟩ := waiting_behind (q := posted) (busy := [first]) hqueue (.inl ⟨hstarting, rfl⟩)
    unfold clearCheckpoint
    rw [hposted]
    dsimp only
    rw [hprogramming, hwaiting]
    show ({ q with queue := (joinPending [.checkpoint none] kept).1, pending := (joinPending [.checkpoint none] kept).2 } : Store) = _
    by_cases hroom : kept.length < 8
    · have hjoins : joinPending [.checkpoint none] kept = (kept ++ [{ write := .checkpoint none, notes := [] }], []) := by
        unfold joinPending
        exact if_pos hroom
      rw [if_pos hroom, hjoins, ← hpending]
    · rw [if_neg hroom, joinPending_full (by omega)]

end Sys2Proof.Machine
end


section
/-! Proof that a place freed by WRITE_COMPLETE goes to the oldest pending value, and without one to the owner whose wait began first
(R161, R164). -/

-- One theorem after another: many small theorems elaborated at once need more threads than the check allows.
set_option Elab.async false

namespace Sys2Proof.Machine

open Sys2Proof

namespace Part

/-! ### Works that all wait for a place (R164) -/

theorem fill_full {p : Part} (hfull : 8 ≤ p.store.queue.length) : p.fill = p := by
  unfold fill Store.fill
  rw [joinPending_full hfull]

theorem markWait_waiting {p : Part} (h : ∀ w ∈ p.store.work, w.since.isSome = true) : p.markWait = none := by
  have hnone : p.store.work.find? p.marksWait = none := by
    rw [List.find?_eq_none]
    intro w hw
    unfold marksWait
    have hsince : w.since.isNone = false := by
      have := h w hw
      cases hs : w.since <;> simp_all
    simp [hsince]
  unfold markWait
  rw [hnone]
  rfl

theorem advanceFirst_waits {p : Part} {after : List Work} (h : ∀ w ∈ after, ∀ others, p.advance w others = none) (before : List Work) :
    p.advanceFirst before after = none := by
  induction after generalizing before with
  | nil => rfl
  | cons w after ih =>
    unfold advanceFirst
    rw [h w (by simp), ite_self]
    exact ih (fun x hx => h x (by simp [hx])) _

/-- With the queue full, once free places are given, and every work waiting on a post that finds no place, nothing goes on. -/
theorem pump_fills {p q : Part} (hfill : p.fill = q) (hsince : ∀ w ∈ q.store.work, w.since.isSome = true)
    (h : ∀ w ∈ q.store.work, ∀ others, q.advance w others = none) (fuel : Nat) : p.pump fuel = q := by
  cases fuel with
  | zero => exact hfill
  | succ fuel =>
    unfold pump
    rw [hfill, markWait_waiting hsince]
    dsimp only
    rw [advanceFirst_waits h]

theorem pump_waits {p : Part} (hfull : 8 ≤ p.store.queue.length) (hsince : ∀ w ∈ p.store.work, w.since.isSome = true)
    (h : ∀ w ∈ p.store.work, ∀ others, p.advance w others = none) (fuel : Nat) : p.pump fuel = p :=
  pump_fills (fill_full hfull) hsince h fuel

/-- A step that is a post finds no place in a full queue in which it replaces none (R162, R164). -/
theorem advance_waits {p : Part} {w : Work} {t : Task} {tasks : List Task} {write : Write} {notes : List Note}
    (htasks : w.tasks = t :: tasks) (hstep : ∀ q, t.step q = q.justPost write notes) (hfull : 8 ≤ p.store.queue.length)
    (hnew : ∀ z ∈ p.store.queue, z.write.name ≠ write.name) (others : List Work) : p.advance w others = none := by
  have hmerges : (p.withWork others).store.merges write = false := by
    refine Store.merges_none fun z hz => hnew z ?_
    unfold Store.waiting at hz
    split at hz
    · exact hz
    · exact List.mem_of_mem_tail hz
  have hnone : (p.withWork others).tryPost write notes = none := by
    unfold tryPost
    rw [if_neg (by simp [Store.hasPlace_full (q := (p.withWork others).store) hfull hmerges])]
  unfold advance
  rw [htasks]
  dsimp only
  rw [hstep, justPost, hnone]
  rfl

/-- A work whose last step is a post that finds a place makes it, and is done (R161, R164). -/
theorem advance_posts {p : Part} {w : Work} {t : Task} {write : Write} {notes : List Note} (htasks : w.tasks = [t])
    (hstep : ∀ q, t.step q = q.justPost write notes) (hplace : p.store.queue.length < 8)
    (hnew : ∀ z ∈ p.store.queue, z.write.name ≠ write.name) (others : List Work) :
    p.advance w others = some ((p.withWork others).joined [{ write := write, notes := notes }]) := by
  have hmerges : (p.withWork others).store.merges write = false := by
    refine Store.merges_none fun z hz => hnew z ?_
    unfold Store.waiting at hz
    split at hz
    · exact hz
    · exact List.mem_of_mem_tail hz
  unfold advance
  rw [htasks]
  dsimp only
  rw [hstep, justPost, tryPost_appends (p := p.withWork others) hplace hmerges]
  rfl

/-- The first of an owner's works, begun in its own block, has the block (R164). -/
theorem canRun_begun {w : Work} (hbegun : w.begun = true) (howner : w.owner = w.block) (rest : List Work) : canRun (w :: rest) w = true := by
  have hholder : holder (w :: rest) w.block = some w := by
    unfold holder
    rw [List.find?_cons_of_pos (by simp [hbegun, howner])]
  simp [canRun, hholder, ownerFree, hbegun]

/-! ### The completion that frees a place (R161) -/

/-- In service the completion of a post without notes gives the freed place, and begins the next programming, when what then waits goes
on waiting. -/
theorem writeComplete_gives {p q : Part} {post : Post} {rest : List Post} (hcalm : p.Calm) (hqueue : p.store.queue = post :: rest)
    (hmore : rest ≠ []) (hnotes : post.notes = []) (hpump : ((p.programOldest post rest).setStarting true).pump pumpFuel = q)
    (hq : q.Calm) (hpath : q.path.sheets = p.path.sheets) (hstops : q.pump pumpFuel = q) : p.writeComplete = q.setStarting false := by
  have hstarts : (!rest.isEmpty) = true := by simp [hmore]
  have hfollow : q.follow p = q := by
    unfold follow
    rw [hq.1]
    dsimp only
    rw [reactIdle_path hpath, hq.react, goOn_serving hq.1, hstops]
  rw [writeComplete_serving hcalm.1 hqueue, hnotes, List.foldl_nil, hstarts, hpump, hfollow]

end Part

/-- The whole of that command. -/
theorem exec_writeComplete_gives {s : State} {q : Part} {post : Post} {rest : List Post} (hcalm : s.part.Calm)
    (hqueue : s.part.store.queue = post :: rest) (hmore : rest ≠ []) (hnotes : post.notes = [])
    (hpump : ((s.part.programOldest post rest).setStarting true).pump pumpFuel = q) (hq : q.Calm)
    (hpath : q.path.sheets = s.part.path.sheets) (hstops : ∀ starting, (q.setStarting starting).pump pumpFuel = q.setStarting starting)
    (hstarting : q.store.starting = true) (hfree : q.freeSlots = s.part.freeSlots) :
    exec .writeComplete s = .next { s with part := (q.setStarting false).alert } := by
  let r := q.setStarting false
  have hr : r.Calm := hq.same ⟨rfl, rfl, rfl, rfl, rfl⟩
  have hsame : q.setStarting true = q := by
    unfold Part.setStarting
    rw [← hstarting]
  have heffect : Instr.effect .writeComplete s.part = r :=
    Part.writeComplete_gives hcalm hqueue hmore hnotes hpump hq hpath (by rw [← hsame]; exact hstops true)
  have hfollow : r.follow s.part = r := by
    unfold Part.follow
    rw [hr.1]
    dsimp only
    rw [Part.reactIdle_path (p := r) hpath, hr.react, Part.goOn_serving hr.1, hstops false]
  rw [exec_eq, Instr.result_event rfl, Part.command, heffect, hfollow, Part.journalLow_same]
  exact (Part.freeSlots_congr ⟨rfl, rfl, rfl, rfl⟩).trans hfree


/-! ### Two owners that wait (R164) -/

theorem Write.isRunning_name {w : Write} (h : w.isRunning = true) (slot station : Nat) :
    w.name ≠ .account slot ∧ w.name ≠ .mark station := by
  cases w with
  | meter index value => exact ⟨fun hname => (by cases hname), fun hname => (by cases hname)⟩
  | checkpoint value => exact ⟨fun hname => (by cases hname), fun hname => (by cases hname)⟩
  | counter c value => exact ⟨fun hname => (by cases hname), fun hname => (by cases hname)⟩
  | _ => cases h

section
variable {s : State} {post : Post} {rest : List Post} {x y : Work} {slot station job began since : Nat} {value : AccountSlot}
  {xs ys : List Note}

/-- A work of the account table and one of the settlement unit, each at a post that may find no place. -/
def accountWaits (slot began : Nat) (value : AccountSlot) (notes : List Note) : Work where
  owner := .account
  tasks := [.putAccount slot value notes]
  begun := true
  since := some began

def markWaits (station job since : Nat) (notes : List Note) : Work where
  owner := .settlement
  tasks := [.putMark station job notes]
  begun := true
  since := some since

theorem Part.advance_accountWaits {p : Part} (hfull : 8 ≤ p.store.queue.length)
    (hnew : ∀ z ∈ p.store.queue, z.write.name ≠ .account slot) (others : List Work) :
    p.advance (accountWaits slot began value xs) others = none :=
  p.advance_waits (write := .account slot value) (notes := xs) rfl (fun _ => rfl) hfull hnew others

theorem Part.advance_markWaits {p : Part} (hfull : 8 ≤ p.store.queue.length)
    (hnew : ∀ z ∈ p.store.queue, z.write.name ≠ .mark station) (others : List Work) :
    p.advance (markWaits station job since ys) others = none :=
  p.advance_waits (write := .mark station job) (notes := ys) rfl (fun _ => rfl) hfull hnew others

/-- The part after the completion, before the freed place is given (R161). -/
def Part.freed (p : Part) (post : Post) (rest : List Post) : Part := (p.programOldest post rest).setStarting true

theorem Part.freed_freeSlots {p : Part} (hqueue : p.store.queue = post :: rest) : (p.freed post rest).freeSlots = p.freeSlots := by
  have hledger : (p.freed post rest).ledger = p.ledger := Store.newest_programmed hqueue
  unfold freeSlots
  rw [hledger]
  rfl

/-- The freed place goes to the oldest pending value (R164). -/
theorem exec_writeComplete_pending {w : Write} {more : List Write} (hcalm : s.part.Calm) (hqueue : s.part.store.queue = post :: rest)
    (hrest : rest.length = 7) (hnotes : post.notes = []) (hnames : ∀ z ∈ rest, z.write.name ≠ .account slot ∧ z.write.name ≠ .mark station)
    (hwork : s.part.store.work = [accountWaits slot began value xs, markWaits station job since ys])
    (hpending : s.part.store.pending = w :: more) (hruns : w.isRunning = true) :
    exec .writeComplete s =
      .next
        { s with
          part :=
            ({ s.part with
                store :=
                  { stored := program s.part.store.stored post.write, queue := rest ++ [{ write := w, notes := [] }], pending := more
                    work := [accountWaits slot began value xs, markWaits station job since ys] } } : Part).alert } := by
  let queue := rest ++ [({ write := w, notes := [] } : Post)]
  let q : Part :=
    { s.part with
      store :=
        { stored := program s.part.store.stored post.write, queue := queue, pending := more
          work := [accountWaits slot began value xs, markWaits station job since ys], starting := true } }
  obtain ⟨haccount, hmark⟩ := Write.isRunning_name hruns slot station
  have hqueued (z : Post) (hz : z ∈ queue) : z.write.name ≠ .account slot ∧ z.write.name ≠ .mark station := by
    rcases List.mem_append.mp hz with hz | hz
    · exact hnames z hz
    · rw [List.mem_singleton.mp hz]
      exact ⟨haccount, hmark⟩
  have hfull : 8 ≤ queue.length := by simp [queue, hrest]
  have hwaits (starting : Bool) : (∀ v ∈ (q.setStarting starting).store.work, v.since.isSome = true) ∧
      ∀ v ∈ (q.setStarting starting).store.work, ∀ others, (q.setStarting starting).advance v others = none := by
    refine ⟨fun v hv => ?_, fun v hv others => ?_⟩ <;> rcases List.mem_pair.mp hv with rfl | rfl
    · rfl
    · rfl
    · exact Part.advance_accountWaits (p := q.setStarting starting) hfull (fun z hz => (hqueued z hz).1) others
    · exact Part.advance_markWaits (p := q.setStarting starting) hfull (fun z hz => (hqueued z hz).2) others
  have hfill : (s.part.freed post rest).fill = q := by
    have hjoins := joinPending_one (w := w) (more := more) hrest
    have hstore : (s.part.freed post rest).store =
        { stored := program s.part.store.stored post.write, queue := rest, pending := w :: more
          work := [accountWaits slot began value xs, markWaits station job since ys], starting := true } := by
      rw [← hpending, ← hwork]
      rfl
    unfold Part.fill
    rw [hstore]
    unfold Store.fill
    dsimp only
    rw [hjoins]
    rfl
  have hfree : q.freeSlots = s.part.freeSlots := by
    have hledger : q.ledger = s.part.ledger := by
      unfold Part.ledger Store.newest
      simp only [q, queue, hqueue, hpending, List.map_append, List.map_cons, List.map_nil, List.foldl_append, List.foldl_cons,
        List.foldl_nil]
    unfold Part.freeSlots
    rw [hledger]
  exact exec_writeComplete_gives (q := q) hcalm hqueue (by rintro rfl; cases hrest) hnotes
    (Part.pump_fills hfill (hwaits true).1 (hwaits true).2 pumpFuel) (hcalm.same ⟨rfl, rfl, rfl, rfl, rfl⟩) rfl
    (fun starting => Part.pump_waits hfull (hwaits starting).1 (hwaits starting).2 pumpFuel) rfl hfree

/-- The part once the freed place is given to an owner that waited, and the others wait on (R164). -/
def Part.given (p : Part) (post : Post) (posts : List Post) (work : List Work) (starting : Bool) : Part :=
  { p with
    store :=
      { stored := program p.store.stored post.write, queue := posts, pending := p.store.pending, work := work, starting := starting } }

theorem Part.joined_freed (p : Part) (post : Post) (rest posts : List Post) (work : List Work) :
    ((p.freed post rest).withWork work).joined posts = p.given post (rest ++ posts) work true := by
  simp only [freed, joined, withWork, setStarting, programOldest, given]

theorem Part.given_calm {p : Part} (h : p.Calm) (post : Post) (posts : List Post) (work : List Work) (starting : Bool) :
    (p.given post posts work starting).Calm := h.same ⟨rfl, rfl, rfl, rfl, rfl⟩

/-- Without one the freed place goes to the work whose wait began first, which goes on; the other waits (R164). -/
theorem exec_writeComplete_waiting {first other : Work} {write : Write} {notes : List Note} {t : Task} (hcalm : s.part.Calm)
    (hqueue : s.part.store.queue = post :: rest) (hrest : rest.length = 7) (hnotes : post.notes = [])
    (hnew : ∀ z ∈ rest, z.write.name ≠ write.name) (hplain : ∀ l, (program l write).journalSequence = l.journalSequence ∧
      (program l write).releaseMark = l.releaseMark)
    (hwork : s.part.store.work = [first, other]) (hpending : s.part.store.pending = []) (htasks : first.tasks = [t])
    (hstep : ∀ q, t.step q = q.justPost write notes) (hbegun : first.begun = true) (howner : first.owner = first.block)
    (hfirst : first.since.isSome = true) (hother : other.since.isSome = true)
    (hwaits : ∀ q : Part, q.store.queue = rest ++ [{ write := write, notes := notes }] → ∀ others, q.advance other others = none) :
    exec .writeComplete s =
      .next
        { s with
          part :=
            ({ s.part with
                store :=
                  { stored := program s.part.store.stored post.write, queue := rest ++ [{ write := write, notes := notes }], pending := []
                    work := [other] } } : Part).alert } := by
  let freed := s.part.freed post rest
  let queue := rest ++ [({ write := write, notes := notes } : Post)]
  have hfreed : freed.store.work = [first, other] := hwork
  have hfull : 8 ≤ queue.length := by simp [queue, hrest]
  have hstops (starting : Bool) (fuel : Nat) :
      (s.part.given post queue [other] starting).pump fuel = s.part.given post queue [other] starting := by
    refine Part.pump_waits (p := s.part.given post queue [other] starting) hfull (fun v hv => ?_) (fun v hv others => ?_) fuel
    · rw [List.mem_singleton.mp hv]
      exact hother
    · rw [List.mem_singleton.mp hv]
      exact hwaits (s.part.given post queue [other] starting) rfl others
  have hq : (s.part.given post queue [other] true).Calm := Part.given_calm hcalm _ _ _ _
  have hadvance : freed.advanceFirst [] freed.store.work = some (s.part.given post queue [other] true) := by
    rw [hfreed, ← s.part.joined_freed post rest]
    refine Part.advanceFirst_runs (before := []) (by rw [hfreed]; exact Part.canRun_begun hbegun howner _) ?_
    exact Part.advance_posts (p := freed) htasks hstep (by show rest.length < 8; omega) hnew [other]
  have hmark : freed.markWait = none := Part.markWait_waiting fun v hv => by
    rw [hfreed] at hv
    rcases List.mem_pair.mp hv with rfl | rfl
    · exact hfirst
    · exact hother
  have hpump : freed.pump pumpFuel = s.part.given post queue [other] true := by
    rw [show pumpFuel = 4095 + 1 from rfl, Part.pump_advances (p := freed) hpending hmark hadvance, hq.react]
    exact hstops true 4095
  have hfree : (s.part.given post queue [other] true).freeSlots = s.part.freeSlots := by
    rw [← s.part.joined_freed post rest,
      Part.freeSlots_joined (p := freed.withWork [other]) hpending _ fun z hz l => by rw [List.mem_singleton.mp hz]; exact hplain l]
    exact (Part.freeSlots_congr ⟨rfl, rfl, rfl, rfl⟩).trans (Part.freed_freeSlots hqueue)
  have hexec := exec_writeComplete_gives hcalm hqueue (by rintro rfl; cases hrest) hnotes hpump hq rfl
    (fun starting => hstops starting pumpFuel) rfl hfree
  rw [← hpending]
  exact hexec

end

end Sys2Proof.Machine
end


section
/-! Proof that a post coalesces, waits or is kept as a pending value, and that an owner without a place waits with its step (R104, R161,
R162, R164, R165). -/

-- One theorem after another: many small theorems elaborated at once need more threads than the check allows.
set_option Elab.async false

namespace Sys2Proof.Machine

open Sys2Proof

namespace Part

/-! ### A work that begins to wait (R164) -/

/-- A work that is alone, at a post that finds no place, waits from now. -/
theorem markWait_begins {p : Part} {owner : Owner} {t : Task} {tasks : List Task} {begun : Bool} {write : Write}
    (hwrite : t.write (p.withWork [{ owner := owner, tasks := t :: tasks, begun := begun }]) = some write)
    (hplace : p.store.hasPlace write = false) :
    (p.withWork [{ owner := owner, tasks := t :: tasks, begun := begun }]).markWait =
      some (p.withWork [{ owner := owner, tasks := t :: tasks, begun := true, since := some p.now }]) := by
  let w : Work := { owner := owner, tasks := t :: tasks, begun := begun }
  have hmarks : (p.withWork [w]).marksWait w = true := by
    have hrun : canRun (p.withWork [w]).store.work w = true := canRun_single w
    have hnone : (p.withWork [w]).store.hasPlace write = false := hplace
    unfold marksWait
    rw [hrun]
    dsimp only [w]
    rw [hwrite]
    dsimp only
    rw [hnone]
    rfl
  unfold markWait
  rw [show (p.withWork [w]).store.work = [w] from rfl, List.find?_cons_of_pos hmarks]
  simp [w, withWork]

end Part

section
variable {s : State} {ahead behind : List InFrame} {source dest holdId job slot : Nat} {r : HoldRecord}

/-- The hold table at the post of a touched record (R96, R104). -/
def touchWaits (slot now : Nat) (value : HoldRecord) : Work where
  owner := .hold
  tasks := [.putHold slot value []]
  begun := true
  since := some now

/-- The part whose hold table waits for a place (R164). -/
def Part.holdWaits (p : Part) (slot : Nat) (value : HoldRecord) : Part := p.withWork [touchWaits slot p.now value]

/-- A post of a hold record replaces none, and finds no place in a full queue (R162, R164). -/
theorem Part.hold_noPlace {p : Part} (hfull : 8 ≤ p.store.queue.length) (value : Option HoldRecord) :
    p.store.hasPlace (.hold slot value) = false :=
  Store.hasPlace_full hfull (Store.merges_never rfl)

theorem Part.holdWaits_pump {p : Part} (hfull : 8 ≤ p.store.queue.length) (value : HoldRecord) (fuel : Nat) :
    (p.holdWaits slot value).pump fuel = p.holdWaits slot value := by
  refine Part.pump_waits (p := p.holdWaits slot value) hfull (fun w hw => ?_) (fun w hw others => ?_) fuel
  · rw [List.mem_singleton.mp hw]
    rfl
  · rw [List.mem_singleton.mp hw]
    have hnone : ((p.holdWaits slot value).withWork others).tryPost (.hold slot (some value)) [] = none :=
      if_neg (by simp [hold_noPlace (p := (p.holdWaits slot value).withWork others) hfull])
    have hstep : (Task.putHold slot value []).step ((p.holdWaits slot value).withWork others) = none := by
      show (((p.holdWaits slot value).withWork others).changeHold slot (some value) []).map _ = none
      unfold changeHold
      rw [hnone]
      rfl
    show ((Task.putHold slot value []).step ((p.holdWaits slot value).withWork others)).map _ = none
    rw [hstep]
    rfl

/-- The hold table that waits takes no request and makes no visit (R104, R164). -/
theorem exec_holdWaits {p : Part} {c : Instr} (hp : p.Calm) (hfull : 8 ≤ p.store.queue.length) (value : HoldRecord)
    (hpart : s.part = (p.holdWaits slot value).alert)
    (hc : c ∈ [Instr.holdAsk, Instr.holdMore, Instr.holdKeep, Instr.sweepVisit]) : exec c s = .next s := by
  let q := p.holdWaits slot value
  have hq : q.Calm := hp.same ⟨rfl, rfl, rfl, rfl, rfl⟩
  have hbusy : q.alert.busy .hold = true := rfl
  have hserving : q.alert.phase = .serving := hp.1
  have htaken (act : Part → InFrame → Option Part) :
      inService (fun p => p.takeWhenReady .hold Message.isHoldRequest act) q.alert = q.alert := by
    rw [inService_serving hserving]
    exact if_pos hbusy
  have hsweeps : inService Part.sweep q.alert = q.alert := by
    rw [inService_serving hserving]
    unfold Part.sweep
    cases q.alert.holds.due with
    | none => rfl
    | some due => exact if_pos (by rw [hbusy]; rfl)
  have heffect : Instr.effect c s.part = q.alert ∧ Instr.isBare c = false := by
    rw [hpart]
    simp only [List.mem_cons, List.not_mem_nil, or_false] at hc
    rcases hc with rfl | rfl | rfl | rfl
    · exact ⟨htaken _, rfl⟩
    · exact ⟨htaken _, rfl⟩
    · exact ⟨htaken _, rfl⟩
    · exact ⟨hsweeps, rfl⟩
  have hcalm : q.alert.Calm := hq.same ⟨rfl, rfl, rfl, rfl, rfl⟩
  have hfollow : q.alert.follow s.part = q.alert := by
    have hpath : q.alert.path.sheets = s.part.path.sheets := by rw [hpart]
    have hpump : q.alert.pump pumpFuel = q.alert := Part.holdWaits_pump (p := p.alert) hfull value pumpFuel
    unfold Part.follow
    rw [hserving]
    dsimp only
    rw [Part.reactIdle_path hpath, hcalm.react, Part.goOn_serving hserving, hpump]
  rw [exec_eq, Instr.result_event heffect.2, Part.command, heffect.1, hfollow, Part.journalLow_same (by rw [hpart])]
  show Host.Outcome.next { s with part := q.alert } = _
  rw [← hpart]

/-- HOLD_KEEP of an ACTIVE record with no place for its post: the hold table waits with the rest of its step (R96, R164). -/
theorem exec_holdKeep_waits (h : s.part.AtRest) (hqueue : s.part.store.queue.length = 8)
    (hinbound : s.part.line.inbound = ahead ++ { source := source, dest := dest, message := .holdKeep holdId job } :: behind)
    (hahead : ∀ f ∈ ahead, f.message.isHoldRequest = false) (hjob : job ≠ 0)
    (hfound : ownHold s.part.ledger source holdId job = some (slot, r)) (hstate : r.state = .active) :
    exec .holdKeep s =
      .next { s with part := ((s.part.taken ahead behind).holdWaits slot { r with touched := s.part.now / 1000 }).alert } := by
  obtain ⟨hs, hwork, hpending, -⟩ := id h
  let taken := s.part.taken ahead behind
  let value : HoldRecord := { r with touched := s.part.now / 1000 }
  have htaken : taken.Calm := (h.taken ahead behind).calm
  have hfull : 8 ≤ taken.store.queue.length := le_of_eq hqueue.symm
  have hstep : (Task.keep source holdId job).step taken = some (taken, [.putHold slot value []]) :=
    congrArg some (((Part.takeKeep_cases (p := taken) hjob).2 slot r hfound).1 hstate)
  have hmark := Part.markWait_begins (p := taken) (owner := .hold) (t := .putHold slot value []) (tasks := []) (begun := true) rfl
    (Part.hold_noPlace hfull (some value))
  have hwaits : Part.Pumps 1 (taken.withWork (worksOf .hold [.putHold slot value []] true)) (taken.holdWaits slot value) := by
    intro fuel hfuel
    obtain ⟨fuel, rfl⟩ : ∃ f, fuel = f + 1 := ⟨fuel - 1, by omega⟩
    have hfill : (taken.withWork (worksOf .hold [.putHold slot value []] true)).fill = _ := Part.fill_full hfull
    unfold Part.pump
    rw [hfill, show (taken.withWork (worksOf .hold [.putHold slot value []] true)).markWait = some (taken.holdWaits slot value) from hmark]
    exact Part.holdWaits_pump hfull value fuel
  have hput : putBack taken.store.work { owner := .hold, tasks := [.putHold slot value []] ++ [], begun := true } =
      worksOf .hold [.putHold slot value []] true := by
    rw [show taken.store.work = [] from hwork]
    rfl
  have hpumps : Part.Pumps 2 (taken.withWork (worksOf .hold [.keep source holdId job] false)) (taken.holdWaits slot value) :=
    Part.Pumps.next (p := taken) hpending hwork hstep (.inr fun _ => rfl) htaken (by rw [hput]; exact hwaits)
  rw [← htaken.react_withWork] at hpumps
  have heffect := holdKeep_takes h hinbound hahead
  have hassign : taken.assign .hold [.keep source holdId job] = taken.withWork (worksOf .hold [.keep source holdId job] false) :=
    Part.assign_alone (p := taken) hwork _ _
  have hfollowed : (inService (fun p => p.takeWhenReady .hold Message.isHoldRequest Part.actKeep) s.part).reactIdle s.part =
      taken.withWork (worksOf .hold [.keep source holdId job] false) := by
    rw [heffect, ← hassign]
    exact Part.reactIdle_path rfl
  have hexec := event_pumped hfollowed (by rw [heffect]; exact hs) hpumps (by decide)
  have hfree : (taken.holdWaits slot value).freeSlots = s.part.freeSlots := Part.freeSlots_congr ⟨rfl, rfl, rfl, rfl⟩
  rw [Part.journalLow_same hfree] at hexec
  exact hexec

end

end Sys2Proof.Machine
end


section
/-! Proof that posts coalesce, go to the tail, wait with their owner or are kept as pending values (R161, R162, R164, R165). -/

-- One theorem after another: many small theorems elaborated at once need more threads than the check allows.
set_option Elab.async false

namespace Sys2Proof.Machine

open Sys2Proof

/-- In a full queue with no waiting post of its record a post is not made, and a running record's value is kept (R164, R165). -/
theorem Part.full_waits {p : Part} {w : Write} (hstarting : p.store.starting = false) (hfull : 8 ≤ p.store.queue.length)
    (hnew : ∀ x ∈ p.store.queue.tail, x.write.name ≠ w.name) :
    (∀ notes, p.tryPost w notes = none) ∧
      p.postRunning w = { p with store := { p.store with pending := keepPending p.store.pending w } } := by
  have hmerges : p.store.merges w = false := by
    refine Store.merges_none fun x hx => hnew x ?_
    rwa [Store.waiting_eq_tail hstarting] at hx
  refine ⟨fun notes => if_neg (by simp [Store.hasPlace_full hfull hmerges]), ?_⟩
  unfold postRunning
  rw [Store.postRunning_full hfull hmerges]

/-- Settles O17: the kind of the write decides how it joins, a place whether it waits, and a freed place goes to the oldest that waits. -/
theorem postsCoalesceWaitOrArePending : Obligations.PostsCoalesceWaitOrArePending := by
  refine ⟨fun q old busy ahead behind w notes hqueue hbusy hold hahead => ?joins, fun q w notes hnew => ?tail,
    fun q first rest hstarting hqueue hpending hplaces => ?clears, fun p w notes hstarting hfull hnew => ?keeps,
    fun p old w ahead behind hstarting hfull hnew hpending hold hahead => ?newer,
    fun s post rest x y slot station job began since value xs ys hx hy h hqueue hrest hnotes hnames => ?gives,
    fun s ahead behind source dest holdId job slot r h hqueue hinbound hahead hremote hjob hfound hstate => ?waits⟩
  case joins =>
    have replaces (hw : coalesces w = true) := Store.post_replaces hw hqueue hbusy hold hahead notes
    have follows (hw : coalesces w = false) := Store.post_tail (Store.merges_never (q := q) hw) notes
    cases w with
    | hold slot value => exact follows rfl
    | apply value => exact follows rfl
    | checkpoint value =>
      cases value with
      | none => exact follows rfl
      | some c => exact replaces rfl
    | _ => exact replaces rfl
  case tail => exact Store.post_tail (Store.merges_none hnew) notes
  case clears =>
    intro kept
    have hkept : kept = first :: rest.filter (fun x => !setsCheckpoint x) := by
      refine congrArg (fun f => first :: rest.filter f) (funext fun x => ?_)
      obtain ⟨write, notes⟩ := x
      cases write with
      | checkpoint value => cases value <;> rfl
      | _ => rfl
    rw [hkept]
    exact Store.clearCheckpoint_kept hstarting hqueue hpending hplaces
  case keeps =>
    obtain ⟨hnone, hrunning⟩ := Part.full_waits hstarting hfull hnew
    refine ⟨hnone notes, fun hfirst => ?_⟩
    rw [keepPending_new hfirst] at hrunning
    refine ⟨hrunning, ?_⟩
    rw [hrunning]
    unfold Part.ledger Store.newest
    rw [List.foldl_append]
    rfl
  case newer =>
    obtain ⟨-, hrunning⟩ := Part.full_waits hstarting hfull hnew
    rwa [hpending, keepPending_newer hold hahead] at hrunning
  case gives =>
    have hcalm : s.part.Calm := (Part.AtRest.calm h).same ⟨rfl, rfl, rfl, rfl, rfl⟩
    have haccount : x = accountWaits slot began value xs := hx
    have hmark : y = markWaits station job since ys := hy
    subst haccount hmark
    refine ⟨fun hwork w more hpending hruns => exec_writeComplete_pending hcalm hqueue hrest hnotes hnames hwork hpending hruns,
      fun hwork hpending => ?_, fun hwork hpending => ?_⟩
    · refine exec_writeComplete_waiting (t := .putAccount slot value xs) (write := .account slot value) hcalm hqueue hrest hnotes
        (fun z hz => (hnames z hz).1) (fun _ => ⟨rfl, rfl⟩) hwork hpending rfl (fun _ => rfl) rfl rfl rfl rfl
        fun q hq => Part.advance_markWaits (by simp [hq, hrest]) fun z hz => ?_
      rcases List.mem_append.mp (hq ▸ hz) with hz | hz
      · exact (hnames z hz).2
      · rw [List.mem_singleton.mp hz]
        exact fun hname => by cases hname
    · refine exec_writeComplete_waiting (t := .putMark station job ys) (write := .mark station job) hcalm hqueue hrest hnotes
        (fun z hz => (hnames z hz).2) (fun _ => ⟨rfl, rfl⟩) hwork hpending rfl (fun _ => rfl) rfl rfl rfl rfl
        fun q hq => Part.advance_accountWaits (by simp [hq, hrest]) fun z hz => ?_
      rcases List.mem_append.mp (hq ▸ hz) with hz | hz
      · exact (hnames z hz).1
      · rw [List.mem_singleton.mp hz]
        exact fun hname => by cases hname
  case waits =>
    intro waiting
    have hcalm : (s.part.taken ahead behind).Calm := (h.taken ahead behind).calm
    have hfull : 8 ≤ (s.part.taken ahead behind).store.queue.length := le_of_eq hqueue.symm
    exact ⟨exec_holdKeep_waits h hqueue hinbound hahead hjob hfound hstate,
      fun c hc => exec_holdWaits (s := waiting) hcalm hfull { r with touched := s.part.now / 1000 } rfl hc⟩

end Sys2Proof.Machine
end


section
/-! Proofs about the recovery at start-up: the loader's steps, each taken once the writes before it are stored (R103, R139, R169,
R190). -/

-- One theorem after another: many small theorems elaborated at once need more threads than the check allows.
set_option Elab.async false

namespace Sys2Proof.Machine

open Sys2Proof

/-! ### A block that works before the part serves (R190) -/

theorem Part.react_out {p : Part} (h : p.phase ≠ .serving) : p.react = p := if_neg (by simpa [Part.serving] using h)

namespace Part

/-- Steps of one owner's work, each made at once out of service: how many, from which part and tasks, to which. -/
inductive Boots : Nat → Part → List Task → Part → List Task → Prop
  | stay (p : Part) (tasks : List Task) : Boots 0 p tasks p tasks
  | step {n : Nat} {p q r : Part} {t : Task} {tasks more left : List Task} (hstep : t.step p = some (q, more)) (hready : p.Ready t)
      (hout : q.phase ≠ .serving) (hwork : q.store.work = []) (hpending : q.store.pending = [])
      (hrest : Boots n q (more ++ tasks) r left) : Boots (n + 1) p (t :: tasks) r left

theorem Boots.trans {n m : Nat} {p q r : Part} {first second third : List Task} (h : Boots n p first q second)
    (k : Boots m q second r third) : Boots (n + m) p first r third := by
  induction h with
  | stay p tasks => rwa [Nat.zero_add]
  | step hstep hready hout hwork hpending _ ih =>
    rw [Nat.add_right_comm]
    exact .step hstep hready hout hwork hpending (ih k)

/-- The pump takes the steps. -/
theorem Boots.pump {n : Nat} {p q : Part} {tasks left : List Task} (h : Boots n p tasks q left) (owner : Owner) (fuel : Nat) :
    ∀ begun, p.store.work = [] → p.store.pending = [] →
      ∃ begun', (p.withWork (worksOf owner tasks begun)).pump (n + fuel) = (q.withWork (worksOf owner left begun')).pump fuel := by
  induction h with
  | stay p tasks => exact fun begun _ _ => ⟨begun, by rw [Nat.zero_add]⟩
  | @step n p q r t tasks more left hstep hready hout hwork hpending _ ih =>
    intro begun hpwork hppending
    rw [show n + 1 + fuel = n + fuel + 1 by omega, pump_step hppending hpwork hstep hwork hready,
      react_out (p := q.withWork (worksOf owner (more ++ tasks) true)) hout]
    exact ih true hwork hpending

/-- A queue that is not empty holds the loader up (R190). -/
theorem pump_notQuiet {p : Part} (hqueue : p.store.queue ≠ []) (hpending : p.store.pending = []) (tasks : List Task) (begun : Bool)
    (fuel : Nat) :
    (p.withWork (worksOf .loader (.quiet :: tasks) begun)).pump fuel = p.withWork (worksOf .loader (.quiet :: tasks) begun) := by
  let waiting := p.withWork (worksOf .loader (.quiet :: tasks) begun)
  have hfill : waiting.fill = waiting := fill_empty hpending
  cases fuel with
  | zero => exact hfill
  | succ fuel =>
    have hmark : waiting.markWait = none :=
      markWait_alone (p := p) (w := { owner := .loader, tasks := .quiet :: tasks, begun := begun }) rfl (.inr fun _ => rfl)
    have hquiet : (waiting.withWork []).isQuiet = false := by
      have hnot : (waiting.withWork []).store.queue.isEmpty = false := by simpa [waiting] using hqueue
      unfold isQuiet
      rw [hnot]
      simp
    have hstep : Task.quiet.step (waiting.withWork []) = none := if_neg (by simp [hquiet])
    have hfirst : waiting.advanceFirst [] waiting.store.work = none := by
      show waiting.advanceFirst [] [_] = none
      unfold advanceFirst advanceFirst
      simp only [advance, List.nil_append, hstep, Option.map_none, ite_self]
    show waiting.pump (fuel + 1) = waiting
    unfold pump
    simp only [hfill, hmark, hfirst]

/-! ### A part that recovers (R190) -/

/-- A part that recovers: the image's configuration, the memory with these writes queued, nothing being applied. -/
structure Booting (image : List Word16) (l : Ledger) (writes : List Write) (p : Part) : Prop where
  phase : p.phase = .recovering
  config : p.config = loadImage image
  stored : p.store.stored = l
  queued : p.store.queue.map Post.write = writes
  pending : p.store.pending = []
  work : p.store.work = []
  starting : p.store.starting = false
  stage : p.settlement.stage = .free
  requests : p.settlement.requests = []

variable {image : List Word16} {l : Ledger} {writes : List Write} {p q : Part}

theorem Booting.same (h : Booting image l writes p)
    (hs : q.phase = p.phase ∧ q.config = p.config ∧ q.store = p.store ∧ q.settlement.stage = p.settlement.stage ∧
      q.settlement.requests = p.settlement.requests) : Booting image l writes q := by
  obtain ⟨hphase, hconfig, hstore, hstage, hrequests⟩ := hs
  exact ⟨by rw [hphase, h.phase], by rw [hconfig, h.config], by rw [hstore, h.stored], by rw [hstore, h.queued],
    by rw [hstore, h.pending], by rw [hstore, h.work], by rw [hstore, h.starting], by rw [hstage, h.stage],
    by rw [hrequests, h.requests]⟩

theorem Booting.out (h : Booting image l writes p) : p.phase ≠ .serving := by
  rw [h.phase]
  exact Phase.noConfusion

/-- The newest values are those stored with the queued writes programmed (R163). -/
theorem Booting.ledger (h : Booting image l writes p) : p.ledger = writes.foldl program l := by
  unfold Part.ledger Store.newest
  rw [h.pending, h.queued, h.stored, List.foldl_nil]

theorem Booting.joined (h : Booting image l writes p) (w : Write) (notes : List Note) :
    Booting image l (writes ++ [w]) (p.joined [{ write := w, notes := notes }]) :=
  ⟨h.phase, h.config, h.stored,
    by show (p.store.queue ++ [_]).map Post.write = _; rw [List.map_append, h.queued]; rfl,
    h.pending, h.work, h.starting, h.stage, h.requests⟩

theorem Booting.length (h : Booting image l writes p) : p.store.queue.length = writes.length := by
  rw [← h.queued, List.length_map]

theorem Booting.names (h : Booting image l writes p) {w : Write} (hname : ∀ v ∈ writes, v.name ≠ w.name) :
    ∀ post ∈ p.store.queue, post.write.name ≠ w.name :=
  fun post hpost => hname _ (by rw [← h.queued]; exact List.mem_map_of_mem hpost)

theorem Booting.tryPost (h : Booting image l writes p) {w : Write} (hplace : writes.length < 8)
    (hname : ∀ v ∈ writes, v.name ≠ w.name) (notes : List Note) :
    p.tryPost w notes = some (p.joined [{ write := w, notes := notes }]) :=
  tryPost_joins (by rw [h.length]; exact hplace) (h.names hname) notes

/-- One step of the recovery goes on. -/
theorem Boots.recovers {more tasks left : List Task} {t : Task} {n : Nat} {r : Part} {new : List Write}
    (hstep : t.step p = some (q, more)) (hready : p.Ready t) (hq : Booting image l new q) (hrest : Boots n q (more ++ tasks) r left) :
    Boots (n + 1) p (t :: tasks) r left := .step hstep hready hq.out hq.work hq.pending hrest

theorem Booting.ready (h : Booting image l writes p) (hplace : writes.length < 8) (t : Task) : p.Ready t :=
  .inl (by rw [h.length]; exact hplace)

/-- With nothing queued the loader does not wait (R190). -/
theorem Booting.quiet (h : Booting image l [] p) : Task.quiet.step p = some (p, []) := by
  refine if_pos ?_
  have hqueue : p.store.queue = [] := List.map_eq_nil_iff.mp h.queued
  simp [isQuiet, hqueue, h.pending, h.work, h.stage, h.requests]

end Part

end Sys2Proof.Machine
end


section
/-! Proofs about the end of the load: what recovery posts on a part with an apply record, a checkpoint or hold records (R103, R139,
R169). -/

-- One theorem after another: many small theorems elaborated at once need more threads than the check allows.
set_option Elab.async false

namespace Sys2Proof.Machine

open Sys2Proof

/-- A part with a memory whose load is running (R190 step 2). -/
def loading (l : Ledger) : State := { State.reset with part := { State.reset.part with store := { stored := l } } }

/-- A part with a memory whose load has ended (R190 step 3). -/
def booted (image : List Word16) (l : Ledger) : Part where
  phase := .recovering
  config := loadImage image
  store := { stored := l }
  journal := { reserved := if l.checkpoint.isSome then 1 else 0 }

variable {image : List Word16} {l : Ledger} {writes : List Write}

theorem loading_loadDone (image : List Word16) (l : Ledger) :
    (loading l).part.loadDone image = (booted image l).withWork (worksOf .loader recoverySteps false) := rfl

theorem booted_booting (image : List Word16) (l : Ledger) : (booted image l).Booting image l [] :=
  ⟨rfl, rfl, rfl, rfl, rfl, rfl, rfl, rfl, rfl⟩

theorem Part.journalLow_out {p before : Part} (h : before.phase ≠ .serving) : p.journalLow before = p := by
  unfold Part.journalLow
  rw [show before.serving = false from decide_eq_false h]
  rfl

/-- The end of the load: the loader's steps go on (R190). -/
theorem exec_loadDone (image : List Word16) (l : Ledger) :
    exec (.configLoadDone image) (loading l) =
      .next { pending := [], part := (((booted image l).withWork (worksOf .loader recoverySteps false)).pump 4096).alert } := by
  show event (loading l) (fun p => p.loadDone image) = _
  unfold event Part.command
  simp only [loading_loadDone]
  rw [Part.journalLow_out (before := (loading l).part) Phase.noConfusion]
  rfl

/-- Steps that lead to a wait for the writes before it leave these writes queued (R190). -/
theorem exec_loadDone_posts {n : Nat} {p : Part} {tasks : List Task} (h : Part.Boots n (booted image l) recoverySteps p (.quiet :: tasks))
    (hn : n ≤ 4096) (hp : p.Booting image l writes) (hwrites : writes ≠ []) :
    ∃ t, exec (.configLoadDone image) (loading l) = .next t ∧ t.part.phase = .recovering ∧ t.part.store.stored = l ∧
      t.part.store.queue.map Post.write = writes := by
  obtain ⟨begun, hpump⟩ := h.pump .loader (4096 - n) false rfl rfl
  have hqueue : p.store.queue ≠ [] := fun hnone => hwrites (by rw [← hp.queued, hnone]; rfl)
  rw [show n + (4096 - n) = 4096 by omega, Part.pump_notQuiet hqueue hp.pending] at hpump
  refine ⟨_, exec_loadDone image l, ?_⟩
  rw [hpump]
  exact ⟨hp.phase, hp.stored, hp.queued⟩

/-! ### An apply record found present (R139) -/

theorem otherHeld_eq (l : Ledger) (account : Nat) (holdId : Option Nat) :
    otherHeld l account holdId =
      ((l.holds.filter (fun e => decide (e.2.account = account ∧ e.2.state = .active ∧ some e.2.id ≠ holdId))).map
        (fun e => e.2.amount)).sum := by
  unfold otherHeld
  induction l.holds with
  | nil => rfl
  | cons e t ih =>
    by_cases haccount : e.2.account = account <;> by_cases hid : some e.2.id ≠ holdId <;> by_cases hactive : e.2.state = .active <;>
      simp [haccount, hid, hactive, activeAmount] at ih ⊢ <;> simp [ih]

/-- The debit that recovery posts, unless the account shows it stored (R139 step 2). -/
def recoveryDebits (l : Ledger) (r : ApplyRecord) (slot : Nat) (a : Account) : List Write :=
  if a.lastApply = r.sequence then []
  else [.account slot (.used (a.debited (otherHeld l r.account r.holdId) r.charge r.impressions r.sequence))]

/-- The removal of a hold that recovery posts, while its record is there (R139 step 3). -/
def recoveryRemoval (l : Ledger) (id : Nat) : List Write := ((findHold l id).map fun e => Write.hold e.1 none).toList

/-- The step of recovery that frees what the settlement named (R139 step 3). -/
def freeTask (r : ApplyRecord) : Task :=
  match r.holdId with
  | none => .putMark r.station r.job []
  | some id => .removeHold id []

/-- What that step posts (R139 step 3). -/
def freeWrites (l : Ledger) (r : ApplyRecord) : List Write :=
  match r.holdId with
  | none => [.mark r.station r.job]
  | some id => recoveryRemoval l id

namespace Part

variable {p : Part}

theorem Booting.changeHold (h : p.Booting image l writes) (hplace : writes.length < 8) {slot : Nat} {value : Option HoldRecord}
    (hname : ∀ v ∈ writes, v.name ≠ .hold slot) (notes : List Note) :
    ∃ q, p.changeHold slot value notes = some q ∧ q.Booting image l (writes ++ [.hold slot value]) := by
  unfold Part.changeHold
  rw [h.tryPost (w := .hold slot value) hplace hname notes]
  refine ⟨_, rfl, (h.joined (.hold slot value) notes).same ?_⟩
  cases value <;> cases tableGet p.ledger.holds slot <;> exact ⟨rfl, rfl, rfl, rfl, rfl⟩

theorem Booting.recoverDebit (h : p.Booting image l []) {r : ApplyRecord} {slot : Nat} {a : Account}
    (hfound : findAccount l r.account = some (slot, a)) :
    ∃ q, (Task.recoverDebit r).step p = some (q, []) ∧ q.Booting image l (recoveryDebits l r slot a) := by
  have hdebit : p.recoveryDebit r =
      if a.lastApply = r.sequence then none
      else some (slot, a.debited (otherHeld l r.account r.holdId) r.charge r.impressions r.sequence) := by
    unfold Part.recoveryDebit
    rw [h.ledger, h.stored]
    simp only [List.foldl_nil, hfound]
  show ∃ q, p.stepRecoverDebit r = _ ∧ _
  unfold stepRecoverDebit recoveryDebits
  rw [hdebit]
  by_cases hdone : a.lastApply = r.sequence
  · rw [if_pos hdone, if_pos hdone]
    exact ⟨p, rfl, h⟩
  · rw [if_neg hdone, if_neg hdone]
    refine ⟨_, ?_, h.joined (.account slot _) []⟩
    show p.justPost _ [] = _
    unfold justPost
    rw [h.tryPost (by simp) (by simp)]
    rfl

theorem Booting.justPost (h : p.Booting image l writes) {w : Write} (hplace : writes.length < 8)
    (hname : ∀ v ∈ writes, v.name ≠ w.name) (notes : List Note) :
    p.justPost w notes = some (p.joined [{ write := w, notes := notes }], []) := by
  unfold Part.justPost
  rw [h.tryPost hplace hname]
  rfl

theorem recoveryDebits_cases (l : Ledger) (r : ApplyRecord) (slot : Nat) (a : Account) :
    (recoveryDebits l r slot a).length ≤ 1 ∧ (∀ v ∈ recoveryDebits l r slot a, ∃ value, v = .account slot value) ∧
      ((recoveryDebits l r slot a).foldl program l).holds = l.holds := by
  unfold recoveryDebits
  split <;> simp [program]

theorem Booting.freed (h : p.Booting image l writes) (hplace : writes.length < 8) (r : ApplyRecord)
    (hwrites : ∀ v ∈ writes, ∃ slot value, v = .account slot value) (hholds : (writes.foldl program l).holds = l.holds) :
    ∃ q, (freeTask r).step p = some (q, []) ∧ q.Booting image l (writes ++ freeWrites l r) := by
  have hname (w : Write) (hw : ∀ slot, w.name ≠ .account slot) : ∀ v ∈ writes, v.name ≠ w.name := fun v hv => by
    obtain ⟨slot, value, rfl⟩ := hwrites v hv
    exact (hw slot).symm
  unfold freeTask freeWrites
  cases r.holdId with
  | none =>
    exact ⟨_, h.justPost (w := .mark r.station r.job) hplace (hname _ fun _ => RecordName.noConfusion) [],
      h.joined (.mark r.station r.job) []⟩
  | some id =>
    have hfind : findHold p.ledger id = findHold l id := by
      unfold findHold
      rw [h.ledger, hholds]
    show ∃ q, p.stepRemoveHold id [] = some (q, []) ∧ _
    unfold stepRemoveHold
    dsimp only
    unfold recoveryRemoval
    rw [hfind]
    cases findHold l id with
    | none => exact ⟨p, rfl, by simpa using h⟩
    | some e =>
      obtain ⟨q, hq, hbooting⟩ := h.changeHold hplace (slot := e.1) (value := none)
        (hname (.hold e.1 none) fun _ => RecordName.noConfusion) []
      exact ⟨q, by dsimp only; rw [hq]; rfl, hbooting⟩

theorem booted_recoverApply {r : ApplyRecord} {slot : Nat} {a : Account} (happly : l.apply = some r)
    (hfound : findAccount l r.account = some (slot, a)) :
    (booted image l).recoverApply = (booted image l, [.recoverDebit r, freeTask r, .clearApply []]) := by
  have hledger : (booted image l).ledger = l := (booted_booting image l).ledger
  unfold Part.recoverApply
  rw [hledger, happly]
  dsimp only
  rw [hfound]
  rfl

end Part

/-- An apply record found present is finished (R139). -/
theorem recovers_apply {r : ApplyRecord} {slot : Nat} {a : Account} (happly : l.apply = some r)
    (hfound : findAccount l r.account = some (slot, a)) :
    ∃ t, exec (.configLoadDone image) (loading l) = .next t ∧ t.part.phase = .recovering ∧ t.part.store.stored = l ∧
      t.part.store.queue.map Post.write = recoveryDebits l r slot a ++ freeWrites l r ++ [.apply none] := by
  have hbooted := booted_booting image l
  obtain ⟨hshort, haccounts, hholds⟩ := Part.recoveryDebits_cases l r slot a
  obtain ⟨p, hdebit, hp⟩ := hbooted.recoverDebit hfound
  obtain ⟨q, hfree, hq⟩ := hp.freed (by omega) r (fun v hv => ⟨slot, haccounts v hv⟩) hholds
  have hfew : (freeWrites l r).length ≤ 1 := by
    unfold freeWrites recoveryRemoval
    cases r.holdId with
    | none => simp
    | some id => cases h : findHold l id <;> simp [h]
  have hlength : (recoveryDebits l r slot a ++ freeWrites l r).length < 8 := by rw [List.length_append]; omega
  have hname : ∀ v ∈ recoveryDebits l r slot a ++ freeWrites l r, v.name ≠ (Write.apply none).name := by
    intro v hv
    rcases List.mem_append.mp hv with hv | hv
    · obtain ⟨value, rfl⟩ := haccounts v hv
      exact RecordName.noConfusion
    · unfold freeWrites recoveryRemoval at hv
      cases hid : r.holdId with
      | none =>
        rw [hid, List.mem_singleton] at hv
        subst hv
        exact RecordName.noConfusion
      | some id =>
        rw [hid] at hv
        cases hfind : findHold l id <;> simp [hfind] at hv
        subst hv
        exact RecordName.noConfusion
  have hclear : (Task.clearApply []).step q = some (q.joined [{ write := .apply none, notes := [] }], []) := hq.justPost hlength hname []
  have hcleared := hq.joined (.apply none) []
  have hsteps : Part.Boots 4 (booted image l) recoverySteps (q.joined [{ write := .apply none, notes := [] }]) recoverySteps.tail :=
    .recovers (q := booted image l) (more := [.recoverDebit r, freeTask r, .clearApply []])
      (congrArg some (Part.booted_recoverApply happly hfound)) (.inr fun _ => rfl) hbooted
      (.recovers (q := p) (more := []) hdebit (hbooted.ready (by simp) _) hp
        (.recovers (q := q) (more := []) hfree (hp.ready (by omega) _) hq
          (.recovers (more := []) hclear (hq.ready hlength _) hcleared (.stay _ _))))
  exact exec_loadDone_posts hsteps (by decide) hcleared (by simp)

end Sys2Proof.Machine
end


section
/-! Proofs about the end of the load on a part with a checkpoint or hold records, and no apply record (R103, R169). -/

-- One theorem after another: many small theorems elaborated at once need more threads than the check allows.
set_option Elab.async false

namespace Sys2Proof.Machine

open Sys2Proof

variable {image : List Word16} {l : Ledger} {writes : List Write}

/-! ### A checkpoint found present (R169) -/

/-- The deferred entry of a checkpoint (R125, R169 step 3). -/
def settledEntry (l : Ledger) (c : Checkpoint) (charge : Nat) : DeferredEntry where
  number := nextEntryNumber l
  home := c.home.getD 0
  holdId := c.holdId.getD 0
  account := c.payer
  job := c.job
  charge := charge
  impressions := min 16777215 c.delivered
  attempts := 0

/-- The posts that settle a checkpoint of a remote job (R169). -/
def checkpointWrites (l : Ledger) (c : Checkpoint) (charge slot : Nat) : List Write :=
  [.deferred slot (some (settledEntry l c charge)), .counter .journalSequence (l.journalSequence + 1),
    .journal ((l.journalSequence + 1) % 256)
      { sequence := l.journalSequence + 1, body := .job (c.journalEntry charge .deferred) },
    .checkpoint none]

/-- The step that writes that entry (R169 step 3). -/
def settledEntryTask (c : Checkpoint) (charge : Nat) : Task :=
  .putEntry (c.home.getD 0) (c.holdId.getD 0) c.payer c.job charge (min 16777215 c.delivered) false false none

namespace Part

variable {p : Part}

/-- With nothing to apply the loader comes to the checkpoint (R190). -/
theorem boots_noApply (happly : l.apply = none) : Boots 2 (booted image l) recoverySteps (booted image l) (recoverySteps.drop 2) := by
  have hbooted := booted_booting image l
  have hrecover : (booted image l).recoverApply = (booted image l, []) := by
    unfold Part.recoverApply
    rw [hbooted.ledger, List.foldl_nil, happly]
  exact .recovers (more := []) (congrArg some hrecover) (.inr fun _ => rfl) hbooted
    (.recovers (more := []) hbooted.quiet (.inr fun _ => rfl) hbooted (.stay _ _))

/-- Which steps settle a remote checkpoint (R169). -/
theorem Booting.recoverCheckpoint (h : p.Booting image l []) {c : Checkpoint} (hcheckpoint : l.checkpoint = some c)
    (hfunding : c.funding = .accountRemote) (hgood : configOutcome image ≠ .bad) (hnewest : newestJob l ≠ some c.job)
    (hentry : ∀ e ∈ l.deferred, ¬(e.2.home = c.home.getD 0 ∧ e.2.job = c.job)) :
    p.recoverCheckpoint = (p, [settledEntryTask c (checkpointCharge (clampValues image) c), .settleCheckpoint .deferred]) := by
  have hledger : p.ledger = l := h.ledger
  have hservice : p.outOfService = false := by
    unfold Part.outOfService
    rw [h.config]
    exact decide_eq_false hgood
  have hnone : hasEntry l (c.home.getD 0) c.job = false := by
    unfold hasEntry
    refine List.any_eq_false.mpr fun e he => ?_
    simpa using hentry e he
  unfold Part.recoverCheckpoint Part.checkpointEntry
  rw [hledger, hcheckpoint, h.config]
  simp only [hservice, Bool.false_eq_true, if_false, hnewest, hfunding, hnone]
  rfl

theorem Booting.deferredSlot (h : p.Booting image l []) : p.deferredSlot = lowestFree l.deferred 0 16 := by
  have hqueue : p.store.queue = [] := List.map_eq_nil_iff.mp h.queued
  have hfree : (fun slot => !p.deferredInUse slot) = fun slot => (tableGet l.deferred slot).isNone := by
    funext slot
    unfold deferredInUse
    rw [hqueue, h.stored]
    cases tableGet l.deferred slot <;> rfl
  unfold Part.deferredSlot lowestFree
  rw [hfree, List.range_eq_range']
  rfl

/-- The checkpoint's entry is written (R125, R169 step 3). -/
theorem Booting.putEntry (h : p.Booting image l []) (c : Checkpoint) (charge : Nat) {slot : Nat}
    (hslot : lowestFree l.deferred 0 16 = some slot) :
    ∃ q, (settledEntryTask c charge).step p = some (q, []) ∧ q.Booting image l [.deferred slot (some (settledEntry l c charge))] := by
  have hledger : p.ledger = l := h.ledger
  let post : Write := .deferred slot (some (settledEntry l c charge))
  let posted := p.joined [{ write := post, notes := [.entryStored (nextEntryNumber l) false] }]
  let charged := posted.withSettlement
    { posted.settlement with
      floatOutstanding := floatAfterEntry posted.settlement.floatOutstanding (c.holdId.getD 0) charge none }
  refine ⟨charged, ?_, (h.joined post [.entryStored (nextEntryNumber l) false]).same ⟨rfl, rfl, rfl, rfl, rfl⟩⟩
  have hpost : p.tryPost post [.entryStored (nextEntryNumber l) false] = some posted := h.tryPost (by simp) (by simp) _
  show p.stepPutEntry (c.home.getD 0) (c.holdId.getD 0) c.payer c.job charge (min 16777215 c.delivered) false false none = _
  unfold Part.stepPutEntry
  rw [h.deferredSlot, hslot]
  simp only [hledger]
  exact congrArg (Option.map _) hpost

/-- The JOB record's sequence is taken (R172). -/
theorem Booting.journalCount (h : p.Booting image l writes) (hplace : writes.length < 8)
    (hname : ∀ v ∈ writes, v.name ≠ .counter .journalSequence) {sequence : Nat}
    (hsequence : (writes.foldl program l).journalSequence + 1 = sequence) (e : JobEntry) :
    ∃ q, (Task.journalCount (.job e)).step p = some (q, [.journalPut sequence (.job e)]) ∧
      q.Booting image l (writes ++ [.counter .journalSequence sequence]) := by
  have hledger : p.ledger.journalSequence + 1 = sequence := by rw [h.ledger, hsequence]
  refine ⟨_, ?_, (h.joined (.counter .journalSequence sequence) []).same
    (q := (p.joined [{ write := .counter .journalSequence sequence, notes := [] }]).releaseJournal) ⟨rfl, rfl, rfl, rfl, rfl⟩⟩
  show p.stepJournalCount (.job e) = _
  unfold Part.stepJournalCount
  rw [hledger]
  dsimp only
  rw [h.tryPost (w := .counter .journalSequence sequence) hplace hname]
  rfl

/-- The clearing of the checkpoint goes to the tail (R162, R169 step 5). -/
theorem Booting.clearCheckpoint (h : p.Booting image l writes) (hplace : writes.length < 8) (hwrites : writes ≠ [])
    (hnone : ∀ v ∈ writes, v.name ≠ .checkpoint) :
    ({ p with store := p.store.clearCheckpoint } : Part).Booting image l (writes ++ [.checkpoint none]) := by
  obtain ⟨first, rest, hqueue⟩ : ∃ first rest, p.store.queue = first :: rest := by
    cases hq : p.store.queue with
    | nil => exact absurd (by rw [← h.queued, hq]; rfl) hwrites
    | cons first rest => exact ⟨first, rest, rfl⟩
  have hlength := h.length
  have hkept : rest.filter (fun x => !setsCheckpoint x) = rest := by
    refine List.filter_eq_self.mpr fun x hx => ?_
    have hname := hnone x.write (by rw [← h.queued, hqueue]; exact List.mem_map_of_mem (List.mem_cons_of_mem _ hx))
    obtain ⟨w, notes⟩ := x
    cases w <;> first | rfl | exact absurd rfl hname
  have hclear : p.store.clearCheckpoint = (p.joined [{ write := .checkpoint none, notes := [] }]).store := by
    rw [Store.clearCheckpoint_kept h.starting hqueue h.pending (by omega)]
    rw [hkept, ← hqueue, if_pos (by omega)]
    rfl
  rw [hclear]
  exact (h.joined (.checkpoint none) []).same ⟨rfl, rfl, rfl, rfl, rfl⟩

/-- The checkpoint's record, TALLY and clearing (R169 steps 4 and 5). -/
theorem Booting.settles (h : p.Booting image l writes) {c : Checkpoint} {charge slot : Nat}
    (hwrites : writes = [.deferred slot (some (settledEntry l c charge))]) (hcheckpoint : l.checkpoint = some c)
    (hcharge : checkpointCharge (clampValues image) c = charge) (left : List Task) :
    ∃ q, Boots 6 p (.settleCheckpoint .deferred :: left) q left ∧ q.Booting image l (checkpointWrites l c charge slot) := by
  subst hwrites
  have hledger := h.ledger
  have hsettle : p.settleCheckpoint .deferred =
      (p, [.journal (.job (c.journalEntry charge .deferred)), .holdTally (c.tallyMessage charge), .clearCheckpoint]) := by
    have hstored : p.ledger.checkpoint = some c := by rw [hledger]; exact hcheckpoint
    unfold Part.settleCheckpoint
    rw [hstored, h.config, ← hcharge]
    rfl
  obtain ⟨q, hcount, hq⟩ := h.journalCount (by simp) (by simp [Write.name]) (sequence := l.journalSequence + 1) rfl
    (c.journalEntry charge .deferred)
  have hjoined := hq.joined (journalWrite (l.journalSequence + 1) (.job (c.journalEntry charge .deferred))) []
  let put := q.joined [{ write := journalWrite (l.journalSequence + 1) (.job (c.journalEntry charge .deferred)), notes := [] }]
  have hput : (Task.journalPut (l.journalSequence + 1) (.job (c.journalEntry charge .deferred))).step q = some (put, []) :=
    hq.justPost (by simp) (by simp [Write.name, journalWrite]) []
  let held := put.withSettlement { put.settlement with heldTally := some (c.tallyMessage charge) }
  have hheld := hjoined.same (q := held) ⟨rfl, rfl, rfl, rfl, rfl⟩
  have hcleared := hheld.clearCheckpoint (by simp) (by simp) (by simp [Write.name, journalWrite])
  refine ⟨_, ?_, hcleared⟩
  exact .recovers (congrArg some hsettle) (.inr fun _ => rfl) h
    (.recovers (q := p) (more := [.journalCount (.job (c.journalEntry charge .deferred))]) rfl (.inr fun _ => rfl) h
      (.recovers hcount (h.ready (by simp) _) hq
        (.recovers hput (hq.ready (by simp) _) hjoined
          (.recovers (q := held) (more := []) rfl (.inr fun _ => rfl) hheld
            (.recovers (more := []) rfl (.inr fun _ => rfl) hcleared (.stay _ _))))))

end Part

/-- A checkpoint of a remote job with no JOB record and no entry of its job is settled (R169). -/
theorem recovers_checkpoint {c : Checkpoint} {slot : Nat} (happly : l.apply = none) (hcheckpoint : l.checkpoint = some c)
    (hfunding : c.funding = .accountRemote) (hgood : configOutcome image ≠ .bad) (hnewest : newestJob l ≠ some c.job)
    (hentry : ∀ e ∈ l.deferred, ¬(e.2.home = c.home.getD 0 ∧ e.2.job = c.job)) (hslot : lowestFree l.deferred 0 16 = some slot) :
    ∃ t, exec (.configLoadDone image) (loading l) = .next t ∧ t.part.phase = .recovering ∧ t.part.store.stored = l ∧
      t.part.store.queue.map Post.write = checkpointWrites l c (checkpointCharge (clampValues image) c) slot := by
  have hbooted := booted_booting image l
  have hrecover := hbooted.recoverCheckpoint hcheckpoint hfunding hgood hnewest hentry
  obtain ⟨p, hput, hp⟩ := hbooted.putEntry c (checkpointCharge (clampValues image) c) hslot
  obtain ⟨q, hsettles, hq⟩ := hp.settles rfl hcheckpoint rfl (recoverySteps.drop 3)
  have hsteps : Part.Boots 10 (booted image l) recoverySteps q (recoverySteps.drop 3) :=
    (Part.boots_noApply happly).trans (.recovers (congrArg some hrecover) (.inr fun _ => rfl) hbooted
      (.recovers (more := []) hput (hbooted.ready (by simp) _) hp hsettles))
  exact exec_loadDone_posts hsteps (by decide) hq (by simp [checkpointWrites])

/-! ### Hold records (R103) -/

/-- The posts of the hold table at start-up (R103). -/
def restartWrites (holds : List (Nat × HoldRecord)) : List Write := holds.map fun e => .hold e.1 (some e.2.restarted)

namespace Part

variable {p : Part}

/-- With no checkpoint the loader comes to the hold records (R190). -/
theorem boots_noCheckpoint (happly : l.apply = none) (hcheckpoint : l.checkpoint = none) :
    Boots 4 (booted image l) recoverySteps (booted image l) (recoverySteps.drop 4) := by
  have hbooted := booted_booting image l
  have hrecover : (booted image l).recoverCheckpoint = (booted image l, []) := by
    unfold Part.recoverCheckpoint
    rw [hbooted.ledger, List.foldl_nil, hcheckpoint]
  exact (boots_noApply happly).trans (.recovers (more := []) (congrArg some hrecover) (.inr fun _ => rfl) hbooted
    (.recovers (more := []) hbooted.quiet (.inr fun _ => rfl) hbooted (.stay _ _)))

/-- Hold records are written one after another (R103 steps 1 and 2). -/
theorem Booting.restarts (left : List Task) : ∀ {holds : List (Nat × HoldRecord)} {writes : List Write} {p : Part},
    p.Booting image l writes → writes.length + holds.length ≤ 8 → Rising holds →
      (∀ v ∈ writes, ∀ e ∈ holds, v.name ≠ .hold e.1) →
      ∃ q, Boots holds.length p (holds.map (fun e => Task.putHold e.1 e.2.restarted []) ++ left) q left ∧
        q.Booting image l (writes ++ restartWrites holds) := by
  intro holds
  induction holds with
  | nil => exact fun {writes p} h _ _ _ => ⟨p, .stay _ _, by simpa [restartWrites] using h⟩
  | cons e holds ih =>
    intro writes p h hlength hrising hnames
    obtain ⟨hlt, hrest⟩ := List.pairwise_cons.mp hrising
    rw [List.length_cons] at hlength
    obtain ⟨q, hq, hbooting⟩ := h.changeHold (by omega) (slot := e.1) (value := some e.2.restarted)
      (fun v hv => hnames v hv e List.mem_cons_self) []
    have hrestNames : ∀ v ∈ writes ++ [Write.hold e.1 (some e.2.restarted)], ∀ x ∈ holds, v.name ≠ .hold x.1 := by
      intro v hv x hx
      rcases List.mem_append.mp hv with hv | hv
      · exact hnames v hv x (List.mem_cons_of_mem _ hx)
      · rw [List.mem_singleton.mp hv]
        exact fun hsame => absurd (RecordName.hold.inj hsame) (Nat.ne_of_lt (hlt x hx))
    obtain ⟨r, hsteps, hr⟩ := ih hbooting (by simp; omega) hrest hrestNames
    refine ⟨r, ?_, by simpa [restartWrites] using hr⟩
    have hstep : (Task.putHold e.1 e.2.restarted []).step p = some (q, []) := by
      show (p.changeHold e.1 (some e.2.restarted) []).map _ = _
      rw [hq]
      rfl
    exact .recovers (more := []) hstep (h.ready (by omega) _) hbooting hsteps

end Part

/-- Each hold record is written once, touched at 0 and not SETTLING (R103). -/
theorem recovers_holds (hrising : Rising l.holds) (happly : l.apply = none) (hcheckpoint : l.checkpoint = none) (hsome : l.holds ≠ [])
    (hfew : l.holds.length ≤ 8) :
    ∃ t, exec (.configLoadDone image) (loading l) = .next t ∧ t.part.phase = .recovering ∧ t.part.store.stored = l ∧
      t.part.store.queue.map Post.write = restartWrites l.holds := by
  have hbooted := booted_booting image l
  obtain ⟨q, hsteps, hq⟩ := hbooted.restarts (recoverySteps.drop 5) (holds := l.holds) (by simpa using hfew) hrising (by simp)
  have hrecover : (booted image l).recoverHolds =
      (booted image l, l.holds.map (fun e => Task.putHold e.1 e.2.restarted [])) := by
    unfold Part.recoverHolds
    rw [hbooted.ledger]
    rfl
  have hall : Part.Boots (4 + (l.holds.length + 1)) (booted image l) recoverySteps q (recoverySteps.drop 5) :=
    (Part.boots_noCheckpoint happly hcheckpoint).trans
      (.recovers (congrArg some hrecover) (.inr fun _ => rfl) hbooted hsteps)
  exact exec_loadDone_posts hall (by omega) hq (by simpa [restartWrites] using hsome)

end Sys2Proof.Machine
end


section
/-! Proofs about entry into service at the end of start-up, and the end of the load of a new part (R190, R192). -/

-- One theorem after another: many small theorems elaborated at once need more threads than the check allows.
set_option Elab.async false

namespace Sys2Proof.Machine

open Sys2Proof

variable {image : List Word16} {l : Ledger}

/-! ### Entry into service (R192) -/

/-- Works of the settlement unit that bring entries into flight, one for each home (R192). -/
def flightWorks (homes : List Nat) : List Work := homes.map fun home => { owner := .settlement, tasks := [.intoFlight home] }

namespace Part

theorem assigns_flights (homes : List Nat) (p : Part) :
    homes.foldl (fun q home => q.assign .settlement [.intoFlight home]) p = p.withWork (p.store.work ++ flightWorks homes) := by
  induction homes generalizing p with
  | nil => simp [flightWorks, withWork]
  | cons home homes ih =>
    rw [List.foldl_cons, ih]
    show _ = p.withWork (p.store.work ++ ([{ owner := .settlement, tasks := [.intoFlight home] }] ++ flightWorks homes))
    rw [← List.append_assoc]
    rfl

theorem lineInService_eq (p : Part) : p.lineInService = { p with line := p.lineInService.line } := by
  unfold lineInService
  split
  · rfl
  · have hannounced : (p.withLine { p.line with state := .active }).announceSelf =
        { p with line := ((p.withLine { p.line with state := .active }).announceSelf).line } := by
      unfold announceSelf
      rw [sendFrame_eq]
      rfl
    generalize (p.withLine { p.line with state := .active }).announceSelf = announced at hannounced ⊢
    dsimp only
    split
    · exact hannounced
    · rw [sendFrame_eq]
      dsimp only
      rw [hannounced]

/-- What entry into service changes (R192). -/
theorem enterService_eq (p : Part) :
    p.enterService =
      ({ p with
          phase := .serving
          line := (({ p with phase := .serving } : Part).lineInService).line
          settlement := { p.settlement with heldTally := none }
          outputs := { p.outputs with card := p.outputs.card ++ [CardMessage.release.bytes] }
          holds := { p.holds with due := some (p.now + 250) }
          panel := p.enterService.panel } : Part).withWork (p.store.work ++ flightWorks (entryHomes p.ledger)) := by
  have hline := lineInService_eq { p with phase := .serving }
  unfold enterService
  generalize (({ p with phase := .serving } : Part).lineInService) = line at hline ⊢
  rw [hline]
  simp only [assigns_flights]
  split <;> split <;> rfl

/-- Work that has ended leaves the other works as they are (R164). -/
theorem withWork_ended (p : Part) (owner : Owner) (begun : Bool) (since : Option Nat) :
    p.withWork (putBack p.store.work { owner := owner, tasks := [], begun := begun, since := since }) = p := rfl

/-- A part that enters service with no job is calm (R30, R35, R36). -/
theorem enterService_calm {p : Part} (hjob : p.job = {}) (hpermit : p.permit = false) : p.enterService.Calm := by
  refine ⟨enterService_phase p, by simp [hjob], by simp [outOfFunds, hjob], by simp [runOutHolds, hjob], ?_⟩
  simp [permitHolds, hjob, hpermit]

end Part

/-! ### A part with nothing to recover (R190) -/

/-- A part that has ended its recovery, with deferred entries alone found (R82). -/
def recovered (image : List Word16) (l : Ledger) : Part where
  phase := .recovering
  config := loadImage image
  store := { stored := l }
  settlement := { floatOutstanding := floatSum l }

theorem recovered_booting (image : List Word16) (l : Ledger) : (recovered image l).Booting image l [] :=
  ⟨rfl, rfl, rfl, rfl, rfl, rfl, rfl, rfl, rfl⟩

/-- With no record to take up, the loader comes to the entry into service (R190). -/
theorem boots_recovered (happly : l.apply = none) (hcheckpoint : l.checkpoint = none) (hholds : l.holds = [])
    (hwalking : l.period.walking = false) : Part.Boots 9 (booted image l) recoverySteps (recovered image l) [.enterService] := by
  have hbooted := booted_booting image l
  have hledger : (booted image l).ledger = l := hbooted.ledger
  have hnone : (booted image l).recoverHolds = (booted image l, []) := by
    unfold Part.recoverHolds
    rw [hledger, hholds]
    rfl
  have hsums : (booted image l).holdsInService = booted image l := by
    unfold Part.holdsInService
    rw [hledger, hholds]
    rfl
  have hfloat : (booted image l).recoverFloat = recovered image l := by
    unfold Part.recoverFloat Part.withSettlement recovered
    rw [hledger]
    unfold booted
    rw [hcheckpoint]
    rfl
  have hrecovered := recovered_booting image l
  have hwalk : (recovered image l).recoverWalk = recovered image l := by
    unfold Part.recoverWalk
    rw [hrecovered.ledger, List.foldl_nil, hwalking]
    rfl
  exact (Part.boots_noCheckpoint happly hcheckpoint).trans
    (.recovers (more := []) (congrArg some hnone) (.inr fun _ => rfl) hbooted
      (.recovers (more := []) hbooted.quiet (.inr fun _ => rfl) hbooted
        (.recovers (more := []) (congrArg (fun q => some (q, [])) hsums) (.inr fun _ => rfl) hbooted
          (.recovers (more := []) (congrArg (fun q => some (q, [])) hfloat) (.inr fun _ => rfl) hrecovered
            (.recovers (more := []) (congrArg (fun q => some (q, [])) hwalk) (.inr fun _ => rfl) hrecovered (.stay _ _))))))

/-- With no record to take up, the end of the load enters service, and then each home's entry comes into flight (R190, R192). -/
theorem exec_loadDone_enters (happly : l.apply = none) (hcheckpoint : l.checkpoint = none) (hholds : l.holds = [])
    (hwalking : l.period.walking = false) :
    exec (.configLoadDone image) (loading l) =
      .next { pending := [], part := ((recovered image l).enterService.pump 4086).alert } := by
  have hboots := boots_recovered (image := image) happly hcheckpoint hholds hwalking
  have hpumps := hboots.pump .loader 4087 false rfl rfl
  obtain ⟨begun, hpump⟩ := hpumps
  have hcalm := Part.enterService_calm (p := recovered image l) rfl rfl
  have hstep : Task.enterService.step (recovered image l) = some ((recovered image l).enterService, []) := rfl
  have henter := Part.pump_next (owner := .loader) (tasks := []) (begun := begun) (recovered_booting image l).pending
    (recovered_booting image l).work hstep (.inr fun _ => rfl) 4086
  rw [exec_loadDone image l]
  rw [hpump, henter, List.nil_append, Part.withWork_ended, hcalm.react]

/-! ### A new part (R190, R192) -/

/-- The flags at the entry into service, with room in the journal (R175, R192). -/
theorem Part.enterService_panel {p : Part} (h : 16 < p.freeSlots) :
    p.enterService.panel = if p.config.outcome = .good then p.panel else p.panel.raise .config := by
  have hline := Part.lineInService_eq { p with phase := .serving }
  unfold Part.enterService
  generalize (({ p with phase := .serving } : Part).lineInService) = line at hline ⊢
  rw [hline]
  simp only [Part.assigns_flights]
  split
  · rename_i hlow
    have hsame : p.freeSlots ≤ 16 := hlow
    omega
  · split
    · rename_i hgood
      exact (if_pos (c := p.config.outcome = .good) hgood).symm
    · rename_i hgood
      exact (if_neg (c := p.config.outcome = .good) hgood).symm

/-- The line at the entry into service of a new part (R192). -/
theorem Part.lineInService_new {p : Part} (hline : p.line = {}) (hsettlement : p.settlement = {}) (hperiod : p.ledger.period.current = 0)
    (hstation : p.config.outcome ≠ .bad → p.station ≠ 0) :
    p.lineInService.line.state = (if p.config.outcome = .bad then .silent else .active) ∧
      p.lineInService.line.outbound.map (fun f => (f.dest, f.message)) =
        (if p.config.outcome = .bad then [] else [(0, .announce 0)]) := by
  unfold Part.lineInService
  by_cases hbad : p.config.outcome = .bad
  · rw [if_pos (show p.outOfService = true from decide_eq_true hbad), if_pos hbad, if_pos hbad]
    exact ⟨rfl, by rw [Part.withLine, hline]; rfl⟩
  · rw [if_neg (by simpa [Part.outOfService] using hbad), if_neg hbad, if_neg hbad]
    have hrefuses : (p.withLine { p.line with state := .active }).refusesFrame 0 = false := by
      have hstation' : ¬0 = (p.withLine { p.line with state := .active }).station := (hstation hbad).symm
      unfold Part.refusesFrame
      rw [decide_eq_false hstation']
      simp [Part.withLine, hline, Config.queuePlaces]
    have hnone : ((p.withLine { p.line with state := .active }).announceSelf).settlement.heldTally = none := by
      unfold Part.announceSelf
      rw [Part.sendFrame_eq, Part.withLine, hsettlement]
    dsimp only
    rw [hnone]
    dsimp only
    unfold Part.announceSelf
    rw [Part.sendFrame_line hrefuses, show (p.withLine { p.line with state := .active }).ledger = p.ledger from rfl, hperiod,
      Part.withLine, hline]
    exact ⟨rfl, rfl⟩

/-- A station of an image that is not BAD has a number (R188). -/
theorem station_of_outcome {image : List Word16} (h : configOutcome image ≠ .bad) : (clampValues image).station ≠ 0 := by
  intro hzero
  refine h (if_pos ?_)
  have hword : imageWord image 0 = 0 := hzero
  rw [hword]
  simp [servableStation]

/-- A new part that has entered service (R192). -/
theorem new_entered (image : List Word16) :
    let q := (recovered image {}).enterService
    q.phase = .serving ∧ q.job = {} ∧ q.permit = false ∧ q.path = {} ∧ q.store.stored = {} ∧ q.store.queue = [] ∧
      q.outputs.card = [[0x08, 0xF8]] ∧ q.holds.due = some 250 ∧ q.panel.isSet .config = decide (configOutcome image ≠ .good) ∧
      q.line.state = (if configOutcome image = .bad then .silent else .active) ∧
      q.line.outbound.map (fun f => (f.dest, f.message)) = (if configOutcome image = .bad then [] else [(0, .announce 0)]) := by
  intro q
  have hentered : q = _ := (recovered image {}).enterService_eq
  have hroom : 16 < (recovered image {}).freeSlots := by show (16 : Int) < journalFree {} 0; decide
  have hpanel : q.panel = if configOutcome image = .good then {} else ({} : Panel).raise .config := Part.enterService_panel hroom
  have hline := Part.lineInService_new (p := { recovered image {} with phase := .serving }) rfl rfl rfl station_of_outcome
  have hflag : q.panel.isSet .config = decide (configOutcome image ≠ .good) := by
    rw [hpanel]
    by_cases hgood : configOutcome image = .good
    · rw [if_pos hgood, decide_eq_false (by simp [hgood])]
      decide
    · rw [if_neg hgood, decide_eq_true hgood]
      decide
  refine ⟨Part.enterService_phase _, ?_, ?_, ?_, ?_, ?_, ?_, ?_, hflag, by rw [hentered]; exact hline⟩
  all_goals
    rw [hentered]
    rfl

/-- A new part enters service at the end of its load (R190, R192). -/
theorem new_enters (image : List Word16) : ∃ t, exec (.configLoadDone image) State.reset = .next t ∧ t.part.phase = .serving ∧
    t.part.job = {} ∧ t.part.permit = false ∧ t.part.path = {} ∧ t.part.store.stored = {} ∧ t.part.store.queue = [] ∧
    t.part.outputs.card = [[0x08, 0xF8]] ∧ t.part.holds.due = some 250 ∧
    t.part.panel.isSet .config = decide (configOutcome image ≠ .good) ∧
    t.part.line.state = (if configOutcome image = .bad then .silent else .active) ∧
    t.part.line.outbound.map (fun f => (f.dest, f.message)) =
      (if configOutcome image = .bad then [] else [(0, .announce 0)]) := by
  have hrest : (recovered image {}).enterService.pump 4086 = (recovered image {}).enterService := by
    refine Part.pump_rest ?_ ?_ 4086 <;> rw [Part.enterService_eq] <;> rfl
  have hexec := exec_loadDone_enters (image := image) (l := {}) rfl rfl rfl rfl
  rw [show loading {} = State.reset from rfl, hrest] at hexec
  have hentered := new_entered image
  generalize (recovered image {}).enterService = q at hexec hentered
  exact ⟨_, hexec, hentered⟩

end Sys2Proof.Machine
end


section
/-! Proofs about the end of the load on a part with deferred entries: each comes into flight at the entry into service, with its first
send (R126, R140, R192). -/

-- One theorem after another: many small theorems elaborated at once need more threads than the check allows.
set_option Elab.async false

namespace Sys2Proof.Machine

open Sys2Proof

variable {image : List Word16} {l : Ledger}

/-! ### An entry whose send is counted (R126) -/

/-- A listed entry whose attempts a send has raised (R126). -/
def countedEntry (e : Nat × DeferredEntry) : Nat × DeferredEntry := (e.1, { e.2 with attempts := min 65535 (e.2.attempts + 1) })

/-- The write that raises them. -/
def countedWrite (e : Nat × DeferredEntry) : Write := .deferred e.1 (some (countedEntry e).2)

/-- The flight of an entry sent once at the entry into service. -/
def openingFlight (e : Nat × DeferredEntry) : Flight where
  home := e.2.home
  number := e.2.number
  slow := false
  sends := 1
  due := 400

/-- A table is rising by its numbers alone. -/
theorem rising_iff_keys {α : Type} {t : Table α} : Rising t ↔ (t.map Prod.fst).Pairwise (· < ·) := List.pairwise_map.symm

theorem tablePut_at {α : Type} {behind : List (Nat × α)} {k : Nat} {v w : α} :
    ∀ {ahead : List (Nat × α)}, Rising (ahead ++ (k, v) :: behind) →
      tablePut (ahead ++ (k, v) :: behind) k w = ahead ++ (k, w) :: behind := by
  intro ahead
  induction ahead with
  | nil => exact fun _ => by simp [tablePut]
  | cons x ahead ih =>
    intro hrising
    obtain ⟨i, u⟩ := x
    obtain ⟨hlt, hrest⟩ := List.pairwise_cons.mp hrising
    have hik : i < k := hlt (k, v) (by simp)
    rw [List.cons_append, tablePut, if_neg (by omega), if_neg (by omega), ih hrest, List.cons_append]

namespace Part

/-- Entries that have come into flight, and those whose turn has not come (R140, R192). -/
structure Lifts (image : List Word16) (float : Nat) (sent rest : List (Nat × DeferredEntry)) (p : Part) : Prop where
  calm : p.Calm
  now : p.now = 0
  config : p.config = loadImage image
  work : p.store.work = []
  pending : p.store.pending = []
  stored : p.store.stored.deferred = sent ++ rest
  newest : p.ledger.deferred = sent.map countedEntry ++ rest
  queued : p.store.queue.map Post.write = sent.map countedWrite
  flights : p.settlement.flights = sent.map openingFlight
  floats : p.settlement.floatOutstanding = float

/-- The entries of a list whose homes and numbers all differ, and none of whose homes is this station (R126). -/
structure Distinct (image : List Word16) (entries : List (Nat × DeferredEntry)) : Prop where
  rising : Rising entries
  few : entries.length ≤ 8
  homes : (entries.map (fun e => e.2.home)).Nodup
  numbers : (entries.map (fun e => e.2.number)).Nodup
  remote : ∀ e ∈ entries, e.2.home ≠ (clampValues image).station

variable {p : Part} {float : Nat} {sent rest : List (Nat × DeferredEntry)} {e : Nat × DeferredEntry}

theorem rising_counted (h : Rising (sent ++ rest)) : Rising (sent.map countedEntry ++ rest) := by
  rw [rising_iff_keys] at *
  rw [List.map_append, List.map_map]
  rwa [List.map_append] at h

/-- Two entries of the list share no home and no number. -/
theorem Distinct.others (h : Distinct image (sent ++ e :: rest)) :
    ∀ x ∈ sent.map countedEntry ++ e :: rest, x.1 ≠ e.1 → x.2.home ≠ e.2.home ∧ x.2.number ≠ e.2.number := by
  have hapart (f : Nat × DeferredEntry → Nat) (hf : ((sent ++ e :: rest).map f).Nodup) : ∀ x ∈ sent ++ rest, f x ≠ f e := by
    rw [List.map_append, List.map_cons] at hf
    intro x hx hsame
    refine (List.nodup_middle.mp hf).notMem ?_
    rw [← hsame, ← List.map_append]
    exact List.mem_map_of_mem hx
  intro x hx hne
  obtain ⟨y, hy, hhome, hnumber⟩ : ∃ y ∈ sent ++ rest, x.2.home = y.2.home ∧ x.2.number = y.2.number := by
    rcases List.mem_append.mp hx with hx | hx
    · obtain ⟨y, hy, rfl⟩ := List.mem_map.mp hx
      exact ⟨y, List.mem_append_left _ hy, rfl, rfl⟩
    · rcases List.mem_cons.mp hx with rfl | hx
      · exact absurd rfl hne
      · exact ⟨x, List.mem_append_right _ hx, rfl, rfl⟩
  rw [hhome, hnumber]
  exact ⟨hapart (fun x => x.2.home) h.homes y hy, hapart (fun x => x.2.number) h.numbers y hy⟩

theorem flown_withWork (p : Part) (work : List Work) (e : DeferredEntry) : (p.withWork work).flown e = (p.flown e).withWork work :=
  sendFrame_withWork { p with settlement := { p.settlement with flights := p.settlement.flights ++ [p.firstFlight e] } } work e.home
    (settleMessage e)

/-- The part once the next entry has come into flight. -/
theorem Lifts.next (h : Lifts image float sent (e :: rest) p) (hrising : Rising (sent ++ e :: rest)) :
    Lifts image float (sent ++ [e]) rest ((p.flown e.2).joined [countedPost e.1 e.2]) := by
  have hstore := p.flown_store e.2
  have hsettlement : (p.flown e.2).settlement.flights = p.settlement.flights ++ [p.firstFlight e.2] := by
    unfold flown
    rw [sendFrame_eq]
  have hledger : ((p.flown e.2).joined [countedPost e.1 e.2]).ledger = program p.ledger (countedWrite e) := by
    have hnewest := Store.newest_joined (s := (p.flown e.2).store) (by rw [hstore]; exact h.pending) (countedPost e.1 e.2)
    rw [hstore] at hnewest
    unfold Part.ledger joined
    dsimp only
    rw [hstore]
    exact hnewest
  refine ⟨(h.calm.flown e.2).joined _, ?_, ?_, ?_, ?_, ?_, ?_, ?_, ?_, ?_⟩
  case refine_1 => exact (by unfold flown; rw [sendFrame_eq]; exact h.now : (p.flown e.2).now = 0)
  case refine_2 => exact (by unfold flown; rw [sendFrame_eq]; exact h.config : (p.flown e.2).config = loadImage image)
  case refine_3 => exact (by rw [hstore]; exact h.work : (p.flown e.2).store.work = [])
  case refine_4 => exact (by rw [hstore]; exact h.pending : (p.flown e.2).store.pending = [])
  case refine_5 =>
    show (p.flown e.2).store.stored.deferred = _
    rw [hstore, h.stored, List.append_assoc]
    rfl
  case refine_6 =>
    rw [hledger]
    show tablePut p.ledger.deferred e.1 (countedEntry e).2 = _
    rw [h.newest, tablePut_at (v := e.2) (rising_counted hrising), List.map_append, List.append_assoc]
    rfl
  case refine_7 =>
    show ((p.flown e.2).store.queue ++ [_]).map Post.write = _
    rw [hstore, List.map_append, h.queued, List.map_append]
    rfl
  case refine_8 =>
    show (p.flown e.2).settlement.flights = _
    rw [hsettlement, h.flights, List.map_append, firstFlight, h.now]
    rfl
  case refine_9 => exact (by unfold flown; rw [sendFrame_eq]; exact h.floats : (p.flown e.2).settlement.floatOutstanding = float)

/-- The next entry comes into flight in three steps, while the others wait for their turn (R126, R192). -/
theorem Lifts.leads (h : Lifts image float sent (e :: rest) p) (hd : Distinct image (sent ++ e :: rest)) (others : List Work) :
    Leads others 3 p [.intoFlight e.2.home] ((p.flown e.2).joined [countedPost e.1 e.2]) := by
  have hmem : e ∈ sent ++ e :: rest := by simp
  have hkeys := hd.others
  have hrising := rising_counted hd.rising
  let waiting := p.withWork others
  have hget : tableGet waiting.ledger.deferred e.1 = some e.2 := by
    show tableGet p.ledger.deferred e.1 = _
    rw [h.newest]
    exact hrising.mem_iff.mp (by simp)
  have heligible : waiting.isEligible e.1 e.2.number = true := by
    have hstored : tableGet waiting.store.stored.deferred e.1 = some e.2 := by
      show tableGet p.store.stored.deferred e.1 = _
      rw [h.stored]
      exact hd.rising.mem_iff.mp hmem
    unfold isEligible
    rw [hstored]
    simp
  have hnone : waiting.flightFor e.2.home = none := by
    refine List.find?_eq_none.mpr fun f hf => ?_
    have hf' : f ∈ sent.map openingFlight := by rw [← h.flights]; exact hf
    obtain ⟨x, hx, rfl⟩ := List.mem_map.mp hf'
    have hapart := hkeys (countedEntry x) (List.mem_append_left _ (List.mem_map_of_mem hx))
      (Nat.ne_of_lt ((List.pairwise_append.mp hd.rising).2.2 x hx e List.mem_cons_self))
    have hhome : x.2.home ≠ e.2.home := hapart.1
    exact fun htest => hhome (of_decide_eq_true htest)
  have hremote : e.2.home ≠ waiting.config.values.station := by
    show _ ≠ p.config.values.station
    rw [h.config]
    exact hd.remote e hmem
  obtain ⟨hinto, hsend, hcount⟩ := intoFlight_steps (p := waiting) h.calm.1 hremote hnone
    (by show Rising p.ledger.deferred; rw [h.newest]; exact hrising) hget heligible
    (by show ∀ x ∈ p.ledger.deferred, _; rw [h.newest]; exact hkeys)
  have hstore := p.flown_store e.2
  have hlength : p.store.queue.length = sent.length := by simpa using congrArg List.length h.queued
  have hshort : sent.length < 8 := by
    have hfew := hd.few
    rw [List.length_append, List.length_cons] at hfew
    omega
  have hplace : p.store.queue.length < 8 := by omega
  have hname : ∀ post ∈ (p.flown e.2).store.queue, post.write.name ≠ .deferred e.1 := by
    intro post hpost hsame
    rw [hstore] at hpost
    have hwrite : post.write ∈ sent.map countedWrite := by rw [← h.queued]; exact List.mem_map_of_mem hpost
    obtain ⟨x, hx, hxe⟩ := List.mem_map.mp hwrite
    rw [← hxe] at hsame
    exact absurd (RecordName.deferred.inj hsame)
      (Nat.ne_of_lt ((List.pairwise_append.mp hd.rising).2.2 x hx e List.mem_cons_self))
  have hflown : waiting.flown e.2 = (p.flown e.2).withWork others := p.flown_withWork others e.2
  have hpost : ((p.flown e.2).withWork others).tryPost (countedPost e.1 e.2).write [] =
      some (((p.flown e.2).joined [countedPost e.1 e.2]).withWork others) :=
    tryPost_joins (p := (p.flown e.2).withWork others) (w := (countedPost e.1 e.2).write) (by show (p.flown e.2).store.queue.length < 8; rw [hstore]; exact hplace) hname []
  rw [hflown] at hsend hcount
  have hcalm := h.calm.flown e.2
  refine .step (q := p.flying e.2) (more := [.send e.2.home]) hinto (.inl hplace) h.pending (h.calm.same ⟨rfl, rfl, rfl, rfl, rfl⟩) ?_
  refine .step (q := p.flown e.2) (more := [.countSend e.2.number]) hsend (.inl hplace) (by rw [hstore]; exact h.pending) hcalm ?_
  refine .step (q := (p.flown e.2).joined [countedPost e.1 e.2]) (more := []) ?_ (.inl (by rw [hstore]; exact hplace))
    (by show (p.flown e.2).store.pending = []; rw [hstore]; exact h.pending) (hcalm.joined _) (.done _)
  rw [hcount, justPost, hpost]
  rfl

theorem Calm.withWork {p : Part} (h : p.Calm) (work : List Work) : (p.withWork work).Calm := h.same ⟨rfl, rfl, rfl, rfl, rfl⟩

theorem withWork_own (p : Part) : p.withWork p.store.work = p := rfl

/-! ### One home after another (R140, R192) -/

theorem flightWorks_stand (homes : List Nat) : ∀ w ∈ flightWorks homes, Stands w := by
  intro w hw
  obtain ⟨home, -, rfl⟩ := List.mem_map.mp hw
  exact ⟨rfl, rfl, Owner.noConfusion⟩

theorem flightWorks_quiet (homes : List Nat) (q : Part) : q.Quiet (flightWorks homes) := by
  intro w hw t tasks htasks work
  obtain ⟨home, -, rfl⟩ := List.mem_map.mp hw
  obtain rfl : Task.intoFlight home = t := List.head_eq_of_cons_eq htasks
  rfl

/-- All entries whose turn has not come come into flight. -/
theorem Lifts.pumps : ∀ {rest sent : List (Nat × DeferredEntry)} {p : Part}, Lifts image float sent rest p →
    Distinct image (sent ++ rest) →
    ∃ q, Pumps (3 * rest.length) (p.withWork (flightWorks (rest.map (fun e => e.2.home)))) q ∧ Lifts image float (sent ++ rest) [] q := by
  intro rest
  induction rest with
  | nil =>
    intro sent p h _
    have hnone : p.withWork [] = p := withWork_nil h.work
    exact ⟨p, by rw [List.map_nil, flightWorks, List.map_nil, hnone]; exact pumps_rest h.work h.pending, by rwa [List.append_nil]⟩
  | cons e rest ih =>
    intro sent p h hd
    have hnext := h.next hd.rising
    have hsame : sent ++ [e] ++ rest = sent ++ e :: rest := by simp
    obtain ⟨q, hpumps, hq⟩ := ih hnext (by rwa [hsame])
    rw [hsame] at hq
    refine ⟨q, ?_, hq⟩
    have hleads := (h.leads hd (flightWorks (rest.map (fun e => e.2.home)))).pumps (flightWorks_stand _) (flightWorks_quiet _) .settlement
      hpumps false h.pending
    rw [List.length_cons, show 3 * (rest.length + 1) = 3 + 3 * rest.length by ring]
    exact hleads

end Part

/-! ### The entry into service (R192) -/

/-- The part that enters service, its entries still to come into flight. -/
theorem recovered_lifts (image : List Word16) (l : Ledger) :
    Part.Lifts image (floatSum l) [] l.deferred ((recovered image l).enterService.withWork []) := by
  have hcalm := (Part.enterService_calm (p := recovered image l) rfl rfl).withWork []
  refine ⟨hcalm, ?_, ?_, ?_, ?_, ?_, ?_, ?_, ?_, ?_⟩
  all_goals
    rw [Part.enterService_eq]
    rfl

/-- With deferred entries alone the part enters service with each in flight, its first send counted (R82, R140). -/
theorem deferred_enters (hd : Part.Distinct image l.deferred) (happly : l.apply = none) (hcheckpoint : l.checkpoint = none)
    (hholds : l.holds = []) (hwalking : l.period.walking = false) :
    ∃ t, exec (.configLoadDone image) (loading l) = .next t ∧ t.part.phase = .serving ∧
      t.part.settlement.flights = l.deferred.map openingFlight ∧
      t.part.store.queue.map Post.write = l.deferred.map countedWrite ∧ t.part.settlement.floatOutstanding = floatSum l := by
  obtain ⟨q, hpumps, hq⟩ := (recovered_lifts image l).pumps hd
  have hwork : (recovered image l).enterService.store.work = flightWorks (l.deferred.map (fun e => e.2.home)) := by
    have hhomes : entryHomes (recovered image l).ledger = l.deferred.map (fun e => e.2.home) := hd.homes.dedup
    rw [Part.enterService_eq, hhomes]
    rfl
  have hpump : (recovered image l).enterService.pump 4086 = q := by
    have hfew := hd.few
    have hdone := hpumps 4086 (by omega)
    rwa [Part.withWork_withWork, ← hwork, Part.withWork_own] at hdone
  have hexec := exec_loadDone_enters (image := image) happly hcheckpoint hholds hwalking
  rw [hpump] at hexec
  exact ⟨_, hexec, hq.calm.1, hq.flights, hq.queued, hq.floats⟩

end Sys2Proof.Machine
end


section
/-! Proof that a part enters service at the end of its load, or recovers its records first (R103, R139, R169, R190, R192). -/

-- One theorem after another: many small theorems elaborated at once need more threads than the check allows.
set_option Elab.async false

namespace Sys2Proof.Machine

open Sys2Proof

/-- A debit with its fields written out (R114). -/
theorem Account.debited_eq (a : Account) (held charge impressions sequence : Nat) :
    a.debited held charge impressions sequence =
      { a with
        overdrawn := a.overdrawn || decide (available a held < charge)
        spent := min 4294967295 (a.spent + charge)
        impressions := min 4294967295 (a.impressions + impressions)
        credit := a.credit.debited charge
        lastApply := sequence } := rfl

theorem HoldRecord.restarted_eq (r : HoldRecord) :
    r.restarted = { r with touched := 0, state := if r.state = .lapsed then .lapsed else .active } := by
  obtain ⟨id, account, station, job, amount, state, touched⟩ := r
  cases state <;> rfl

/-- Settles O20, by the steps of the loader, each from the writes queued before it. -/
theorem newPartEntersService : Obligations.NewPartEntersService := by
  unfold Obligations.NewPartEntersService
  refine ⟨new_enters, fun image l hl => ?_⟩
  obtain ⟨-, hholds, -, hdeferred, -⟩ := hl
  intro s v posts
  refine ⟨fun r happly slot a hfound => ?_, fun happly =>
    ⟨fun c slot hcheckpoint hfunding hgood hnewest hentry hslot => ?_, fun hcheckpoint => ⟨fun hsome hfew => ?_, ?_⟩⟩⟩
  · intro held debit
    have hposts := recovers_apply (image := image) happly hfound
    have hdebit : debit = recoveryDebits l r slot a := by
      unfold debit held recoveryDebits
      rw [otherHeld_eq, Account.debited_eq]
      cases a.credit <;> rfl
    rw [hdebit]
    refine ⟨fun hfloat => ?_, fun id hid => ?_⟩
    · have hfree : freeWrites l r = [.mark r.station r.job] := by rw [freeWrites, hfloat]
      rw [hfree, List.append_assoc] at hposts
      exact hposts
    · have hfree : freeWrites l r = recoveryRemoval l id := by rw [freeWrites, hid]
      rw [hfree, recoveryRemoval] at hposts
      cases hfind : findHold l id with
      | none =>
        rw [hfind] at hposts
        exact hposts
      | some e =>
        rw [hfind] at hposts
        exact hposts
  · exact recovers_checkpoint happly hcheckpoint hfunding hgood hnewest hentry hslot
  · have hposts := recovers_holds (image := image) hholds happly hcheckpoint hsome hfew
    simp only [restartWrites, HoldRecord.restarted_eq] at hposts
    exact hposts
  · intro hnone hwalking hfew hhomes hnumbers hremote
    have hd : Part.Distinct image l.deferred := ⟨hdeferred, hfew, hhomes, hnumbers, hremote⟩
    obtain ⟨t, hexec, hphase, hflights, hqueue, hfloat⟩ := deferred_enters (image := image) hd happly hcheckpoint hnone hwalking
    exact ⟨t, hexec, hphase, hflights, hqueue, hfloat⟩

end Sys2Proof.Machine
end
